-- ==== Sys2Proof/Word.lean ====
section
/-! DEFINITION. The bit vectors of the Q4: bytes on the link, 32-bit serial quantities and 40-bit link addresses. -/

namespace Sys2Proof

/-- One byte of link data (Table 4). -/
abbrev Byte := BitVec 8

/-- A 32-bit quantity: SEQ, PI, OP, a check word or an argument (Conventions, Serial arithmetic). -/
abbrev Word := BitVec 32

/-- A 40-bit byte address on the link (Table 4). -/
abbrev Addr := BitVec 40

end Sys2Proof
end

