-- ==== Sys2Proof/Syntax.lean ====
section
/-! DEFINITION. The commands of the Q4: one constructor of `Instr` for each row of spec/opcode_table.json. A command is an event
at the part's pins or inside it (R18 to R184 name them); its operands are what the event brings from outside. -/

namespace Sys2Proof

/-- Operation of a link request (Table 4). -/
inductive LinkOp where
  | read
  | write
  deriving DecidableEq, Repr

/-- Status of a link response (R2). -/
inductive LinkStatus where
  | ok
  | fault
  deriving DecidableEq, Repr

/-- A request the P-side presents (R2, Table 4). `units` is the length field: 0 to 15 stand for 1 to 16 units of 64 bytes. -/
structure LinkRequest where
  op : LinkOp
  addr : Addr
  units : Fin 16
  tag : Fin 64
  data : List Byte
  deriving DecidableEq, Repr

/-- Length in bytes of a request (R2). -/
def LinkRequest.length (r : LinkRequest) : Nat := 64 * (r.units.val + 1)

/-- A response the M-side brings (R2): the tag it answers, its status and, for a READ, its data. -/
structure LinkResponse where
  tag : Fin 128
  status : LinkStatus
  data : List Byte
  deriving DecidableEq, Repr

/-- The straps as PORn samples them (R185). -/
structure Straps where
  apsel : Fin 4
  tpol : Bool
  storeEn : Bool
  deriving DecidableEq, Repr

/-- What the store answers to the read of the record (R181): no acknowledgement; the bytes it holds by the Q4's own writes;
or bytes that were put into it before it was fitted. -/
inductive StoreReply where
  | noAck
  | stored
  | holding (bytes : List Byte)
  deriving DecidableEq, Repr

/-- The four panel lines (R176). -/
inductive PanelLine where
  | dump
  | mask
  | enter
  | exit
  deriving DecidableEq, Repr

/-- The commands, in the order of spec/opcode_table.json. -/
inductive Instr where
  | powerOnReset
  | storeLoadStart (straps : Straps)
  | storeLoadEnd (reply : StoreReply)
  | tporExpiry
  | linkReset
  | linkResetEnd
  | pRequestAccept (r : LinkRequest)
  | headerWriteArrival (tag : Fin 64)
  | payloadWriteArrival (tag : Fin 64)
  | tapReadArrival (tag : Fin 64)
  | reviewReadArrival (tag : Fin 64)
  | mSideIssue (tag : Fin 128)
  | mSideHoldOffChange (holding : Bool)
  | passResponse (r : LinkResponse)
  | captureWriteResponse (r : LinkResponse)
  | tapSegmentPartResponse (r : LinkResponse)
  | maskPartResponse (r : LinkResponse)
  | reviewPartResponse (r : LinkResponse)
  | patternResponse (r : LinkResponse)
  | patternRequestIssue
  | drainedResponse (r : LinkResponse)
  | unknownTagResponse (r : LinkResponse)
  | responseReturn (tag : Fin 64)
  | panelLineChange (line : PanelLine) (pressed : Bool)
  | panelInitialState (line : PanelLine)
  | dumpPress
  | maskPress
  | maskRelease
  | enterPress
  | exitPress
  | panelRelease (line : PanelLine)
  | buildBlinkToggle
  | storePageComplete
  | storeTimeout
  deriving DecidableEq, Repr

end Sys2Proof
end

