-- ==== Sys2Proof/Config.lean ====
section
/-! DEFINITION. The fixed numbers of the part (Table 3). The spec leaves no value free for which a run goes on, so no opaque
constant stands here; what the model chose where the spec is silent stands in the assumption log. -/

namespace Sys2Proof.Config

/-- Slots of the aperture: 8 capture, 4 times 8 tap, 256 review (Table 8). -/
def apertureSlots : Nat := 296

/-- Timeline capacity (R62). -/
def timelineCapacity : Nat := 4096

/-- Edit list capacity (R81). -/
def editCapacity : Nat := 32

/-- Gap tolerance ahead and duplicate window behind (R30). -/
def sequenceWindow : Int := 64

/-- Internal tags a tap or review read reserves (R15). -/
def readTags : Nat := 5

/-- Internal tags the pattern test may hold (R15). -/
def patternTags : Nat := 8

/-- Free internal tags the pattern test needs before it issues (R15). -/
def patternFreeTags : Nat := 6

/-- Longest mark, and farthest projection ahead of the live SEQ (R94, R95). -/
def markMax : Nat := 1024

/-- Maximum of the per-tap counters, and the half-scale value that latches COUNT_HALF (R174). -/
def counterMax : Nat := 65535

/-- See `counterMax`. -/
def counterHalf : Nat := 32768

/-- Maximum of the counts of 0 to 255: underrun run, since_last, commands executed, pattern failures, extension count. -/
def countMax : Nat := 255

/-- Saturation of a segment's fault count (R49). -/
def faultMax : Nat := 7

/-- Entries of the hard retire list (R52). -/
def hardListMax : Nat := 64

/-- Bytes of the store record, and bytes and number of its pages (R180, R183). -/
def recordBytes : Nat := 256

/-- See `recordBytes`. -/
def pageBytes : Nat := 16

/-- See `recordBytes`. -/
def pageCount : Nat := 16

end Sys2Proof.Config
end

