-- ==== Sys2Proof/Machine/Types.lean ====
section
/-! DEFINITION. The plain data the Q4's blocks hold (Table 1 and the tables of each chapter). Types only: no rule is decided here. -/

namespace Sys2Proof.Machine

/-- One value for each of the four taps. -/
structure PerTap (α : Type) where
  t0 : α
  t1 : α
  t2 : α
  t3 : α
  deriving DecidableEq, Repr

/-! ### Configuration (R180) -/

/-- Geometry (R180): byte addresses of the two bases, S code, N and Q. -/
structure Geometry where
  apertureBase : Addr
  backingBase : Addr
  sCode : Fin 4
  n : Nat
  q : Nat
  deriving DecidableEq, Repr

/-- Start policy of a tap (Table 39). -/
inductive StartPolicy where
  | build
  | wait
  deriving DecidableEq, Repr

/-- The per-tap part of the working configuration (R180). De, P, K and G and the start policy have their one home here; the
tap engine reads them from here (log entry 14). -/
structure TapSettings where
  enabled : Bool
  policy : StartPolicy
  de : Nat
  p : Nat
  k : Nat
  g : Nat
  deriving DecidableEq, Repr

/-- Check policy (R168). -/
inductive CheckPolicy where
  | serve
  | repeatSource
  deriving DecidableEq, Repr

/-- The working configuration (R180). -/
structure WorkingConfig where
  geometry : Geometry
  taps : PerTap TapSettings
  dumpLength : Nat
  maskLead : Nat
  maskLimit : Nat
  snapReach : Nat
  panelTaps : BitVec 4
  tallyTap : Fin 4
  checkPolicy : CheckPolicy
  faultThreshold : Nat
  stallLimit : Nat
  lockAtStart : Bool
  deriving DecidableEq, Repr

/-- A store write in progress (R183): the record fixed at the command, and the number of pages acknowledged. -/
structure StoreWrite where
  record : List Byte
  page : Nat
  deriving DecidableEq, Repr

/-- Store controller (R180). The store-busy flag is `write.isSome`. `invalid` is the store-invalid condition of R178.
`contents` is what the serial memory holds (R184). -/
structure StoreController where
  config : WorkingConfig
  pendingGeometry : Geometry
  keptHard : List Nat
  write : Option StoreWrite
  invalid : Bool
  contents : List Byte
  deriving DecidableEq, Repr

/-- Where start-up stands: PORn asserted, the store load running, or the load ended (R18, R181, R182). -/
inductive StartPhase where
  | resetHeld
  | loading
  | running
  deriving DecidableEq, Repr

/-- Start-up, the sampled straps (R185) and the level of LRSTn. -/
structure StartUp where
  phase : StartPhase
  straps : Straps
  lrstAsserted : Bool
  deriving DecidableEq, Repr

/-! ### The link interposer (chapter 1) -/

/-- Class of a P-side request (R6, Table 7). CAPTURE stands also for a capture write that has not yet arrived. -/
inductive ReqClass where
  | pass
  | illegal
  | guarded
  | capture
  | absorbed
  | zero
  | tap
  | review
  deriving DecidableEq, Repr

/-- Phase of an in-flight request (Table 5). A tag with no entry is IDLE. `arriving` is a request accepted and not yet handed
to its block (R11, R12, R15). -/
inductive ReqPhase where
  | arriving
  | waitingM
  | ready
  | draining
  deriving DecidableEq, Repr

/-- A contiguous run of MASK bytes of a fill plan: the offsets `lo` to `hi - 1`, the mask image and LMASK (R12). -/
structure MaskRun where
  phys : Nat
  lmask : Nat
  lo : Nat
  hi : Nat
  deriving DecidableEq, Repr

/-- A contiguous run of SEGMENT bytes of a fill plan: the offsets `lo` to `hi - 1` of segment `phys` (R12). -/
structure SegmentRun where
  phys : Nat
  lo : Nat
  hi : Nat
  deriving DecidableEq, Repr

/-- A fill plan (R12) for the bytes `offset` to `offset + length - 1`. A byte in none of the three runs is ZERO. -/
structure FillPlan where
  offset : Nat
  length : Nat
  header : Option (List Byte)
  segment : Option SegmentRun
  mask : Option MaskRun
  deriving DecidableEq, Repr

/-- The bytes a plan takes from one answered M-side READ: the segment offset of the first and the bytes (R13, R14). -/
structure PartData where
  isMask : Bool
  base : Nat
  bytes : List Byte
  deriving DecidableEq, Repr

/-- A composed P-side response: status and data (R2). -/
structure Reply where
  status : LinkStatus
  data : List Byte
  deriving DecidableEq, Repr

/-- An entry of the in-flight table (Table 5). `reserved` are the internal tags held from acceptance to arrival (R15), `owed`
marks a FAULT response owed by a link reset (R17). -/
structure InFlight where
  req : LinkRequest
  cls : ReqClass
  phase : ReqPhase
  reserved : List (Fin 128)
  parts : Nat
  faultSeen : Bool
  targets : List Nat
  plan : Option FillPlan
  received : List PartData
  reply : Option Reply
  owed : Bool
  deriving DecidableEq, Repr

/-- What an M-side request is for (R3). `base` is the segment offset it reads from. A mask part takes the offsets `lo` to `hi - 1` of
what it reads. -/
inductive MUse where
  | pass
  | captureWrite (seg : Nat)
  | tapSegment (tag : Fin 64) (tap : Fin 4) (seg base : Nat)
  | maskPart (tag : Fin 64) (seg base lo hi : Nat)
  | reviewPart (tag : Fin 64) (seg base : Nat)
  | patternWrite (seg : Nat)
  | patternRead (seg base : Nat)
  deriving DecidableEq, Repr

/-- An M-side request (Table 4), with the mark a link reset sets on it (R17). -/
structure MRequest where
  tag : Fin 128
  op : LinkOp
  addr : Addr
  length : Nat
  data : List Byte
  use : MUse
  draining : Bool
  deriving DecidableEq, Repr

/-- A response as it left on the P-side. -/
structure Returned where
  tag : Fin 64
  reply : Reply
  deriving DecidableEq, Repr

/-- Link interposer. `presented` is the request the P-side waits with (R4), `inflight` the in-flight table in order of acceptance,
`planned` the M-side requests not yet issued, `outstanding` those issued and not yet answered. `lastReturned` is the model's
own: the response last put on the P-side (log entry 24). -/
structure Interposer where
  geometry : Option Geometry
  presented : Option LinkRequest
  mHoldOff : Bool
  inflight : List InFlight
  planned : List MRequest
  outstanding : List MRequest
  lastReturned : Option Returned
  deriving DecidableEq, Repr

/-! ### The capture unit (chapter 2) -/

/-- Gap causes (Tables 25 and 26). -/
inductive GapCause where
  | gap
  | broken
  | lost
  | evicted
  deriving DecidableEq, Repr

/-- KIND of a capture header (Table 11). -/
inductive SegmentKind where
  | program
  | maskSource
  | controlOnly
  deriving DecidableEq, Repr

/-- A control entry (Table 12). -/
structure ControlEntry where
  code : Byte
  taps : BitVec 4
  argA : BitVec 16
  argB : Word
  deriving DecidableEq, Repr

/-- The header a context keeps (Table 17). -/
structure CaptureHeader where
  seq : Word
  kind : SegmentKind
  cutOk : Bool
  la : Nat
  lv : Nat
  check : Word
  controls : List ControlEntry
  deriving DecidableEq, Repr

/-- State of a capture context (R26). -/
inductive ContextState where
  | filling
  | completeWaiting
  | discard
  deriving DecidableEq, Repr

/-- Coherence of a context's payload (Table 17). -/
inductive Coherence where
  | clean
  | rewritten
  | hole
  deriving DecidableEq, Repr

/-- A capture context (Table 17). `body` is absent in DISCARD. -/
structure ContextBody where
  phys : Nat
  header : CaptureHeader
  fill : Nat
  running : Word
  coherence : Coherence
  writesOut : Nat
  faultSeen : Bool
  leadRun : List GapCause
  trailingRun : List GapCause
  deriving DecidableEq, Repr

/-- See `ContextBody`. -/
structure Context where
  slot : Nat
  state : ContextState
  body : Option ContextBody
  deriving DecidableEq, Repr

/-- Capture unit (R25); the contexts stand in open order, oldest first. -/
structure CaptureUnit where
  contexts : List Context
  expected : Option Word
  pendingRun : List GapCause
  deriving DecidableEq, Repr

/-! ### Timeline, quarantine and segment pool (chapters 3, 4 and 8) -/

/-- Origin of an edit (Table 31). -/
inductive Origin where
  | panel
  | inband
  deriving DecidableEq, Repr

/-- What is handed over of a departed segment: a departure record (Table 20) and a quarantine record (Table 51). -/
structure SegmentRecord where
  phys : Nat
  seq : Word
  pi : Word
  la : Nat
  lv : Nat
  check : Word
  withheld : BitVec 4
  origin : Option Origin
  deriving DecidableEq, Repr

/-- A timeline entry (Table 25). `check` is CHECK as captured, `checkPass` the check result. -/
structure TimelineEntry where
  pi : Word
  gap : Option GapCause
  seq : Option Word
  phys : Option Nat
  cutOk : Bool
  checkPass : Option Bool
  la : Nat
  lv : Nat
  check : Word
  withheld : BitVec 4
  origin : Option Origin
  deriving DecidableEq, Repr

/-- Timeline (R62): entries from the head to the live entry, and the next PI. -/
structure Timeline where
  entries : List TimelineEntry
  nextPi : Word
  deriving DecidableEq, Repr

/-- Segment states (Table 21). -/
inductive SegState where
  | free
  | filling
  | live
  | held
  | maskImage
  | quarantined
  | testing
  | retired
  deriving DecidableEq, Repr

/-- Physical segment record (Table 20). -/
structure Segment where
  state : SegState
  faults : Nat
  retirePending : Bool
  counted : Bool
  pins : Nat
  outstanding : Nat
  departure : Option SegmentRecord
  deriving DecidableEq, Repr

/-- A running pattern run (R57): it tests the segment at `cursor` and goes on up to `stop - 1`. -/
structure PatternRun where
  cursor : Nat
  stop : Nat
  writesIssued : Nat
  writesAnswered : Nat
  readsIssued : Nat
  readsAnswered : Nat
  failed : Bool
  deriving DecidableEq, Repr

/-- Segment pool (chapter 3). -/
structure Pool where
  segs : List Segment
  maskImage : Option Nat
  lmask : Nat
  pattern : Option PatternRun
  patternFailures : Nat
  deriving DecidableEq, Repr

/-- Lock state of the quarantine (R144). -/
inductive LockState where
  | unlocked
  | locked
  | frozen
  deriving DecidableEq, Repr

/-- Quarantine (R144), oldest record first. -/
structure Quarantine where
  records : List SegmentRecord
  lock : LockState
  deriving DecidableEq, Repr

/-! ### Edit list (chapter 5) -/

/-- Kind of an edit entry (Table 31). -/
inductive EditKind where
  | drop
  | mask
  deriving DecidableEq, Repr

/-- State of an edit entry (Table 32). -/
inductive EditState where
  | opened
  | trailing
  | closed
  deriving DecidableEq, Repr

/-- An edit entry (Table 31). `stop` is its End. -/
structure Edit where
  id : Nat
  kind : EditKind
  state : EditState
  start : Word
  stop : Option Word
  reach : Option Word
  limitBase : Option Word
  taps : BitVec 4
  origin : Origin
  rough : Bool
  extension : Nat
  cutPending : Bool
  deriving DecidableEq, Repr

/-! ### Tap engines (chapters 6 and 7) -/

/-- State of a tap (R106). -/
inductive TapState where
  | off
  | priming
  | run
  deriving DecidableEq, Repr

/-- Pacer mode (R133). -/
inductive PacerMode where
  | steady
  | build
  | shed
  deriving DecidableEq, Repr

/-- Served kind of a binding (Table 40). -/
inductive ServedKind where
  | fill
  | program
  | repeated
  deriving DecidableEq, Repr

/-- Served flags (Table 13, byte 17). -/
structure ServedFlags where
  masked : Bool
  checkFail : Bool
  gap : Bool
  adjust : Bool
  splice : Bool
  rough : Bool
  underrun : Bool
  outOfStep : Bool
  deriving DecidableEq, Repr

/-- Readback progress of a binding (R125). -/
inductive ReadbackState where
  | none
  | expecting
  | complete
  | broken
  deriving DecidableEq, Repr

/-- The data of one continuing read: its P-side tag, the payload offsets `lo` to `hi - 1`, and the bytes once they came. -/
structure ReadbackChunk where
  tag : Fin 64
  lo : Nat
  hi : Nat
  bytes : Option (List Byte)
  deriving DecidableEq, Repr

/-- Readback progress with next offset, running word and the continuing reads whose data is not yet taken in, in arrival order. -/
structure Readback where
  state : ReadbackState
  next : Nat
  running : Word
  chunks : List ReadbackChunk
  deriving DecidableEq, Repr

/-- A binding record (Table 40). -/
structure Binding where
  op : Word
  kind : ServedKind
  flags : ServedFlags
  srcPi : Option Word
  srcSeq : Option Word
  phys : Option Nat
  masked : Bool
  la : Nat
  lv : Nat
  check : Word
  header : List Byte
  readback : Readback
  deriving DecidableEq, Repr

/-- A slot of the tap window and the binding readable there. -/
structure SlotBinding where
  slot : Nat
  binding : Binding
  deriving DecidableEq, Repr

/-- Repeat source (Table 39). -/
structure RepeatSource where
  phys : Nat
  pi : Word
  seq : Word
  la : Nat
  lv : Nat
  check : Word
  masked : Bool
  deriving DecidableEq, Repr

/-- Result of a command (Table 16). -/
inductive CmdResult where
  | accepted
  | clamped
  | refusedCode
  | refusedState
  | refusedRange
  | refusedFull
  | refusedGuard
  | refusedBusy
  deriving DecidableEq, Repr

/-- A filled refusal report (R160). -/
structure RefusalReport where
  code : Byte
  result : CmdResult
  seq : Word
  deriving DecidableEq, Repr

/-- A tap context (Table 39) with the clamp flag of R178. -/
structure Tap where
  state : TapState
  op : Word
  bound : Word
  current : Option SlotBinding
  previous : Option SlotBinding
  repeatSource : Option RepeatSource
  dt : Nat
  mode : PacerMode
  acc : Nat
  sinceLast : Nat
  underrunRun : Nat
  stalled : Bool
  spliceOwed : Bool
  stepErrorOwed : Bool
  dropped : Nat
  repeats : Nat
  shed : Nat
  stepErrors : Nat
  latch : Word
  report : Option RefusalReport
  executed : Nat
  clampFlag : Bool
  deriving DecidableEq, Repr

/-- The events of Table 14, in bit order. -/
inductive Event where
  | underrun
  | captureStall
  | editLate
  | evicted
  | forcedDepart
  | readbackFail
  | captureCheckFail
  | seqDup
  | seqBreak
  | seqGap
  | headerBad
  | strayWrite
  | protect
  | misalign
  | abandoned
  | captureLost
  | quarOverwrite
  | quarOverflow
  | quarMissed
  | maskLimit
  | dumpEmpty
  | editWidened
  | capacityReduced
  | storeInvalid
  | storeTimeout
  | storeDone
  | patternDone
  | countHalf
  | outOfStep
  | spliceRough
  | retired
  | targetClamped
  deriving DecidableEq, Repr

/-! ### Panel and tally (chapter 10) -/

/-- One panel line (R176): its raw level, its debounced state once one is adopted, and whether a debounce interval runs. -/
structure LineState where
  raw : Bool
  debounced : Option Bool
  interval : Bool
  deriving DecidableEq, Repr

/-- The five tally lines, lit or dark (R177). -/
structure Tallies where
  ready : Bool
  build : Bool
  dump : Bool
  mask : Bool
  fault : Bool
  deriving DecidableEq, Repr

/-- Panel and tally. `blink` is the phase of the 250 ms timer (R179). -/
structure PanelTally where
  dumpLine : LineState
  maskLine : LineState
  enterLine : LineState
  exitLine : LineState
  tallies : Tallies
  blink : Bool
  deriving DecidableEq, Repr

end Sys2Proof.Machine
end

