-- ==== Sys2Proof/Machine/Defaults.lean ====
section
/-! DEFINITION. The defaults of the working configuration (Table 62) and the power-on values of a tap, a panel line and the blocks. -/

namespace Sys2Proof.Machine

/-- The default aperture base by strap APSEL (R185). -/
def defaultAperture (apsel : Fin 4) : Addr :=
  match apsel with
  | 0 => 0x1000000000#40
  | 1 => 0x2000000000#40
  | 2 => 0x4000000000#40
  | 3 => 0x8000000000#40

/-- The default geometry (Table 62). -/
def defaultGeometry (apsel : Fin 4) : Geometry :=
  { apertureBase := defaultAperture apsel
    backingBase := defaultAperture apsel + 0x40000000#40
    sCode := 2
    n := 2048
    q := 64 }

/-- The default settings of one tap (Table 62). -/
def defaultTapSettings : TapSettings :=
  { enabled := false, policy := .build, de := 0, p := 1000, k := 40, g := 12 }

/-- The defaults of Table 62. -/
def defaultConfig (apsel : Fin 4) : WorkingConfig :=
  { geometry := defaultGeometry apsel
    taps := ⟨defaultTapSettings, defaultTapSettings, defaultTapSettings, defaultTapSettings⟩
    dumpLength := 100
    maskLead := 6
    maskLimit := 250
    snapReach := 50
    panelTaps := 1#4
    tallyTap := 0
    checkPolicy := .serve
    faultThreshold := 2
    stallLimit := 25
    lockAtStart := false }

/-- A tap at power-on (R129, R143). Its bound means nothing while it is OFF; the live edge of the empty timeline stands there. -/
def Tap.powerOn : Tap :=
  { state := .off
    op := 0xFFFFFFFF#32
    bound := 0xFFFFFFFF#32
    current := none
    previous := none
    repeatSource := none
    dt := 0
    mode := .steady
    acc := 0
    sinceLast := 255
    underrunRun := 0
    stalled := false
    spliceOwed := false
    stepErrorOwed := false
    dropped := 0
    repeats := 0
    shed := 0
    stepErrors := 0
    latch := 0#32
    report := none
    executed := 0
    clampFlag := false }

/-- A panel line at power-on: no debounced state yet (R176). -/
def LineState.powerOn (raw : Bool) : LineState := { raw := raw, debounced := none, interval := false }

/-- Every tally line dark (R179). -/
def Tallies.dark : Tallies := { ready := false, build := false, dump := false, mask := false, fault := false }

/-- A segment record at power-on (R60). -/
def Segment.powerOn (state : SegState) : Segment :=
  { state := state, faults := 0, retirePending := false, counted := false, pins := 0, outstanding := 0, departure := none }

/-- The interposer at power-on (R18). A request that waits unaccepted is dropped (log entry 28). -/
def Interposer.powerOn (mHoldOff : Bool) : Interposer :=
  { geometry := none, presented := none, mHoldOff := mHoldOff, inflight := [], planned := [], outstanding := [], lastReturned := none }

/-- The capture unit at power-on (R43). -/
def CaptureUnit.powerOn : CaptureUnit := { contexts := [], expected := none, pendingRun := [] }

/-- The pool at power-on, before the load gives N (R60). -/
def Pool.powerOn : Pool := { segs := [], maskImage := none, lmask := 0, pattern := none, patternFailures := 0 }

/-- The timeline at power-on and after a link reset (R62, R79). -/
def Timeline.empty : Timeline := { entries := [], nextPi := 0#32 }

/-- The panel and tally block at power-on (R176, R179). -/
def PanelTally.powerOn (dump mask enter exit : Bool) : PanelTally :=
  { dumpLine := .powerOn dump
    maskLine := .powerOn mask
    enterLine := .powerOn enter
    exitLine := .powerOn exit
    tallies := .dark
    blink := false }

/-- The store controller at power-on, before the load (R180, R184). -/
def StoreController.powerOn (contents : List Byte) : StoreController :=
  { config := defaultConfig 0
    pendingGeometry := defaultGeometry 0
    keptHard := []
    write := none
    invalid := false
    contents := contents }

end Sys2Proof.Machine
end

