-- ==== Sys2Proof/Machine/State.lean ====
section
/-! DEFINITION. The state of the Q4: its ten blocks (Table 1), start-up, and the queue of commands that wait. -/

namespace Sys2Proof.Machine

/-- The machine's state, plain data. `pending` is the queue of waiting commands, first in, first out (log entry 1). -/
structure State where
  startUp : StartUp
  link : Interposer
  capture : CaptureUnit
  pool : Pool
  timeline : Timeline
  edits : List Edit
  taps : PerTap Tap
  quarantine : Quarantine
  guardStep : Nat
  panel : PanelTally
  store : StoreController
  pending : List Instr
  deriving DecidableEq, Repr

/-- Reasons a step stops with a fault. The manual describes no event that stops the part, so there is none. -/
inductive Fault where
  deriving DecidableEq, Repr

/-- Reasons a command has no meaning in the state it meets. None stands where the manual gives the event an effect. -/
inductive Refusal where
  /-- Raised by `exec`'s arms for a command without a meaning. No arm raises it. Safe. -/
  | notModelled (mnemonic : String)
  /-- Raised by a command whose operands cannot be expressed at the pins (`Instr.wf`; R2, R181). Safe. -/
  | illFormed
  /-- Raised by a start-up or link-reset event that the level of PORn or LRSTn rules out (R17, R181). Safe. -/
  | wrongPhase
  /-- Raised when no request stands under the tag in the phase the event needs, so that the event cannot happen. Safe. -/
  | noSuchRequest
  /-- Raised when the response's tag names an outstanding request of another kind than the command says. Safe. -/
  | otherRequest
  /-- Raised by a panel event when the line's debounced state cannot change that way (R176). Safe. -/
  | noDebouncedChange
  /-- Raised by PATTERN_REQUEST_ISSUE when no pattern run is running (R57). Safe. -/
  | noPatternRun
  /-- Raised by a store page event when no store write is in progress (R183, R184). Safe. -/
  | noStoreWrite
  deriving DecidableEq, Repr

/-- What one command answers. -/
abbrev Result := Host.Outcome State Fault Refusal

/-- The machine at power-on reset (R18, R43, R60, R79, R103, R129, R143, R156, R171, R176, R179, R184): PORn asserted, every block in
its power-on state, no command waiting. Log entries 3 to 6, 19 and 39 (the lock state before the load) name the values the spec does
not give. -/
def State.reset : State :=
  { startUp := { phase := .resetHeld, straps := { apsel := 0, tpol := false, storeEn := false }, lrstAsserted := false }
    link := .powerOn false
    capture := .powerOn
    pool := .powerOn
    timeline := .empty
    edits := []
    taps := ⟨.powerOn, .powerOn, .powerOn, .powerOn⟩
    quarantine := { records := [], lock := .unlocked }
    guardStep := 0
    panel := .powerOn false false false false
    store := .powerOn (List.replicate 256 0#8)
    pending := [] }

end Sys2Proof.Machine
end

