-- ==== Sys2Proof/Machine/Bits.lean ====
section
/-! DEFINITION. Serial arithmetic, little-endian fields, the check word and the pattern register. -/

namespace Sys2Proof.Machine

/-! ### Serial arithmetic (Conventions) -/

/-- `a - b` modulo 2^32, read as a signed number. -/
def serialDiff (a b : Word) : Int := (a - b).toInt

/-- `a` is serially below `b`. -/
def serialLt (a b : Word) : Bool := decide (serialDiff a b < 0)

/-- `a` is serially at or below `b`. -/
def serialLe (a b : Word) : Bool := decide (serialDiff a b ≤ 0)

/-- The serially higher of two. -/
def serialMax (a b : Word) : Word := if serialLt a b then b else a

/-- The serially lower of two. -/
def serialMin (a b : Word) : Word := if serialLt b a then b else a

/-- The serially highest of those present. -/
def serialMaxOpt : Option Word → Option Word → Option Word
  | none, y => y
  | some x, none => some x
  | some x, some y => some (serialMax x y)

/-! ### Little-endian fields (Conventions, Byte order) -/

/-- The `n` bytes of `v`, least significant first. -/
def toLE : Nat → Nat → List Byte
  | 0, _ => []
  | n + 1, v => BitVec.ofNat 8 v :: toLE n (v / 256)

/-- The number that bytes hold, least significant first. -/
def fromLE : List Byte → Nat
  | [] => 0
  | b :: bs => b.toNat + 256 * fromLE bs

/-- The field of `n` bytes at byte `off`. -/
def field (bs : List Byte) (off n : Nat) : Nat := fromLE ((bs.drop off).take n)

/-- One byte of a layout; 0 past its end. -/
def byteOf (bs : List Byte) (off : Nat) : Byte := bs.getD off 0#8

/-- The bytes at offsets `lo` to `hi - 1` of data that starts at offset `base`. -/
def slice (data : List Byte) (base lo hi : Nat) : List Byte := (data.drop (lo - base)).take (hi - lo)

/-- `n` zero bytes. -/
def zeros (n : Nat) : List Byte := List.replicate n 0#8

/-! ### Check word (R1) -/

/-- One bit of the check: least significant bit first, generator 0x04C11DB7 (0xEDB88320 with its bits reversed). -/
def crcBit (c : Word) : Word :=
  if c.getLsbD 0 then (c >>> 1) ^^^ 0xEDB88320#32 else c >>> 1

/-- One byte of the check. -/
def crcByte (c : Word) (b : Byte) : Word :=
  crcBit (crcBit (crcBit (crcBit (crcBit (crcBit (crcBit (crcBit (c ^^^ b.setWidth 32))))))))

/-- The initial value of the check. -/
def crcInit : Word := 0xFFFFFFFF#32

/-- The check register after further bytes, in order. -/
def crcRun (c : Word) (bs : List Byte) : Word := bs.foldl crcByte c

/-- The final inversion. -/
def crcFinal (c : Word) : Word := ~~~ c

/-- The check word of a run of bytes (R1). -/
def checkWord (bs : List Byte) : Word := crcFinal (crcRun crcInit bs)

/-! ### Pattern register (R57) -/

/-- The next pattern bit: bit 22 and bit 17 combined by exclusive or. -/
def lfsrBit (r : BitVec 23) : Bool := r.getLsbD 22 != r.getLsbD 17

/-- The register after one bit: shifted toward its high end, the pattern bit entering at bit 0. -/
def lfsrNext (r : BitVec 23) : BitVec 23 := (r <<< 1) ||| (BitVec.ofBool (lfsrBit r)).setWidth 23

/-- The register after `n` bits. -/
def lfsrSkip : Nat → BitVec 23 → BitVec 23
  | 0, r => r
  | n + 1, r => lfsrSkip n (lfsrNext r)

/-- The eight bits from the register on as a byte, the first in bit 0. After eight steps the register's low eight bits are those
bits with the first one highest. -/
def lfsrByte (r : BitVec 23) : Byte := ((lfsrSkip 8 r).setWidth 8).reverse

/-- `n` pattern bytes from the register on. -/
def lfsrBytes : Nat → BitVec 23 → List Byte
  | 0, _ => []
  | n + 1, r => lfsrByte r :: lfsrBytes n (lfsrSkip 8 r)

/-- The pattern bytes of segment `p` at offsets `off` to `off + n - 1`; the register is loaded with `p + 1`. -/
def patternBytes (p off n : Nat) : List Byte := lfsrBytes n (lfsrSkip (8 * off) (BitVec.ofNat 23 (p + 1)))

/-! ### One value per tap -/

/-- The value of tap `t`. -/
def PerTap.get {α : Type} (v : PerTap α) (t : Fin 4) : α :=
  match t with
  | 0 => v.t0
  | 1 => v.t1
  | 2 => v.t2
  | 3 => v.t3

/-- `v` with the value of tap `t` replaced. -/
def PerTap.set {α : Type} (v : PerTap α) (t : Fin 4) (x : α) : PerTap α :=
  match t with
  | 0 => { v with t0 := x }
  | 1 => { v with t1 := x }
  | 2 => { v with t2 := x }
  | 3 => { v with t3 := x }

/-- `f` applied to every tap's value. -/
def PerTap.map {α β : Type} (f : α → β) (v : PerTap α) : PerTap β := ⟨f v.t0, f v.t1, f v.t2, f v.t3⟩

/-- The four tap numbers, ascending. -/
def tapIds : List (Fin 4) := [0, 1, 2, 3]

/-- Whether bit `t` of a taps mask is set. -/
def hasTap (mask : BitVec 4) (t : Fin 4) : Bool := mask.getLsbD t.val

/-- The mask with only bit `t` set. -/
def tapBit (t : Fin 4) : BitVec 4 := 1#4 <<< t.val

/-- The taps of a mask, ascending. -/
def tapsOf (mask : BitVec 4) : List (Fin 4) := tapIds.filter (hasTap mask)

/-- `n + 1`, stopping at `cap`. -/
def bump (cap n : Nat) : Nat := min (n + 1) cap

end Sys2Proof.Machine
end

