-- ==== Sys2Proof/Machine/Flags.lean ====
section
/-! DEFINITION. Event latches, counters, coverage by edits, the current delay and the tally conditions. -/

namespace Sys2Proof.Machine

/-! ### Accessors -/

/-- Tap context `t`. -/
def State.tap (s : State) (t : Fin 4) : Tap := s.taps.get t

/-- `s` with tap context `t` replaced. -/
def State.setTap (s : State) (t : Fin 4) (x : Tap) : State := { s with taps := s.taps.set t x }

/-- `s` with `f` applied to tap context `t`. -/
def State.modifyTap (s : State) (t : Fin 4) (f : Tap → Tap) : State := s.setTap t (f (s.tap t))

/-- The working configuration of tap `t`. -/
def State.settings (s : State) (t : Fin 4) : TapSettings := s.store.config.taps.get t

/-- `s` with `f` applied to the working configuration. -/
def State.modifyConfig (s : State) (f : WorkingConfig → WorkingConfig) : State :=
  { s with store := { s.store with config := f s.store.config } }

/-- `s` with the settings of tap `t` replaced. -/
def State.setSettings (s : State) (t : Fin 4) (x : TapSettings) : State :=
  s.modifyConfig fun c => { c with taps := c.taps.set t x }

/-- A tap is active in PRIMING and in RUN (R106). -/
def Tap.active (t : Tap) : Bool :=
  match t.state with
  | .off => false
  | .priming => true
  | .run => true

/-- The taps that are active, ascending. -/
def State.activeTaps (s : State) : List (Fin 4) := tapIds.filter fun t => (s.tap t).active

/-- The live edge: next PI - 1 (R62). -/
def State.liveEdge (s : State) : Word := s.timeline.nextPi - 1#32

/-- The record of segment `p`, if the pool has it. -/
def State.seg? (s : State) (p : Nat) : Option Segment := s.pool.segs[p]?

/-- `s` with `f` applied to the record of segment `p`. -/
def State.modifySeg (s : State) (p : Nat) (f : Segment → Segment) : State :=
  { s with pool := { s.pool with segs := s.pool.segs.modify p f } }

/-- The effective pool N_eff (R50). -/
def State.nEff (s : State) : Nat := (s.pool.segs.filter fun g => g.state != .retired).length

/-- The quarantine capacity Q (R156). -/
def State.quarCap (s : State) : Nat := s.store.config.geometry.q

/-- The delay ceiling Dmax (R51); subtraction of naturals stops at 0. -/
def State.dmax (s : State) : Nat := s.nEff - s.quarCap - 5

/-! ### Event latch (R23, R173) -/

/-- Bit number of an event (Table 14). -/
def Event.bit : Event → Nat
  | .underrun => 0
  | .captureStall => 1
  | .editLate => 2
  | .evicted => 3
  | .forcedDepart => 4
  | .readbackFail => 5
  | .captureCheckFail => 6
  | .seqDup => 7
  | .seqBreak => 8
  | .seqGap => 9
  | .headerBad => 10
  | .strayWrite => 11
  | .protect => 12
  | .misalign => 13
  | .abandoned => 14
  | .captureLost => 15
  | .quarOverwrite => 16
  | .quarOverflow => 17
  | .quarMissed => 18
  | .maskLimit => 19
  | .dumpEmpty => 20
  | .editWidened => 21
  | .capacityReduced => 22
  | .storeInvalid => 23
  | .storeTimeout => 24
  | .storeDone => 25
  | .patternDone => 26
  | .countHalf => 27
  | .outOfStep => 28
  | .spliceRough => 29
  | .retired => 30
  | .targetClamped => 31

/-- The latch with an event's bit set; a set bit stays set. -/
def latchBit (l : Word) (e : Event) : Word := l ||| (1#32 <<< e.bit)

/-- A tap's own latch takes an event. -/
def Tap.raise (t : Tap) (e : Event) : Tap := { t with latch := latchBit t.latch e }

/-- An event for one tap. -/
def State.raiseTap (s : State) (t : Fin 4) (e : Event) : State := s.modifyTap t (·.raise e)

/-- An event for the whole part: every tap's latch takes it. -/
def State.raiseAll (s : State) (e : Event) : State := { s with taps := s.taps.map (·.raise e) }

/-- An event for the whole part, unless it is not to be latched (R77, R146). -/
def State.raiseUnless (s : State) (quiet : Bool) (e : Event) : State := if quiet then s else s.raiseAll e

/-! ### Counters (R174) -/

/-- COUNT_HALF is latched at the rise from 32767 to 32768. -/
def Tap.halfScale (t : Tap) (before : Nat) : Tap :=
  if before + 1 = Config.counterHalf then t.raise .countHalf else t

/-- DROPPED rises by one. -/
def Tap.countDropped (t : Tap) : Tap := { t with dropped := bump Config.counterMax t.dropped }.halfScale t.dropped

/-- REPEATS rises by one. -/
def Tap.countRepeat (t : Tap) : Tap := { t with repeats := bump Config.counterMax t.repeats }.halfScale t.repeats

/-- SHED rises by one. -/
def Tap.countShed (t : Tap) : Tap := { t with shed := bump Config.counterMax t.shed }.halfScale t.shed

/-- STEP_ERRORS rises by one. -/
def Tap.countStepError (t : Tap) : Tap := { t with stepErrors := bump Config.counterMax t.stepErrors }.halfScale t.stepErrors

/-! ### Coverage by edits (R82) -/

/-- An entry covers PI `x`. -/
def Edit.covers (e : Edit) (x : Word) : Bool :=
  serialLe e.start x && (match e.stop with | none => true | some z => serialLe x z)

/-- An entry applies to tap `t`. -/
def Edit.applies (e : Edit) (t : Fin 4) : Bool := hasTap e.taps t

/-- The DROP entry through which a PI is dropped for tap `t`, if it is. -/
def State.dropFor (s : State) (t : Fin 4) (x : Word) : Option Edit :=
  s.edits.find? fun e => e.kind == .drop && e.applies t && e.covers x

/-- A PI is dropped for tap `t`. -/
def State.droppedFor (s : State) (t : Fin 4) (x : Word) : Bool := (s.dropFor t x).isSome

/-- A PI is masked for tap `t`; where a DROP and a MASK overlap the DROP wins. -/
def State.maskedFor (s : State) (t : Fin 4) (x : Word) : Bool :=
  !s.droppedFor t x && s.edits.any fun e => e.kind == .mask && e.applies t && e.covers x

/-- A PI lies inside at least one DROP entry, of whatever taps (R53). -/
def State.insideDrop (s : State) (x : Word) : Bool := s.edits.any fun e => e.kind == .drop && e.covers x

/-! ### Timeline reading (R63, R69, R124) -/

/-- The entries above a PI, up to the live edge, in order. -/
def State.above (s : State) (x : Word) : List TimelineEntry := s.timeline.entries.filter fun e => serialLt x e.pi

/-- The entry at a PI. -/
def State.entryAt (s : State) (x : Word) : Option TimelineEntry := s.timeline.entries.find? fun e => e.pi == x

/-- The head entry's PI, if the timeline is not empty. -/
def State.head? (s : State) : Option Word := s.timeline.entries.head?.map (·.pi)

/-- The current delay d of a tap (R124); 0 when it is OFF. -/
def State.delay (s : State) (t : Fin 4) : Nat :=
  if (s.tap t).active then ((s.above (s.tap t).bound).filter fun e => !s.droppedFor t e.pi).length else 0

/-- The serially lowest of the bounds of some taps, or a PI when there are none. -/
def State.lowestBound (s : State) (ts : List (Fin 4)) (other : Word) : Word :=
  match ts with
  | [] => other
  | t :: rest => rest.foldl (fun b u => serialMin b (s.tap u).bound) (s.tap t).bound

/-- live edge - Dmax, modulo 2^32. -/
def State.idleFloor (s : State) : Word := s.liveEdge - BitVec.ofNat 32 s.dmax

/-- The retention floor (R69). -/
def State.floor (s : State) : Word := s.lowestBound s.activeTaps s.idleFloor

/-! ### Tally lines (R177 to R179) -/

/-- The MASK tally's condition: the edit list holds an OPEN entry. -/
def State.hasOpen (s : State) : Bool := s.edits.any fun e => e.state == .opened

/-- The FAULT tally's condition (R178). -/
def State.faultLit (s : State) : Bool :=
  s.store.invalid || tapIds.any (fun t => (s.tap t).stalled) || tapIds.any (fun t => (s.tap t).clampFlag)

/-- The tally lines by their conditions (Table 60); dark until the store load has ended (R179). -/
def State.tallyConditions (s : State) : Tallies :=
  match s.startUp.phase with
  | .resetHeld => .dark
  | .loading => .dark
  | .running =>
    let t := s.store.config.tallyTap
    let x := s.tap t
    { ready := x.state == .run && decide (0 < x.dt) && decide (x.dt ≤ s.delay t)
      build := x.active && x.mode == .build
      dump := decide (1 ≤ s.delay t)
      mask := s.hasOpen
      fault := s.faultLit }

/-- The lines take their conditions (R177). -/
def State.refreshTally (s : State) : State := { s with panel := { s.panel with tallies := s.tallyConditions } }

/-- The level at a tally pin (R179): a lit line is high with TPOL 0 and low with TPOL 1. -/
def tallyLevel (tpol lit : Bool) : Bool := lit != tpol

/-- The levels at TREADY, TBUILD, TDUMP, TMASK, TFAULT. BUILD, while lit, alternates with the 250 ms timer (R179). -/
def State.tallyPins (s : State) : List Bool :=
  let y := s.panel.tallies
  [y.ready, y.build && s.panel.blink, y.dump, y.mask, y.fault].map (tallyLevel s.startUp.straps.tpol)

end Sys2Proof.Machine
end

