-- ==== Sys2Proof/Machine/Ops.lean ====
section
/-! DEFINITION. The shared operations of the pool, the quarantine and the timeline (chapters 3, 4 and 8). -/

namespace Sys2Proof.Machine

/-! ### Retirement and freeing (R46, R50, R51) -/

/-- The clamp of one tap's Dt and De to a lowered Dmax (R51, R178). -/
def State.clampTap (ceil : Nat) (s : State) (t : Fin 4) : State :=
  let x := s.tap t
  let c := s.settings t
  if ceil < x.dt ∨ ceil < c.de then
    (s.setSettings t { c with de := min c.de ceil }).setTap t
      ({ x with dt := min x.dt ceil, clampFlag := true }.raise .targetClamped)
  else s

/-- A segment retires (R50); a Dmax so lowered clamps the four taps (R51). -/
def State.retire (s : State) (p : Nat) : State :=
  let s1 := (s.modifySeg p fun g => { g with state := .retired }).raiseAll .retired
  if s1.dmax < s.dmax then tapIds.foldl (State.clampTap s1.dmax) (s1.raiseAll .capacityReduced) else s1

/-- A rule frees a segment (R46). -/
def State.freeSeg (s : State) (p : Nat) : State :=
  match s.seg? p with
  | none => s
  | some g =>
    let s1 := s.modifySeg p fun g => { g with departure := none }
    if g.retirePending then s1.retire p else s1.modifySeg p fun g => { g with state := .free }

/-- A fault is counted on a segment, at most once per residency (R49). -/
def State.countFault (s : State) (p : Nat) : State :=
  match s.seg? p with
  | none => s
  | some g =>
    if g.counted then s
    else
      let n := bump Config.faultMax g.faults
      let tooMany := decide (s.store.config.faultThreshold ≤ n)
      let s1 := s.modifySeg p fun g =>
        { g with faults := n, counted := true, retirePending := g.retirePending || (tooMany && g.state != .retired) }
      if tooMany ∧ g.state = .free then s1.retire p else s1

/-! ### Quarantine (R145, R146) -/

/-- The quarantine takes a newcomer: it joins the end and its segment becomes QUARANTINED. -/
def State.takeRecord (s : State) (r : SegmentRecord) : State :=
  ({ s with quarantine := { s.quarantine with records := s.quarantine.records ++ [r] } }).modifySeg r.phys fun g =>
    { g with state := .quarantined, departure := none }

/-- A segment is offered to the quarantine as a newcomer: the full-list rule of R146. `quiet` is the handover at a link reset. -/
def State.offer (quiet : Bool) (s : State) (r : SegmentRecord) : State :=
  if s.quarCap = 0 then s.freeSeg r.phys
  else if s.quarantine.records.length < s.quarCap then s.takeRecord r
  else
    match s.quarantine.lock, s.quarantine.records with
    | .unlocked, old :: rest =>
      ((({ s with quarantine := { s.quarantine with records := rest } }).raiseUnless quiet .quarOverwrite).freeSeg old.phys).takeRecord r
    | _, _ => (s.raiseUnless quiet .quarOverflow).freeSeg r.phys

/-! ### Pins and HELD segments (R47, R48) -/

/-- A reference to a segment is taken. -/
def State.pin (s : State) (p : Nat) : State := s.modifySeg p fun g => { g with pins := g.pins + 1 }

/-- A HELD segment whose pins fell to zero goes to the quarantine when it is withheld, and is freed otherwise (R48). -/
def State.handOver (s : State) (p : Nat) (record : Option SegmentRecord) : State :=
  match record with
  | none => s.freeSeg p
  | some r => if r.withheld = 0#4 then s.freeSeg p else s.offer false r

/-- A reference to a segment is dropped. -/
def State.unpin (s : State) (p : Nat) : State :=
  match s.seg? p with
  | none => s
  | some g =>
    let s1 := s.modifySeg p fun g => { g with pins := g.pins - 1 }
    if g.state = .held ∧ g.pins ≤ 1 then s1.handOver p g.departure else s1

/-- References that may be absent. -/
def State.pinOpt (s : State) (p : Option Nat) : State :=
  match p with
  | none => s
  | some p => s.pin p

/-- References that may be absent. -/
def State.unpinOpt (s : State) (p : Option Nat) : State :=
  match p with
  | none => s
  | some p => s.unpin p

/-! ### Outstanding counts (R16) -/

/-- A request to a segment is issued or planned. -/
def State.raiseOutstanding (s : State) (p : Nat) : State := s.modifySeg p fun g => { g with outstanding := g.outstanding + 1 }

/-- Such a request is answered, dropped or cancelled. -/
def State.lowerOutstanding (s : State) (p : Nat) : State := s.modifySeg p fun g => { g with outstanding := g.outstanding - 1 }

/-! ### Edit entries that are spent (R101) -/

/-- A CLOSED entry is spent when every active tap of its mask is bound at or above its end, or its end lies below the head. -/
def State.spent (s : State) (e : Edit) : Bool :=
  match e.state, e.stop with
  | .closed, some z =>
    (s.activeTaps.all fun t => !e.applies t || serialLe z (s.tap t).bound) ||
      (match s.head? with | none => false | some h => serialLt z h)
  | _, _ => false

/-- Spent entries leave the list. -/
def State.pruneSpent (s : State) : State := { s with edits := s.edits.filter fun e => !s.spent e }

/-! ### Departure (R70 to R72) -/

/-- The record handed over of a program entry. -/
def TimelineEntry.record (e : TimelineEntry) (p : Nat) : SegmentRecord :=
  { phys := p, seq := e.seq.getD 0#32, pi := e.pi, la := e.la, lv := e.lv, check := e.check, withheld := e.withheld, origin := e.origin }

/-- What a departing entry named is handed on (Table 27). -/
def State.handOn (s : State) (e : TimelineEntry) : State :=
  match e.phys with
  | none => s
  | some p =>
    match s.seg? p with
    | none => s
    | some g =>
      if 0 < g.pins then s.modifySeg p fun g => { g with state := .held, departure := some (e.record p) }
      else if e.withheld = 0#4 then s.freeSeg p
      else s.offer false (e.record p)

/-- The head entry departs. -/
def State.departHead (s : State) : State :=
  match s.timeline.entries with
  | [] => s
  | e :: rest => ({ s with timeline := { s.timeline with entries := rest } }).handOn e

/-- The head departs while it is due: serially below the retention floor as it stands each time (R70, R71). -/
def State.departDue : Nat → State → State
  | 0, s => s
  | n + 1, s =>
    match s.head? with
    | none => s
    | some h => if serialLt h s.floor then State.departDue n s.departHead else s

/-- The floor test with its departures (R71), after which spent edit entries leave (R72, R101). -/
def State.settle (s : State) : State := (State.departDue s.timeline.entries.length s).pruneSpent

/-! ### Withheld marking (R68) -/

/-- `f` applied to the entry at a PI. -/
def State.modifyEntry (s : State) (x : Word) (f : TimelineEntry → TimelineEntry) : State :=
  { s with timeline := { s.timeline with entries := s.timeline.entries.map fun e => if e.pi == x then f e else e } }

/-- An entry gains a tap's bit; the first mark fixes the origin. -/
def TimelineEntry.mark (e : TimelineEntry) (t : Fin 4) (o : Origin) : TimelineEntry :=
  { e with withheld := e.withheld ||| tapBit t, origin := if e.withheld = 0#4 then some o else e.origin }

/-- The entry at `x` is marked withheld for tap `t` by the DROP that covers it. -/
def State.markWithheld (s : State) (t : Fin 4) (x : Word) : State :=
  match s.dropFor t x with
  | none => s
  | some d => s.modifyEntry x (·.mark t d.origin)

/-- An advance passes over a dropped entry: it is marked, and counted in DROPPED unless its bit was set before (R114). -/
def State.passOver (t : Fin 4) (s : State) (e : TimelineEntry) : State :=
  if hasTap e.withheld t then s else (s.markWithheld t e.pi).modifyTap t Tap.countDropped

/-! ### Appending and forced departure (R64, R73, R74) -/

/-- A tap bound below the old head is moved to it, and marks it when it is dropped for the tap. -/
def State.dragTap (h : Word) (s : State) (t : Fin 4) : State :=
  let x := s.tap t
  if x.active ∧ serialLt x.bound h then
    let owed := x.spliceOwed || s.droppedFor t h
    (s.markWithheld t h).setTap t ({ x with bound := h, spliceOwed := owed }.raise .forcedDepart)
  else s

/-- A forced departure of the head. The taps it drags mark the head in ascending tap number, so the lowest one that a DROP makes withhold
it gives the origin (log entry 38). -/
def State.forceDepart (s : State) : State :=
  match s.head? with
  | none => s
  | some h => (tapIds.foldl (State.dragTap h) s).departHead.pruneSpent

/-- The entry takes the next PI and stands at the live end. -/
def State.pushEntry (s : State) (e : TimelineEntry) : State :=
  { s with timeline :=
      { entries := s.timeline.entries ++ [{ e with pi := s.timeline.nextPi }], nextPi := s.timeline.nextPi + 1#32 } }

/-- One entry is appended: a forced departure first when the table is full; the floor follows while no tap is active (R64). -/
def State.append (s : State) (e : TimelineEntry) : State :=
  let s1 := if Config.timelineCapacity ≤ s.timeline.entries.length then s.forceDepart else s
  let s2 := s1.pushEntry e
  if s2.activeTaps.isEmpty then s2.settle else s2

/-- A gap entry (R61, R66). -/
def gapEntry (c : GapCause) : TimelineEntry :=
  { pi := 0#32, gap := some c, seq := none, phys := none, cutOk := false, checkPass := none, la := 0, lv := 0, check := 0#32,
    withheld := 0#4, origin := none }

/-- A run of gap causes is appended, each as one gap entry (R38). -/
def State.appendRun (s : State) (run : List GapCause) : State := run.foldl (fun s c => s.append (gapEntry c)) s

/-! ### Allocation and capacity pressure (R45, R53, R54, R75) -/

/-- A segment is allocatable when it is FREE with no request outstanding (R44). -/
def Segment.allocatable (g : Segment) : Bool := g.state == .free && g.outstanding == 0

/-- A segment that would be allocatable once freed (R53). -/
def Segment.releasable (g : Segment) : Bool := g.outstanding == 0 && !g.retirePending

/-- A segment becomes FILLING for a context. -/
def State.takeSegment (s : State) (p : Nat) : State := s.modifySeg p fun g => { g with state := .filling, counted := false }

/-- Step 1 of Table 23: the oldest quarantine record's segment, the quarantine being UNLOCKED. -/
def State.pressureOldest (s : State) : Option SegmentRecord :=
  match s.quarantine.lock, s.quarantine.records with
  | .unlocked, r :: _ => if (s.seg? r.phys).any Segment.releasable then some r else none
  | _, _ => none

/-- A LIVE entry whose segment is unpinned and would be allocatable once freed. -/
def State.evictable (s : State) (e : TimelineEntry) : Bool :=
  match e.phys with
  | none => false
  | some p => (s.seg? p).any fun g => g.state == .live && g.pins == 0 && g.releasable

/-- Step 2 of Table 23: the oldest evictable entry inside a DROP that no active tap still to bind it would play. -/
def State.pressureDropped (s : State) : Option TimelineEntry :=
  s.timeline.entries.find? fun e =>
    s.evictable e && s.insideDrop e.pi &&
      s.activeTaps.all fun t => !serialLt (s.tap t).bound e.pi || s.droppedFor t e.pi

/-- Step 3 of Table 23: the oldest evictable entry inside no DROP. -/
def State.pressureUndropped (s : State) : Option TimelineEntry :=
  s.timeline.entries.find? fun e => s.evictable e && !s.insideDrop e.pi

/-- A program entry becomes an EVICTED gap in place (R75). -/
def TimelineEntry.evict (e : TimelineEntry) : TimelineEntry :=
  { e with gap := some .evicted, phys := none, cutOk := false, checkPass := none, la := 0, lv := 0, check := 0#32 }

/-- An entry is evicted and its segment freed and taken for the new context (R54). -/
def State.evictFor (s : State) (e : TimelineEntry) : State × Option Nat :=
  match e.phys with
  | none => (s, none)
  | some p => (((s.modifyEntry e.pi TimelineEntry.evict).freeSeg p).takeSegment p, some p)

/-- The capacity-pressure order (Table 23). -/
def State.relieve (s : State) : State × Option Nat :=
  match s.pressureOldest with
  | some r =>
    let s1 := { s with quarantine := { s.quarantine with records := s.quarantine.records.drop 1 } }
    (((s1.raiseAll .quarOverwrite).freeSeg r.phys).takeSegment r.phys, some r.phys)
  | none =>
    match s.pressureDropped with
    | some e => (s.raiseAll .quarMissed).evictFor e
    | none =>
      match s.pressureUndropped with
      | some e =>
        let s1 := s.raiseAll .evicted
        (if e.withheld = 0#4 then s1 else s1.raiseAll .quarMissed).evictFor e
      | none => (s, none)

/-- The capture unit asks for a segment (R45): the lowest allocatable index, or what capacity pressure gives. -/
def State.allocate (s : State) : State × Option Nat :=
  match s.pool.segs.findIdx? Segment.allocatable with
  | some p => (s.takeSegment p, some p)
  | none => s.relieve

/-! ### Pattern run (R57, R58) -/

/-- The first allocatable index from `cursor` to `stop - 1`. -/
def State.nextTestable (s : State) (cursor stop : Nat) : Option Nat :=
  (((s.pool.segs.take stop).drop cursor).findIdx? Segment.allocatable).map (cursor + ·)

/-- The run on a segment it has just taken. -/
def PatternRun.start (p stop : Nat) : PatternRun :=
  { cursor := p, stop := stop, writesIssued := 0, writesAnswered := 0, readsIssued := 0, readsAnswered := 0, failed := false }

/-- `s` with the pattern run replaced. -/
def State.setPattern (s : State) (r : Option PatternRun) : State := { s with pool := { s.pool with pattern := r } }

/-- The cursor moves up to the next allocatable segment, which becomes TESTING, or the run ends with PATTERN_DONE. -/
def State.takeTestable (s : State) (cursor stop : Nat) : State :=
  match s.nextTestable cursor stop with
  | some p => (s.setPattern (some (.start p stop))).modifySeg p fun g => { g with state := .testing, counted := false }
  | none => (s.setPattern none).raiseAll .patternDone

end Sys2Proof.Machine
end

