-- ==== Sys2Proof/Machine/EditOps.lean ====
section
/-! DEFINITION. The edit list (chapter 5): merging and adding, the panel DUMP and MASK actions, settling at a presentation, in-band
marks, widening and cancellation. -/

namespace Sys2Proof.Machine

/-! ### Merging and adding (R83 to R85) -/

/-- Two ranges overlap or abut; a range without an end reaches every PI at or above its start. -/
def Edit.meets (a b : Edit) : Bool :=
  (match b.stop with | none => true | some z => serialLe a.start (z + 1#32)) &&
    (match a.stop with | none => true | some z => serialLe b.start (z + 1#32))

/-- Two entries merge: same kind, a common tap, and overlapping or abutting ranges. -/
def Edit.mergeable (a b : Edit) : Bool := a.kind == b.kind && a.taps &&& b.taps != 0#4 && a.meets b

/-- State of the merged entry. -/
def joinState (a b : EditState) : EditState :=
  if a = .trailing ∨ b = .trailing then .trailing
  else if a = .opened ∨ b = .opened then .opened
  else .closed

/-- The extension count that a part brings to a merge: a TRAILING part's (R83). -/
def Edit.trailingCount (e : Edit) : Nat := if e.state = .trailing then e.extension else 0

/-- The merged entry of two parts, but for its id and origin (R83). -/
def Edit.join (a b : Edit) : Edit :=
  let state := joinState a.state b.state
  let ends := serialMaxOpt a.stop b.stop
  { id := a.id
    kind := a.kind
    state := state
    start := serialMin a.start b.start
    stop := if state = .closed then ends else none
    reach := if state = .closed then none else serialMaxOpt ends (serialMaxOpt a.reach b.reach)
    limitBase := if state = .opened then a.limitBase.or b.limitBase else none
    taps := a.taps ||| b.taps
    origin := a.origin
    rough := a.rough || b.rough
    extension := max a.trailingCount b.trailingCount
    cutPending := state == .closed && ((a.cutPending && a.stop == ends) || (b.cutPending && b.stop == ends)) }

/-- Merging repeated against the merged entry: the merged range, the entries absorbed and the entries left. -/
def absorb : Nat → Edit → List Edit → List Edit → Edit × List Edit × List Edit
  | 0, m, taken, rest => (m, taken, rest)
  | n + 1, m, taken, rest =>
    let hit := rest.filter m.mergeable
    if hit.isEmpty then (m, taken, rest)
    else absorb n (hit.foldl Edit.join m) (taken ++ hit) (rest.filter fun e => !m.mergeable e)

/-- Of two existing parts the one that gives id and origin: the serially lower start, then the lower id. -/
def Edit.leading (a b : Edit) : Edit :=
  if serialLt b.start a.start || (b.start == a.start && decide (b.id < a.id)) then b else a

/-- The lowest id no entry of a list holds. -/
def lowestFreeId (es : List Edit) : Nat :=
  ((List.range Config.editCapacity).find? fun i => es.all fun e => e.id != i).getD 0

/-- Id and origin of the merged entry: those of the existing part with the lowest start, or a new id when the new range alone
starts lowest (R83, log entry 16). -/
def nameMerged (new merged : Edit) (taken rest : List Edit) : Edit :=
  match taken with
  | [] => { merged with id := lowestFreeId rest, origin := new.origin }
  | e :: es =>
    let lead := es.foldl Edit.leading e
    if serialLe lead.start new.start then { merged with id := lead.id, origin := lead.origin }
    else { merged with id := lowestFreeId rest, origin := new.origin }

/-- The list keeps its entries in order of id. -/
def insertById (e : Edit) : List Edit → List Edit
  | [] => [e]
  | x :: xs => if e.id ≤ x.id then e :: x :: xs else x :: insertById e xs

/-- A new range merged into or added to a list; none when the list is full for it (R84). -/
def offerRange (es : List Edit) (new : Edit) : Option (List Edit) :=
  let (merged, taken, rest) := absorb (es.length + 1) new [] es
  if taken.isEmpty ∧ Config.editCapacity ≤ es.length then none
  else some (insertById (nameMerged new merged taken rest) rest)

/-- Each active tap of the new range's mask bound at or above its start latches EDIT_LATE (R85). -/
def State.raiseLate (new : Edit) (s : State) (t : Fin 4) : State :=
  if (s.tap t).active && new.applies t && serialLe new.start (s.tap t).bound then s.raiseTap t .editLate else s

/-- A new range has been taken into the list: EDIT_LATE first, then spent entries leave (R85, R101). -/
def State.tookRange (s : State) (new : Edit) (es : List Edit) : State :=
  (tapIds.foldl (State.raiseLate new) { s with edits := es }).pruneSpent

/-! ### Widening (R98, R99) -/

/-- The newer of two entries: the serially higher start, then the higher id. -/
def Edit.newer (a b : Edit) : Edit :=
  if serialLt a.start b.start || (a.start == b.start && decide (a.id < b.id)) then b else a

/-- The newest entry of a kind. -/
def newestOf (kind : EditKind) (es : List Edit) : Option Edit :=
  match es.filter fun e => e.kind == kind with
  | [] => none
  | e :: rest => some (rest.foldl Edit.newer e)

/-- A MASK entry turned into a DROP; an OPEN one ends at its reach or at the live edge `l` (R98). -/
def Edit.asDrop (l : Word) (e : Edit) : Edit :=
  { e with
    kind := .drop
    state := .closed
    stop := if e.state = .opened then some (e.reach.getD l) else e.stop
    reach := none
    limitBase := none }

/-- An entry `w` of the list, in the form `w'`, is merged with the new range whether or not they meet, and then onward. -/
def widen (es : List Edit) (w w' new : Edit) : List Edit :=
  let others := es.filter fun e => e.id != w.id
  let (merged, taken, rest) := absorb (es.length + 1) (w'.join new) [w'] others
  insertById (nameMerged new merged taken rest) rest

/-- Widening for a DUMP press: the newest DROP, else the newest MASK, which becomes a DROP (R98). -/
def widenForDump (l : Word) (es : List Edit) (new : Edit) : List Edit :=
  match newestOf .drop es with
  | some w => widen es w w new
  | none =>
    match newestOf .mask es with
    | some w => widen es w (w.asDrop l) new
    | none => es

/-- The form a MASK press takes when it widens a DROP: TRAILING whatever the snap reach, its reach the live edge `l` (R99). -/
def Edit.asTrailingDrop (l : Word) (e : Edit) : Edit :=
  { e with kind := .drop, state := .trailing, stop := none, reach := some l, limitBase := none }

/-- Widening for a MASK press: the newest MASK, else the newest DROP (R99). The entry becomes the OPEN entry from the press on, so
its limit base is the press's start. -/
def widenForMask (l : Word) (es : List Edit) (new : Edit) : List Edit :=
  match newestOf .mask es with
  | some w => widen es w { w with limitBase := none } new
  | none =>
    match newestOf .drop es with
    | some w => widen es w w (new.asTrailingDrop l)
    | none => es

/-! ### Panel DUMP (R86, R87) -/

/-- The panel floor F (R86). -/
def State.panelFloor (s : State) : Word :=
  match s.head? with
  | none => s.liveEdge
  | some h =>
    let f := s.lowestBound (s.activeTaps.filter (hasTap s.store.config.panelTaps)) s.idleFloor
    if serialLt f (h - 1#32) then h - 1#32 else f

/-- A PI is dropped for every panel tap. -/
def State.droppedForPanel (s : State) (x : Word) : Bool := (tapsOf s.store.config.panelTaps).all fun t => s.droppedFor t x

/-- The dump walk over entries from the live edge downward: the last PI counted. -/
def State.dumpWalk (s : State) : Nat → Option Word → List TimelineEntry → Option Word
  | 0, start, _ => start
  | _ + 1, start, [] => start
  | n + 1, start, e :: es =>
    if s.droppedForPanel e.pi then s.dumpWalk (n + 1) start es else s.dumpWalk n (some e.pi) es

/-- The start of the dump extent; none when the extent is empty. -/
def State.dumpStart (s : State) : Option Word :=
  if s.store.config.panelTaps = 0#4 then none
  else s.dumpWalk s.store.config.dumpLength none (s.above s.panelFloor).reverse

/-- The DROP range of a dump extent (R87). -/
def State.dumpRange (s : State) (start : Word) : Edit :=
  let trailing := decide (0 < s.store.config.snapReach)
  { id := 0
    kind := .drop
    state := if trailing then .trailing else .closed
    start := start
    stop := if trailing then none else some s.liveEdge
    reach := if trailing then some s.liveEdge else none
    limitBase := none
    taps := s.store.config.panelTaps
    origin := .panel
    rough := false
    extension := 0
    cutPending := !trailing }

/-- A DUMP press at the edit list. -/
def State.dump (s : State) : State :=
  match s.dumpStart with
  | none => s.raiseAll .dumpEmpty
  | some start =>
    let new := s.dumpRange start
    match offerRange s.edits new with
    | some es => s.tookRange new es
    | none => (s.tookRange new (widenForDump s.liveEdge s.edits new)).raiseAll .editWidened

/-! ### Panel MASK (R91, R92) -/

/-- The OPEN range of a MASK press (R91). -/
def State.maskRange (s : State) : Edit :=
  let start := serialMax (s.liveEdge - BitVec.ofNat 32 s.store.config.maskLead + 1#32) (s.panelFloor + 1#32)
  { id := 0
    kind := .mask
    state := .opened
    start := start
    stop := none
    reach := none
    limitBase := some start
    taps := s.store.config.panelTaps
    origin := .panel
    rough := false
    extension := 0
    cutPending := false }

/-- A MASK press at the edit list. -/
def State.openMask (s : State) : State :=
  if s.hasOpen ∨ s.store.config.panelTaps = 0#4 then s
  else
    let new := s.maskRange
    match offerRange s.edits new with
    | some es => s.tookRange new es
    | none => (s.tookRange new (widenForMask s.liveEdge s.edits new)).raiseAll .editWidened

/-- An entry closes with an end. -/
def Edit.close (e : Edit) (z : Word) : Edit := { e with state := .closed, stop := some z, reach := none, limitBase := none }

/-- The serially higher of a PI and a reach that may be absent. -/
def reachMax (z : Word) (reach : Option Word) : Word :=
  match reach with
  | none => z
  | some r => serialMax z r

/-- An OPEN entry after a MASK release: CLOSED, or gone when it covers nothing (R92). -/
def Edit.release (l : Word) (e : Edit) : Option Edit :=
  if e.state = .opened then
    let z := reachMax l e.reach
    if serialLt z e.start then none else some (e.close z)
  else some e

/-- A MASK release at the edit list. -/
def State.closeMask (s : State) : State := ({ s with edits := s.edits.filterMap (Edit.release s.liveEdge) }).pruneSpent

/-! ### Presentation of a PROGRAM commit (R67, R88 to R90, R93) -/

/-- A TRAILING drop meets a program entry (R88). -/
def Edit.settleAt (snap : Nat) (n : Word) (cutOk : Bool) (e : Edit) : Edit :=
  match e.state, e.reach with
  | .trailing, some r =>
    if serialLe n r then e
    else if cutOk then e.close (n - 1#32)
    else
      let k := bump Config.countMax e.extension
      if snap ≤ k then { e.close n with rough := true, extension := k } else { e with reach := some n, extension := k }
  | _, _ => e

/-- A CLOSED drop's pending cut check meets a program entry (R89). -/
def Edit.checkCut (n : Word) (cutOk : Bool) (e : Edit) : Edit :=
  match e.state, e.stop with
  | .closed, some z =>
    if e.cutPending && serialLt z n then
      { e with cutPending := false, rough := e.rough || !(n == z + 1#32 && cutOk) }
    else e
  | _, _ => e

/-- An OPEN mask meets the mask limit (R93). -/
def Edit.limitAt (limit : Nat) (n : Word) (e : Edit) : Edit :=
  match e.state, e.limitBase with
  | .opened, some b =>
    if (limit : Int) ≤ serialDiff n b + 1 then e.close (reachMax (b + BitVec.ofNat 32 limit - 1#32) e.reach) else e
  | _, _ => e

/-- What a presentation makes of one entry. -/
def State.present1 (s : State) (n : Word) (cutOk : Bool) (e : Edit) : Edit :=
  ((e.settleAt s.store.config.snapReach n cutOk).checkCut n cutOk).limitAt s.store.config.maskLimit n

/-- A PROGRAM commit's entry is presented to the edit list (R67). -/
def State.present (s : State) (n : Word) (cutOk : Bool) : State :=
  let roughened := s.edits.any fun e => !e.rough && (s.present1 n cutOk e).rough
  let limited := s.edits.any fun e => e.state == .opened && (s.present1 n cutOk e).state == .closed
  (((({ s with edits := s.edits.map (s.present1 n cutOk) }).raiseUnless (!roughened) .spliceRough)).raiseUnless (!limited)
    .maskLimit).pruneSpent

/-! ### In-band marks (R94 to R97) -/

/-- The newest entry that carries a SEQ (R63). -/
def State.bySeq (s : State) (q : Word) : Option TimelineEntry := s.timeline.entries.reverse.find? fun e => e.seq == some q

/-- The newest and the oldest entry that carry any SEQ (R63, Live SEQ and Head SEQ). -/
def State.liveSeqEntry (s : State) : Option TimelineEntry := s.timeline.entries.reverse.find? fun e => e.seq.isSome

/-- See `liveSeqEntry`. -/
def State.headSeqEntry (s : State) : Option TimelineEntry := s.timeline.entries.find? fun e => e.seq.isSome

/-- Start PI, count and whether the range was clipped, of a mark's start SEQ (Table 36); none when it does not map. -/
def State.mapMark (s : State) (q : Word) (count : Nat) : Option (Word × Nat × Bool) :=
  match s.bySeq q with
  | some e => some (e.pi, count, false)
  | none =>
    match s.liveSeqEntry, s.headSeqEntry with
    | some l, some h =>
      let ahead := serialDiff q (l.seq.getD 0#32)
      let behind := serialDiff (h.seq.getD 0#32) q
      if 1 ≤ ahead ∧ ahead ≤ Config.markMax then some (l.pi + (q - l.seq.getD 0#32), count, false)
      else if 1 ≤ behind ∧ behind < count then some (h.pi, count - behind.toNat, true)
      else none
    | _, _ => none

/-- The settled range of a MARK DROP over `p` to `z` (R96). -/
def State.markDropRange (s : State) (taps : BitVec 4) (p z : Word) : Edit :=
  let base : Edit :=
    { id := 0, kind := .drop, state := .closed, start := p, stop := some z, reach := none, limitBase := none, taps := taps,
      origin := .inband, rough := false, extension := 0, cutPending := false }
  if s.store.config.snapReach = 0 then
    match s.entryAt (z + 1#32) with
    | some e => { base with rough := !e.cutOk }
    | none => { base with cutPending := true }
  else
    ((s.above z).filter fun e => e.gap.isNone).foldl (fun d e => d.settleAt s.store.config.snapReach e.pi e.cutOk)
      { base with state := .trailing, stop := none, reach := some z }

/-- The range of a MARK MASK over `p` to `z` (R97). -/
def markMaskRange (taps : BitVec 4) (p z : Word) : Edit :=
  { id := 0, kind := .mask, state := .closed, start := p, stop := some z, reach := none, limitBase := none, taps := taps,
    origin := .inband, rough := false, extension := 0, cutPending := false }

/-- The new range of a mark over `p` to `z` (R96, R97). -/
def State.markRange (s : State) (kind : EditKind) (taps : BitVec 4) (p z : Word) : Edit :=
  match kind with
  | .drop => s.markDropRange taps p z
  | .mask => markMaskRange taps p z

/-- MARK DROP and MARK MASK (R94): the taps mask, the count, the mapping, then the list. -/
def State.mark (s : State) (kind : EditKind) (taps : BitVec 4) (count : Nat) (q : Word) : State × CmdResult :=
  if taps = 0#4 ∨ count = 0 then (s, .refusedRange)
  else
    let n := min count Config.markMax
    match s.mapMark q n with
    | none => (s, .refusedRange)
    | some (p, m, clipped) =>
      let new := s.markRange kind taps p (p + BitVec.ofNat 32 m - 1#32)
      match offerRange s.edits new with
      | none => (s, .refusedFull)
      | some es =>
        ((s.raiseUnless (!new.rough) .spliceRough).tookRange new es, if clipped ∨ n < count then .clamped else .accepted)

/-! ### Cancellation (R100) -/

/-- CANCEL EDIT. -/
def State.cancelEdit (s : State) (id : Nat) : State × CmdResult :=
  match s.edits.find? fun e => e.id == id with
  | none => (s, .refusedRange)
  | some e =>
    if s.activeTaps.any fun t => e.applies t && serialLe e.start (s.tap t).bound then (s, .refusedState)
    else ({ s with edits := s.edits.filter fun e => e.id != id }, .accepted)

end Sys2Proof.Machine
end

