-- ==== Sys2Proof/Machine/Operands.lean ====
section
/-! DEFINITION. The forms the part reads and writes: addresses and windows (R5, R6), the capture header and control entries
(Tables 11 and 12), result values and kinds, fill plans and their parts (R12, R13), and the store record (Table 61). -/

namespace Sys2Proof.Machine

/-! ### Geometry and classification (R5, R6) -/

/-- The segment size S in bytes (R170, S codes). -/
def Geometry.segSize (g : Geometry) : Nat := 16384 * 2 ^ g.sCode.val

/-- Bytes of the aperture: 296 S. -/
def Geometry.apertureSpan (g : Geometry) : Nat := Config.apertureSlots * g.segSize

/-- Bytes of the backing region: N S. -/
def Geometry.backingSpan (g : Geometry) : Nat := g.n * g.segSize

/-- Two byte intervals, each a first byte and a length, share a byte. -/
def rangesMeet (a n b m : Nat) : Bool := decide (max a b < min (a + n) (b + m))

/-- A request is legal (Table 4, Note 1): 64-byte aligned, and within one aligned block of 1024 bytes. -/
def requestLegal (r : LinkRequest) : Bool :=
  r.addr.toNat % 64 == 0 && decide (r.addr.toNat % 1024 + r.length ≤ 1024)

/-- A request touches the aperture (R6). -/
def Geometry.touchesAperture (g : Geometry) (r : LinkRequest) : Bool :=
  rangesMeet r.addr.toNat r.length g.apertureBase.toNat g.apertureSpan

/-- A request touches the backing region (R6). -/
def Geometry.touchesBacking (g : Geometry) (r : LinkRequest) : Bool :=
  rangesMeet r.addr.toNat r.length g.backingBase.toNat g.backingSpan

/-- The slot number within the aperture: (address - B) div S (R6). -/
def Geometry.slotOf (g : Geometry) (a : Addr) : Nat := (a.toNat - g.apertureBase.toNat) / g.segSize

/-- The offset within the slot: (address - B) mod S (R6). -/
def Geometry.offsetOf (g : Geometry) (a : Addr) : Nat := (a.toNat - g.apertureBase.toNat) % g.segSize

/-- The windows of the aperture with their window slots (Table 8). -/
inductive Window where
  | capture (slot : Nat)
  | tap (t : Fin 4) (slot : Nat)
  | review (slot : Nat)
  deriving DecidableEq, Repr

/-- The window of an aperture slot (Table 8). -/
def windowOf (slot : Nat) : Window :=
  if slot < 8 then .capture slot
  else if slot < 16 then .tap 0 (slot - 8)
  else if slot < 24 then .tap 1 (slot - 16)
  else if slot < 32 then .tap 2 (slot - 24)
  else if slot < 40 then .tap 3 (slot - 32)
  else .review (slot - 40)

/-- The class of a request, the first row of Table 7 that matches. A capture write is CAPTURE until the capture unit absorbs it. -/
def Geometry.classify (g : Geometry) (r : LinkRequest) : ReqClass :=
  if !requestLegal r && (g.touchesAperture r || g.touchesBacking r) then .illegal
  else if requestLegal r && g.touchesBacking r then .guarded
  else if !g.touchesAperture r then .pass
  else
    match windowOf (g.slotOf r.addr), r.op with
    | .capture _, .write => .capture
    | .capture _, .read => .zero
    | .tap _ _, .write => .absorbed
    | .review _, .write => .absorbed
    | .tap _ _, .read => .tap
    | .review _, .read => .review

/-- The link address of byte `off` of segment `p`: backing base + p S + off (R11, R13). -/
def Geometry.segAddr (g : Geometry) (p off : Nat) : Addr :=
  BitVec.ofNat 40 (g.backingBase.toNat + p * g.segSize + off)

/-! ### Capture header (Table 11) and control entries (Table 12) -/

/-- KIND of a header. -/
def parseKind (b : Byte) : Option SegmentKind :=
  match b.toNat with
  | 1 => some .program
  | 2 => some .maskSource
  | 3 => some .controlOnly
  | _ => none

/-- A control entry from its eight bytes; bits 4 to 7 of TAPS are ignored. -/
def parseControl (bs : List Byte) : ControlEntry :=
  { code := byteOf bs 0
    taps := (byteOf bs 1).setWidth 4
    argA := BitVec.ofNat 16 (field bs 2 2)
    argB := BitVec.ofNat 32 (field bs 4 4) }

/-- The five control entries of a header, in entry order (R20). -/
def parseControls (bs : List Byte) : List ControlEntry :=
  [24, 32, 40, 48, 56].map fun off => parseControl ((bs.drop off).take 8)

/-- The mark 'Q','S','E','G'. -/
def captureMark : List Byte := [0x51#8, 0x53#8, 0x45#8, 0x47#8]

/-- The header of a header write, or none when it is bad (R19, R29). -/
def parseCaptureHeader (segSize : Nat) (bs : List Byte) : Option CaptureHeader :=
  let la := field bs 12 4
  let lv := field bs 16 4
  match parseKind (byteOf bs 8) with
  | none => none
  | some kind =>
    if bs.take 4 ≠ captureMark ∨ segSize - 64 < la + lv ∨ (kind = .controlOnly ∧ (la ≠ 0 ∨ lv ≠ 0)) then none
    else
      some
        { seq := BitVec.ofNat 32 (field bs 4 4)
          kind := kind
          cutOk := (byteOf bs 9).getLsbD 0
          la := la
          lv := lv
          check := BitVec.ofNat 32 (field bs 20 4)
          controls := parseControls bs }

/-- The payload end e = 64 + LA + LV. -/
def CaptureHeader.payloadEnd (h : CaptureHeader) : Nat := 64 + h.la + h.lv

/-! ### Values in served headers -/

/-- Result values (Table 16). -/
def CmdResult.value : CmdResult → Nat
  | .accepted => 0
  | .clamped => 1
  | .refusedCode => 2
  | .refusedState => 3
  | .refusedRange => 4
  | .refusedFull => 5
  | .refusedGuard => 6
  | .refusedBusy => 7

/-- SERVED_KIND (Table 13). -/
def ServedKind.value : ServedKind → Nat
  | .fill => 0
  | .program => 1
  | .repeated => 2

/-- Tap state in byte 18 (Table 13). -/
def TapState.value : TapState → Nat
  | .off => 0
  | .priming => 1
  | .run => 2

/-- Pacer mode in byte 18 (Table 13). -/
def PacerMode.value : PacerMode → Nat
  | .steady => 0
  | .build => 1
  | .shed => 2

/-- Quarantine state in byte 54 (Table 13). -/
def LockState.value : LockState → Nat
  | .unlocked => 0
  | .locked => 1
  | .frozen => 2

/-- A flag's weight at bit `n`. -/
def weigh (b : Bool) (n : Nat) : Nat := if b then 2 ^ n else 0

/-- SERVED_FLAGS (Table 13, byte 17). -/
def ServedFlags.value (f : ServedFlags) : Nat :=
  weigh f.masked 0 + weigh f.checkFail 1 + weigh f.gap 2 + weigh f.adjust 3 + weigh f.splice 4 + weigh f.rough 5 +
    weigh f.underrun 6 + weigh f.outOfStep 7

/-! ### Fill plans (R12 to R14) -/

/-- The source of one byte (R12). -/
inductive Source where
  | header (o : Nat)
  | segment (p o : Nat)
  | mask (p m : Nat)
  | zero
  deriving DecidableEq, Repr

/-- The mask offset of audio byte `o`: 64 + ((o - 64) mod LMASK). -/
def MaskRun.offset (m : MaskRun) (o : Nat) : Nat := 64 + (o - 64) % m.lmask

/-- The source of the byte at offset `o` of the slot. -/
def FillPlan.source (f : FillPlan) (o : Nat) : Source :=
  if o < 64 then
    match f.header with
    | some _ => .header o
    | none => .zero
  else
    match f.segment, f.mask with
    | some g, some m =>
      if g.lo ≤ o ∧ o < g.hi then .segment g.phys o
      else if m.lo ≤ o ∧ o < m.hi then .mask m.phys (m.offset o)
      else .zero
    | some g, none => if g.lo ≤ o ∧ o < g.hi then .segment g.phys o else .zero
    | none, some m => if m.lo ≤ o ∧ o < m.hi then .mask m.phys (m.offset o) else .zero
    | none, none => .zero

/-- One M-side READ a plan needs (R13): of a mask part or of the segment part, its segment, first offset and length, and the offsets
`lo` to `hi - 1` that the plan takes from it; the rest of the hull is discarded. -/
structure PartRead where
  isMask : Bool
  phys : Nat
  base : Nat
  length : Nat
  lo : Nat
  hi : Nat
  deriving DecidableEq, Repr

/-- The aligned hull of the offsets `lo` to `hi - 1`: its first offset and the offset past its last byte. -/
def hull (lo hi : Nat) : Nat × Nat := (64 * (lo / 64), 64 * ((hi - 1) / 64) + 64)

/-- The READs of one mask part: one, or two split at a 1024-byte boundary its hull crosses. -/
def maskReads (phys lo hi : Nat) : List PartRead :=
  let h := hull lo hi
  let cut := 1024 * (h.1 / 1024 + 1)
  if h.2 ≤ cut then [⟨true, phys, h.1, h.2 - h.1, lo, hi⟩]
  else [⟨true, phys, h.1, cut - h.1, lo, cut⟩, ⟨true, phys, cut, h.2 - cut, cut, hi⟩]

/-- The READs of a plan, segment part first (R13). -/
def FillPlan.reads (f : FillPlan) : List PartRead :=
  let segment :=
    match f.segment with
    | none => []
    | some g => let h := hull g.lo g.hi; [⟨false, g.phys, h.1, h.2 - h.1, g.lo, g.hi⟩]
  let mask :=
    match f.mask with
    | none => []
    | some m =>
      let need := min (m.hi - m.lo) m.lmask
      let first := m.offset m.lo
      let run := min need (64 + m.lmask - first)
      maskReads m.phys first (first + run) ++ if run < need then maskReads m.phys 64 (64 + (need - run)) else []
  segment ++ mask

/-- The segments a plan names (Table 5, Target segments). -/
def FillPlan.targets (f : FillPlan) : List Nat :=
  (f.segment.map (·.phys)).toList ++ (f.mask.map (·.phys)).toList

/-- The byte at offset `o` of the segment part (`isMask` no) or of the mask parts. -/
def partByte (received : List PartData) (isMask : Bool) (o : Nat) : Byte :=
  match received.find? fun d => d.isMask == isMask && decide (d.base ≤ o) && decide (o < d.base + d.bytes.length) with
  | none => 0#8
  | some d => byteOf d.bytes (o - d.base)

/-- One byte of the response (R14). -/
def FillPlan.byteAt (f : FillPlan) (received : List PartData) (o : Nat) : Byte :=
  match f.source o with
  | .header o => byteOf (f.header.getD []) o
  | .segment _ o => partByte received false o
  | .mask _ m => partByte received true m
  | .zero => 0#8

/-- The response's data, byte by byte from the plan (R14). -/
def FillPlan.compose (f : FillPlan) (received : List PartData) : List Byte :=
  (List.range f.length).map fun i => f.byteAt received (f.offset + i)

/-! ### Store record (R180, Table 61) -/

/-- The mark 'Q','C','F','G'. -/
def recordMark : List Byte := [0x51#8, 0x43#8, 0x46#8, 0x47#8]

/-- A tap's twelve bytes (Table 61, Note 1). -/
def tapRecord (c : TapSettings) : List Byte :=
  toLE 1 (weigh c.enabled 0 + weigh (c.policy == .wait) 1) ++ zeros 1 ++ toLE 2 c.de ++ toLE 2 c.p ++ toLE 2 c.k ++
    toLE 1 c.g ++ zeros 3

/-- Bytes 0 to 251 of the record. -/
def recordBody (g : Geometry) (c : WorkingConfig) (hard : List Nat) : List Byte :=
  recordMark ++ toLE 1 1 ++ toLE 1 g.sCode.val ++ toLE 2 g.n ++ toLE 2 g.q ++ toLE 5 g.apertureBase.toNat ++
    toLE 5 g.backingBase.toNat ++ toLE 1 (weigh (c.checkPolicy == .repeatSource) 0 + weigh c.lockAtStart 1) ++
    toLE 1 c.faultThreshold ++ toLE 1 c.stallLimit ++ zeros 1 ++ toLE 2 c.dumpLength ++ toLE 1 c.maskLead ++
    toLE 1 c.snapReach ++ toLE 2 c.maskLimit ++ toLE 1 (c.panelTaps.toNat + 16 * c.tallyTap.val) ++ zeros 1 ++
    tapRecord c.taps.t0 ++ tapRecord c.taps.t1 ++ tapRecord c.taps.t2 ++ tapRecord c.taps.t3 ++
    toLE 1 hard.length ++ zeros 3 ++ (hard.flatMap (toLE 2) ++ zeros (128 - 2 * hard.length)) ++ zeros 40

/-- The 256 bytes of the record, the check word last (R183). -/
def buildRecord (g : Geometry) (c : WorkingConfig) (hard : List Nat) : List Byte :=
  let body := recordBody g c hard
  body ++ toLE 4 (checkWord body).toNat

/-- A value brought to the nearest end of a range (R181). -/
def clampTo (lo hi v : Nat) : Nat := max lo (min v hi)

/-- A tap's settings from its twelve bytes, each brought into its range; De is brought to Dmax when that is known (R182). -/
def parseTapRecord (bs : List Byte) : TapSettings :=
  let p := clampTo 2 4095 (field bs 4 2)
  { enabled := (byteOf bs 0).getLsbD 0
    policy := if (byteOf bs 0).getLsbD 1 then .wait else .build
    de := field bs 2 2
    p := p
    k := min (field bs 6 2) (p / 2)
    g := field bs 8 1 }

/-- The geometry of a record. -/
def parseGeometry (bs : List Byte) : Geometry :=
  { apertureBase := BitVec.ofNat 40 (field bs 10 5)
    backingBase := BitVec.ofNat 40 (field bs 15 5)
    sCode := Fin.ofNat 4 (field bs 5 1)
    n := field bs 6 2
    q := field bs 8 2 }

/-- The conditions on a geometry whose failure makes a record invalid (R181). -/
def Geometry.consistent (g : Geometry) : Bool :=
  decide (64 ≤ g.n) && decide (g.n ≤ 4096) && decide (g.q ≤ 256) && decide (g.q ≤ g.n / 4) &&
    g.apertureBase.toNat % 2 ^ 26 == 0 && g.backingBase.toNat % 2 ^ 16 == 0 &&
    decide (g.backingBase.toNat + g.backingSpan ≤ 2 ^ 40) &&
    !rangesMeet g.backingBase.toNat g.backingSpan g.apertureBase.toNat g.apertureSpan

/-- The mark, version, check word, S code and geometry of a record are right (R181). -/
def recordValid (bs : List Byte) : Bool :=
  bs.length == Config.recordBytes && bs.take 4 == recordMark && field bs 4 1 == 1 &&
    field bs 252 4 == (checkWord (bs.take 252)).toNat && decide (field bs 5 1 ≤ 3) && (parseGeometry bs).consistent

/-- The working configuration a valid record supplies. -/
def parseConfig (bs : List Byte) : WorkingConfig :=
  { geometry := parseGeometry bs
    taps := ⟨parseTapRecord ((bs.drop 32).take 12), parseTapRecord ((bs.drop 44).take 12),
      parseTapRecord ((bs.drop 56).take 12), parseTapRecord ((bs.drop 68).take 12)⟩
    dumpLength := clampTo 1 1024 (field bs 24 2)
    maskLead := clampTo 1 64 (field bs 26 1)
    maskLimit := clampTo 1 4096 (field bs 28 2)
    snapReach := field bs 27 1
    panelTaps := (byteOf bs 30).setWidth 4
    tallyTap := Fin.ofNat 4 (field bs 30 1 / 16)
    checkPolicy := if (byteOf bs 20).getLsbD 0 then .repeatSource else .serve
    faultThreshold := clampTo 1 7 (field bs 21 1)
    stallLimit := clampTo 1 255 (field bs 22 1)
    lockAtStart := (byteOf bs 20).getLsbD 1 }

/-- The hard retire list of a record: the first `count` of its 64 entries. -/
def parseHardList (bs : List Byte) : List Nat :=
  (List.range (min (field bs 80 1) Config.hardListMax)).map fun i => field bs (84 + 2 * i) 2

/-- What a record supplies, or none when it is invalid (R181). -/
def parseRecord (bs : List Byte) : Option (WorkingConfig × List Nat) :=
  if recordValid bs then some (parseConfig bs, parseHardList bs) else none

end Sys2Proof.Machine
end

