-- ==== Sys2Proof/Machine/TapOps.lean ====
section
/-! DEFINITION. The tap engines (chapters 6 and 7): turning taps on and off, bindings and the pacer at an advance, served headers,
fill plans and the readback check; and the review window's headers and plans (chapter 8). -/

namespace Sys2Proof.Machine

/-! ### Turning a tap on and off (R107, R108) -/

/-- Every reference a tap holds is dropped and its pins released. -/
def State.dropReferences (s : State) (t : Fin 4) : State :=
  let x := s.tap t
  let s1 := s.setTap t { x with current := none, previous := none, repeatSource := none }
  ((s1.unpinOpt (x.current.bind (·.binding.phys))).unpinOpt (x.previous.bind (·.binding.phys))).unpinOpt (x.repeatSource.map (·.phys))

/-- TAP ON (R107). Dt becomes De as it stands once the references are dropped. -/
def State.tapOn (policy : StartPolicy) (s : State) (t : Fin 4) : State :=
  let s1 := s.dropReferences t
  s1.modifyTap t fun x =>
    { x with
      bound := s1.liveEdge
      op := 0xFFFFFFFF#32
      dt := (s1.settings t).de
      acc := 0
      sinceLast := Config.countMax
      mode := .steady
      dropped := 0
      repeats := 0
      shed := 0
      stepErrors := 0
      underrunRun := 0
      stalled := false
      spliceOwed := false
      stepErrorOwed := false
      state := match policy with | .build => .run | .wait => .priming }

/-- TAP OFF (R108); of an OFF tap it leaves the context as it is. -/
def State.tapOff (s : State) (t : Fin 4) : State :=
  if (s.tap t).active then (s.dropReferences t).modifyTap t fun x => { x with state := .off } else s

/-! ### Bindings (R105, R113 to R121) -/

/-- No flag set. -/
def ServedFlags.none : ServedFlags := ⟨false, false, false, false, false, false, false, false⟩

/-- A readback that is not running, with offset 0 and word 0; a BROKEN one holds them too (log entry 40). -/
def Readback.none : Readback := { state := .none, next := 0, running := 0#32, chunks := [] }

/-- A readback at the binding of an eligible position (R125). -/
def Readback.start : Readback := { state := .expecting, next := 64, running := crcInit, chunks := [] }

/-- A FILL binding. -/
def Binding.fill (op : Word) (flags : ServedFlags) : Binding :=
  { op := op, kind := .fill, flags := flags, srcPi := .none, srcSeq := .none, phys := .none, masked := false, la := 0, lv := 0,
    check := 0#32, header := [], readback := .none }

/-- A position that serves the repeat source, or FILL with none (R115 to R117). A REPEAT carries MASKED when the source was
served masked. -/
def Tap.repeatBinding (x : Tap) (flags : ServedFlags) : Binding :=
  match x.repeatSource with
  | .none => .fill x.op flags
  | some r =>
    { op := x.op, kind := .repeated, flags := { flags with masked := r.masked }, srcPi := some r.pi, srcSeq := some r.seq,
      phys := some r.phys, masked := r.masked, la := r.la, lv := r.lv, check := r.check, header := [], readback := .none }

/-- A position that serves entry `e` on segment `p` as PROGRAM (R117, R125). -/
def Tap.programBinding (x : Tap) (e : TimelineEntry) (p : Nat) (masked : Bool) (flags : ServedFlags) : Binding :=
  { op := x.op, kind := .program, flags := { flags with masked := masked }, srcPi := some e.pi, srcSeq := e.seq, phys := some p,
    masked := masked, la := e.la, lv := e.lv, check := e.check, header := [],
    readback := if !masked && e.checkPass == some true && decide (0 < e.la + e.lv) then .start else .none }

/-- The repeat source that a PROGRAM position makes of its entry (R119). -/
def repeatOf (e : TimelineEntry) (p : Nat) (masked : Bool) : RepeatSource :=
  { phys := p, pi := e.pi, seq := e.seq.getD 0#32, la := e.la, lv := e.lv, check := e.check, masked := masked }

/-- Normal binding of an entry (Table 44) with ADJUST, SPLICE and ROUGH as R116 and R118 add them. `passed` says that this advance
passed over a dropped entry. -/
def State.bindEntry (s : State) (t : Fin 4) (e : TimelineEntry) (adjust passed : Bool) : State × Binding :=
  let x := s.tap t
  let splice := passed || x.spliceOwed
  let flags : ServedFlags :=
    { ServedFlags.none with adjust := adjust, splice := splice, rough := splice && !e.cutOk, outOfStep := x.stepErrorOwed }
  let x1 := { x with bound := e.pi, spliceOwed := x.spliceOwed && !splice, stepErrorOwed := false }
  let fails := e.checkPass == some false
  match e.phys with
  | .none => (s.setTap t x1.countRepeat, x1.repeatBinding { flags with gap := true })
  | some p =>
    if fails ∧ s.store.config.checkPolicy = .repeatSource then
      (s.setTap t x1.countRepeat, x1.repeatBinding { flags with checkFail := true })
    else
      let masked := s.maskedFor t e.pi
      (s.setTap t { x1 with repeatSource := some (repeatOf e p masked) },
        x1.programBinding e p masked { flags with checkFail := fails })

/-- An underrun (R115, R134, R140). -/
def State.bindUnderrun (s : State) (t : Fin 4) : State × Binding :=
  let x := s.tap t
  let n := bump Config.countMax x.underrunRun
  let x1 := { x with
    underrunRun := n
    mode := if 0 < x.dt then .build else .steady
    sinceLast := bump Config.countMax x.sinceLast
    stepErrorOwed := false }
  let x2 := if x.underrunRun = 0 then x1.raise .underrun else x1
  let x3 := if s.store.config.stallLimit ≤ n ∧ !x.stalled then { x2 with stalled := true }.raise .captureStall else x2
  (s.setTap t x3.countRepeat, x.repeatBinding { ServedFlags.none with underrun := true, outOfStep := x.stepErrorOwed })

/-- The pacer mode from d and Dt (R134). -/
def paceMode (d dt : Nat) : PacerMode := if d < dt then .build else if dt < d then .shed else .steady

/-- The cut point a SHED would bind: the first entry above the candidate that is not dropped, when it is CUT_OK (R138). The
entries passed on the way come with it. -/
def State.shedTarget (s : State) (t : Fin 4) (after : List TimelineEntry) : Option (List TimelineEntry × TimelineEntry) :=
  match after.dropWhile fun e => s.droppedFor t e.pi with
  | [] => none
  | e :: _ => if e.cutOk then some (after.takeWhile (fun e => s.droppedFor t e.pi), e) else none

/-- An advance with a candidate `c` and the entries above it (R116, R135 to R139). `s` has the passed entries marked, `mode` is the
mode R134 sets, `passed` says whether any entry was passed. -/
def State.bindPaced (s : State) (t : Fin 4) (mode : PacerMode) (c : TimelineEntry) (after : List TimelineEntry) (passed : Bool) :
    State × Binding :=
  let x := { s.tap t with mode := mode, underrunRun := 0, stalled := false }
  let w := s.settings t
  let sum := x.acc + w.k
  let due := decide (w.p ≤ sum) && decide (w.g ≤ x.sinceLast)
  let held := { x with acc := min sum w.p, sinceLast := bump Config.countMax x.sinceLast }
  match mode with
  | .steady => (s.setTap t { x with acc := 0, sinceLast := bump Config.countMax x.sinceLast }).bindEntry t c false passed
  | .build =>
    if due && x.repeatSource.isSome then
      (s.setTap t { x with acc := sum - w.p, sinceLast := 0, stepErrorOwed := false }.countRepeat,
        x.repeatBinding { ServedFlags.none with adjust := true, outOfStep := x.stepErrorOwed })
    else (s.setTap t held).bindEntry t c false passed
  | .shed =>
    match if due then s.shedTarget t after else none with
    | some (between, c2) =>
      let s1 := s.setTap t { x with acc := sum - w.p, sinceLast := 0 }.countShed
      (between.foldl (State.passOver t) s1).bindEntry t c2 true (passed || !between.isEmpty)
    | none => (s.setTap t held).bindEntry t c false passed

/-- An advance of a RUN tap: the candidate search, then an underrun or the pacer (R114). -/
def State.bindRun (s : State) (t : Fin 4) : State × Binding :=
  let ahead := s.above (s.tap t).bound
  let passed := ahead.takeWhile fun e => s.droppedFor t e.pi
  let s1 := passed.foldl (State.passOver t) s
  match ahead.dropWhile fun e => s.droppedFor t e.pi with
  | [] => s1.bindUnderrun t
  | c :: after => s1.bindPaced t (paceMode (s.delay t) (s.tap t).dt) c after (!passed.isEmpty)

/-- The binding of a new position (R113, R114). -/
def State.bindPosition (s : State) (t : Fin 4) : State × Binding :=
  let x := s.tap t
  match x.state with
  | .priming =>
    if s.delay t < x.dt then
      (s.setTap t { x with mode := .build, stepErrorOwed := false },
        .fill x.op { ServedFlags.none with outOfStep := x.stepErrorOwed })
    else (s.setTap t { x with state := .run }).bindRun t
  | .run => s.bindRun t
  | .off => (s, .fill x.op ServedFlags.none)

/-! ### Served headers (R21, R22, R120, R172) -/

/-- The mark 'Q','O','U','T'. -/
def outMark : List Byte := [0x51#8, 0x4F#8, 0x55#8, 0x54#8]

/-- Bytes 40 to 63: the tap's status (R172). -/
def State.statusBytes (s : State) (t : Fin 4) : List Byte :=
  let x := s.tap t
  let report : Nat × Nat × Nat :=
    match x.report with
    | none => (0, 0, 0)
    | some r => (r.code.toNat, r.result.value, r.seq.toNat)
  toLE 4 x.latch.toNat ++ toLE 2 x.dropped ++ toLE 2 x.repeats ++ toLE 2 x.shed ++ toLE 2 x.stepErrors ++
    toLE 2 s.quarantine.records.length ++ toLE 1 s.quarantine.lock.value ++ toLE 1 s.edits.length ++ toLE 1 report.1 ++
    toLE 1 report.2.1 ++ toLE 1 x.executed ++ toLE 1 s.pool.patternFailures ++ toLE 4 report.2.2

/-- The header of a binding (R120). -/
def State.servedHeader (s : State) (t : Fin 4) (b : Binding) : List Byte :=
  let x := s.tap t
  outMark ++ toLE 4 b.op.toNat ++ toLE 4 (b.srcSeq.getD 0#32).toNat ++ toLE 4 (b.srcPi.getD 0#32).toNat ++
    toLE 1 b.kind.value ++ toLE 1 b.flags.value ++ toLE 1 (x.state.value + 4 * x.mode.value) ++ toLE 1 t.val ++ toLE 4 b.la ++
    toLE 4 b.lv ++ toLE 4 (if b.masked || b.kind == .fill then 0 else b.check.toNat) ++ toLE 4 (s.delay t) ++ toLE 4 x.dt ++
    s.statusBytes t

/-- The header of an OFF read (R112). -/
def State.offHeader (s : State) (t : Fin 4) : List Byte :=
  outMark ++ toLE 4 (s.tap t).op.toNat ++ zeros 8 ++ zeros 1 ++ zeros 1 ++ toLE 1 TapState.off.value ++ toLE 1 t.val ++ zeros 12 ++
    toLE 4 0 ++ toLE 4 (s.tap t).dt ++ s.statusBytes t

/-- The header of a review read of a record at slot `j` (R22). -/
def reviewHeader (r : SegmentRecord) (j : Nat) : List Byte :=
  outMark ++ zeros 4 ++ toLE 4 r.seq.toNat ++ toLE 4 r.pi.toNat ++ toLE 1 3 ++ zeros 1 ++ zeros 1 ++ toLE 1 255 ++ toLE 4 r.la ++
    toLE 4 r.lv ++ toLE 4 r.check.toNat ++ toLE 4 j ++ toLE 4 (r.withheld.toNat + weigh (r.origin == some .inband) 8) ++ zeros 24

/-- The header of an empty review read of slot `j` (R22). -/
def emptyReviewHeader (j : Nat) : List Byte :=
  outMark ++ zeros 12 ++ zeros 1 ++ zeros 1 ++ zeros 1 ++ toLE 1 255 ++ zeros 12 ++ toLE 4 j ++ zeros 4 ++ zeros 24

/-! ### Advance (R111, R120, R172) -/

/-- The snapshot: the binding's header is composed, and the latch and the report it carries are emptied. -/
def State.takeSnapshot (s : State) (t : Fin 4) (j : Nat) (b : Binding) : State :=
  s.modifyTap t fun x =>
    { x with current := some ⟨j, { b with header := s.servedHeader t b }⟩, latch := 0#32, report := none }

/-- The pins of an advance (R47, R121): the new binding's and a changed repeat source's are taken, then those that are replaced are
dropped. -/
def State.movePins (s : State) (b : Binding) (previous : Option SlotBinding) (before after : Option RepeatSource) : State :=
  let s1 := s.pinOpt b.phys
  let s2 := if b.kind = .program then s1.pinOpt (after.map (·.phys)) else s1
  let s3 := s2.unpinOpt (previous.bind (·.binding.phys))
  if b.kind = .program then s3.unpinOpt (before.map (·.phys)) else s3

/-- An advance of tap `t` to slot `j` (R111). The snapshot comes last (log entry 12). -/
def State.advance (s : State) (t : Fin 4) (j : Nat) : State :=
  let x := s.tap t
  let s1 := s.setTap t { x with previous := x.current, current := none, op := x.op + 1#32 }
  let bound := s1.bindPosition t
  let s2 := bound.1.movePins bound.2 x.previous x.repeatSource (bound.1.tap t).repeatSource
  (s2.settle).takeSnapshot t j bound.2

/-! ### Fill plans of a tap read (R122, R123) -/

/-- The payload end e of a binding. -/
def Binding.payloadEnd (b : Binding) : Nat := 64 + b.la + b.lv

/-- The header part of a plan: the bytes 0 to 63 when the burst includes them. -/
def headerPart (off : Nat) (h : List Byte) : Option (List Byte) := if off < 64 then some h else none

/-- A run of SEGMENT bytes, when it is not empty. -/
def segmentRun (p lo hi : Nat) : Option SegmentRun := if lo < hi then some ⟨p, lo, hi⟩ else none

/-- The plan of a read of `len` bytes at `off` served from a binding (Table 45); the mask image is read at the read's arrival. -/
def State.bindingPlan (s : State) (b : Binding) (off len : Nat) : FillPlan :=
  let stop := min (off + len) b.payloadEnd
  let audioEnd := 64 + b.la
  let base : FillPlan := { offset := off, length := len, header := headerPart off b.header, segment := none, mask := none }
  match b.phys with
  | none => base
  | some p =>
    if b.masked then
      let lo := max off 64
      let hi := min (off + len) audioEnd
      { base with
        segment := segmentRun p (max off audioEnd) stop
        mask :=
          match s.pool.maskImage with
          | some m => if lo < hi ∧ 0 < s.pool.lmask then some ⟨m, s.pool.lmask, lo, hi⟩ else none
          | none => none }
    else { base with segment := segmentRun p (max off 64) stop }

/-- The plan of an OFF read or an empty review read. -/
def headerPlan (h : List Byte) (off len : Nat) : FillPlan :=
  { offset := off, length := len, header := headerPart off h, segment := none, mask := none }

/-- The plan of an out-of-step read: zeros everywhere. -/
def zeroPlan (off len : Nat) : FillPlan := { offset := off, length := len, header := none, segment := none, mask := none }

/-- The plan of a record read of the review window (R152). -/
def recordPlan (r : SegmentRecord) (j off len : Nat) : FillPlan :=
  { offset := off, length := len, header := headerPart off (reviewHeader r j),
    segment := segmentRun r.phys (max off 64) (min (off + len) (64 + r.la + r.lv)), mask := none }

/-! ### Readback check (R125 to R127) -/

/-- The arrival of a read under tag `tag` acts on a binding's progress (R125). -/
def Binding.readArrives (b : Binding) (tag : Fin 64) (off len : Nat) : Binding :=
  let lo := max off 64
  let hi := min (off + len) b.payloadEnd
  if lo < hi ∧ b.readback.state = .expecting then
    if lo = b.readback.next then
      { b with readback := { b.readback with next := hi, chunks := b.readback.chunks ++ [⟨tag, lo, hi, none⟩] } }
    else { b with readback := { Readback.none with state := .broken } }
  else b

/-- A continuing read of this tag still waits for its data. -/
def Readback.awaits (r : Readback) (tag : Fin 64) : Bool := r.chunks.any fun c => c.tag == tag && c.bytes.isNone

/-- The data of a tag's read joins the read it belongs to. -/
def fillChunk (tag : Fin 64) (base : Nat) (data : List Byte) (c : ReadbackChunk) : ReadbackChunk :=
  if c.tag = tag ∧ c.bytes = none then { c with bytes := some (slice data base c.lo c.hi) } else c

/-- Data is taken into the running word in the order in which the reads arrived. -/
def takeChunks (running : Word) : List ReadbackChunk → Word × List ReadbackChunk
  | [] => (running, [])
  | c :: cs =>
    match c.bytes with
    | some bytes => takeChunks (crcRun running bytes) cs
    | none => (running, c :: cs)

/-- A binding takes in the data of a continuing read; the flag says that a completed check found a mismatch (R126). A COMPLETE readback
keeps its last offset and its word before the inversion (log entry 40). -/
def Binding.takeData (b : Binding) (tag : Fin 64) (base : Nat) (data : List Byte) : Binding × Bool :=
  let r := b.readback
  let taken := takeChunks r.running (r.chunks.map (fillChunk tag base data))
  if r.next = b.payloadEnd ∧ taken.2 = [] then
    ({ b with readback := { state := .complete, next := r.next, running := taken.1, chunks := [] } }, crcFinal taken.1 != b.check)
  else ({ b with readback := { r with running := taken.1, chunks := taken.2 } }, false)

/-- The answer of a segment part reaches a binding (R126, R127); the flag says that READBACK_FAIL is latched by a mismatch. -/
def SlotBinding.answered (sb : SlotBinding) (tag : Fin 64) (base : Nat) (status : LinkStatus) (data : List Byte) : SlotBinding × Bool :=
  if sb.binding.readback.state = .expecting ∧ sb.binding.readback.awaits tag then
    match status with
    | .fault => ({ sb with binding := { sb.binding with readback := { Readback.none with state := .broken } } }, false)
    | .ok => let d := sb.binding.takeData tag base data; ({ sb with binding := d.1 }, d.2)
  else (sb, false)

/-- The answer of a segment part reaches the tap's two bindings. -/
def Tap.segmentAnswered (x : Tap) (tag : Fin 64) (base : Nat) (status : LinkStatus) (data : List Byte) : Tap :=
  let cur := x.current.map (·.answered tag base status data)
  let prev := x.previous.map (·.answered tag base status data)
  let x1 := { x with current := cur.map (·.1), previous := prev.map (·.1) }
  if (cur.any (·.2)) || (prev.any (·.2)) || status == .fault then x1.raise .readbackFail else x1

end Sys2Proof.Machine
end

