-- ==== Sys2Proof/Machine/Commands.lean ====
section
/-! DEFINITION. In-band control (chapter 9): the commands of Table 15, the guard, results and the refusal report. -/

namespace Sys2Proof.Machine

/-! ### Tap commands (R163 to R166) -/

/-- An action on each tap of a mask, in ascending tap number. -/
def State.forTaps (s : State) (mask : BitVec 4) (f : State → Fin 4 → State) : State := (tapsOf mask).foldl f s

/-- TAP ON (R163). -/
def cmdTapOn (s : State) (e : ControlEntry) : State × CmdResult :=
  if e.taps = 0#4 then (s, .refusedRange)
  else
    let policy : StartPolicy := if e.argA.getLsbD 0 then .wait else .build
    let on (s : State) (t : Fin 4) : State :=
      let s1 := s.setSettings t { s.settings t with enabled := true, policy := policy }
      s1.tapOn policy t
    ((s.forTaps e.taps on).settle, .accepted)

/-- TAP OFF (R163). -/
def cmdTapOff (s : State) (e : ControlEntry) : State × CmdResult :=
  if e.taps = 0#4 then (s, .refusedRange)
  else
    let off (s : State) (t : Fin 4) : State := (s.setSettings t { s.settings t with enabled := false }).tapOff t
    ((s.forTaps e.taps off).settle, .accepted)

/-- SET TARGET (R164). -/
def cmdSetTarget (s : State) (e : ControlEntry) : State × CmdResult :=
  if e.taps = 0#4 then (s, .refusedRange)
  else
    let d := min e.argA.toNat s.dmax
    let set (s : State) (t : Fin 4) : State :=
      (s.setSettings t { s.settings t with de := d }).modifyTap t fun x => { x with dt := d, clampFlag := false }
    (s.forTaps e.taps set, if d < e.argA.toNat then .clamped else .accepted)

/-- SET PACER (R165). -/
def cmdSetPacer (s : State) (e : ControlEntry) : State × CmdResult :=
  if e.taps = 0#4 then (s, .refusedRange)
  else
    let p := clampTo 2 4095 e.argA.toNat
    let k := min (e.argB.toNat % 65536) (p / 2)
    let g := e.argB.toNat / 65536 % 256
    let set (s : State) (t : Fin 4) : State :=
      (s.setSettings t { s.settings t with p := p, k := k, g := g }).modifyTap t fun x => { x with acc := 0 }
    (s.forTaps e.taps set, if p ≠ e.argA.toNat ∨ k ≠ e.argB.toNat % 65536 then .clamped else .accepted)

/-- CLEAR COUNTERS (R166). -/
def cmdClearCounters (s : State) (e : ControlEntry) : State × CmdResult :=
  if e.taps = 0#4 then (s, .refusedRange)
  else
    (s.forTaps e.taps fun s t => s.modifyTap t fun x => { x with dropped := 0, repeats := 0, shed := 0, stepErrors := 0 }, .accepted)

/-! ### Settings (R167, R168) -/

/-- SET DUMP. -/
def cmdSetDump (s : State) (e : ControlEntry) : State × CmdResult :=
  let v := clampTo 1 1024 e.argA.toNat
  (s.modifyConfig fun c => { c with dumpLength := v }, if v ≠ e.argA.toNat then .clamped else .accepted)

/-- SET MASK TIMING. -/
def cmdSetMaskTiming (s : State) (e : ControlEntry) : State × CmdResult :=
  let lead := clampTo 1 64 e.argA.toNat
  let limit := clampTo 1 4096 e.argB.toNat
  (s.modifyConfig fun c => { c with maskLead := lead, maskLimit := limit },
    if lead ≠ e.argA.toNat ∨ limit ≠ e.argB.toNat then .clamped else .accepted)

/-- SET SNAP. -/
def cmdSetSnap (s : State) (e : ControlEntry) : State × CmdResult :=
  let v := min e.argA.toNat 255
  (s.modifyConfig fun c => { c with snapReach := v }, if v ≠ e.argA.toNat then .clamped else .accepted)

/-- SET PANEL. -/
def cmdSetPanel (s : State) (e : ControlEntry) : State × CmdResult :=
  (s.modifyConfig fun c =>
      { c with panelTaps := e.argB.setWidth 4, tallyTap := Fin.ofNat 4 (e.argB.toNat / 16) }, .accepted)

/-- SET POLICY. -/
def cmdSetPolicy (s : State) (e : ControlEntry) : State × CmdResult :=
  let threshold := e.argA.toNat / 16 % 8
  let stall := clampTo 1 255 e.argB.toNat
  (s.modifyConfig fun c =>
      { c with
        checkPolicy := if e.argA.getLsbD 0 then .repeatSource else .serve
        faultThreshold := max 1 threshold
        stallLimit := stall },
    if threshold = 0 ∨ stall ≠ e.argB.toNat then .clamped else .accepted)

/-! ### Quarantine commands (R148 to R150, R169) -/

/-- The lock state and the lock-at-start setting together. -/
def State.setLock (s : State) (l : LockState) (atStart : Bool) : State :=
  ({ s with quarantine := { s.quarantine with lock := l } }).modifyConfig fun c => { c with lockAtStart := atStart }

/-- QUARANTINE LOCK. -/
def cmdLock (s : State) : State × CmdResult :=
  match s.quarantine.lock with
  | .unlocked => (s.setLock .locked true, .accepted)
  | .locked => (s.setLock .locked true, .accepted)
  | .frozen => (s, .refusedState)

/-- QUARANTINE FREEZE. -/
def cmdFreeze (s : State) : State × CmdResult := (s.setLock .frozen true, .accepted)

/-- QUARANTINE UNLOCK, past the guard. -/
def cmdUnlock (s : State) : State × CmdResult :=
  match s.quarantine.lock with
  | .unlocked => (s.setLock .unlocked false, .accepted)
  | .locked => (s.setLock .unlocked false, .accepted)
  | .frozen => (s, .refusedState)

/-- QUARANTINE RELEASE, past the guard. -/
def cmdRelease (s : State) (e : ControlEntry) : State × CmdResult :=
  match s.quarantine.lock with
  | .unlocked =>
    let n := e.argA.toNat
    let released := s.quarantine.records.take n
    let s1 := { s with quarantine := { s.quarantine with records := s.quarantine.records.drop n } }
    ((released.foldl (fun s r => s.freeSeg r.phys) s1).settle, if s.quarantine.records.length < n then .clamped else .accepted)
  | .locked => (s, .refusedState)
  | .frozen => (s, .refusedState)

/-! ### Store and pool commands (R52, R56, R169, R170, R183) -/

/-- A store write starts: the whole record is fixed now (R183). -/
def State.startWrite (s : State) : State :=
  { s with store := { s.store with
      write := some ⟨buildRecord s.store.pendingGeometry s.store.config s.store.keptHard, 0⟩ } }

/-- The refusal a store write meets, if any (R169). -/
def State.writeRefused (s : State) : Option CmdResult :=
  if s.store.write.isSome then some .refusedBusy
  else if !s.startUp.straps.storeEn then some .refusedState
  else none

/-- SAVE CONFIG. -/
def cmdSaveConfig (s : State) : State × CmdResult :=
  match s.writeRefused with
  | some r => (s, r)
  | none => (s.startWrite, .accepted)

/-- The indexes of the segments in RETIRED, ascending, the first being `i` (R52). -/
def retiredFrom : Nat → List Segment → List Nat
  | _, [] => []
  | i, g :: gs => if g.state = .retired then i :: retiredFrom (i + 1) gs else retiredFrom (i + 1) gs

/-- COMMIT RETIRE, past the guard. -/
def cmdCommitRetire (s : State) : State × CmdResult :=
  match s.writeRefused with
  | some r => (s, r)
  | none =>
    let all := retiredFrom 0 s.pool.segs
    let s1 := { s with store := { s.store with keptHard := all.take Config.hardListMax } }
    (s1.startWrite, if Config.hardListMax < all.length then .clamped else .accepted)

/-- One item of a geometry, when its value is in range (Table 57). -/
def Geometry.setItem (g : Geometry) (item v : Nat) : Option Geometry :=
  match item with
  | 0 => if v ≤ 16383 then some { g with apertureBase := BitVec.ofNat 40 (v * 2 ^ 26) } else none
  | 1 => if v ≤ 16777215 then some { g with backingBase := BitVec.ofNat 40 (v * 2 ^ 16) } else none
  | 2 => if v ≤ 3 then some { g with sCode := Fin.ofNat 4 v } else none
  | 3 => if 64 ≤ v ∧ v ≤ 4096 then some { g with n := v } else none
  | 4 => if v ≤ 256 then some { g with q := v } else none
  | _ => none

/-- SET GEOMETRY. -/
def cmdSetGeometry (s : State) (e : ControlEntry) : State × CmdResult :=
  match s.store.pendingGeometry.setItem e.argA.toNat e.argB.toNat with
  | some g => ({ s with store := { s.store with pendingGeometry := g } }, .accepted)
  | none => (s, .refusedRange)

/-- PATTERN TEST (R56). -/
def cmdPatternTest (s : State) (e : ControlEntry) : State × CmdResult :=
  let first := e.argB.toNat
  let count := e.argA.toNat
  let n := s.pool.segs.length
  if s.pool.pattern.isSome then (s, .refusedBusy)
  else if n ≤ first ∨ count = 0 then (s, .refusedRange)
  else (s.takeTestable first (min (first + count) n), if n < first + count then .clamped else .accepted)

/-! ### Execution (R157 to R162) -/

/-- The guarded commands (R24, Table 15). -/
def guarded (code : Byte) : Bool := code == 0x12#8 || code == 0x13#8 || code == 0x19#8

/-- One command past the guard: its effect and its result. -/
def runCommand (s : State) (e : ControlEntry) : State × CmdResult :=
  match e.code.toNat with
  | 0x01 => cmdTapOn s e
  | 0x02 => cmdTapOff s e
  | 0x03 => cmdSetTarget s e
  | 0x04 => cmdSetPacer s e
  | 0x05 => s.mark .drop e.taps e.argA.toNat e.argB
  | 0x06 => s.mark .mask e.taps e.argA.toNat e.argB
  | 0x07 => s.cancelEdit e.argA.toNat
  | 0x08 => cmdSetDump s e
  | 0x09 => cmdSetMaskTiming s e
  | 0x0A => cmdSetSnap s e
  | 0x0B => cmdSetPanel s e
  | 0x0C => cmdSetPolicy s e
  | 0x0D => cmdClearCounters s e
  | 0x10 => cmdLock s
  | 0x11 => cmdFreeze s
  | 0x12 => cmdUnlock s
  | 0x13 => cmdRelease s e
  | 0x18 => (s, .accepted)
  | 0x19 => cmdCommitRetire s
  | 0x1A => cmdSaveConfig s
  | 0x1B => cmdSetGeometry s e
  | 0x1C => cmdPatternTest s e
  | _ => (s, .refusedCode)

/-- The guard step after a non-empty entry (Table 56). -/
def guardAfter (step : Nat) (e : ControlEntry) : Nat :=
  if e.code = 0x18#8 ∧ step < 4 ∧ e.argA.toNat = 0x5A01 + step then step + 1 else 0

/-- One tap takes a command's result: the count rises, and an empty report takes a result other than ACCEPTED (R159). -/
def Tap.takeResult (code : Byte) (seq : Word) (r : CmdResult) (x : Tap) : Tap :=
  { x with
    executed := bump Config.countMax x.executed
    report := if r = .accepted then x.report else x.report.or (some ⟨code, r, seq⟩) }

/-- Every tap takes a command's result, whatever its state. -/
def State.report (s : State) (code : Byte) (seq : Word) (r : CmdResult) : State :=
  { s with taps := s.taps.map (Tap.takeResult code seq r) }

/-- One control entry is executed with the carrying SEQ (R158 to R162); an empty one is skipped. -/
def State.executeEntry (seq : Word) (s : State) (e : ControlEntry) : State :=
  if e.code = 0#8 then s
  else
    let ran := if guarded e.code ∧ s.guardStep ≠ 4 then (s, CmdResult.refusedGuard) else runCommand s e
    { ran.1.report e.code seq ran.2 with guardStep := guardAfter s.guardStep e }

/-- The control entries of a commit, in entry order (R157). -/
def State.executeEntries (s : State) (seq : Word) (es : List ControlEntry) : State := es.foldl (State.executeEntry seq) s

end Sys2Proof.Machine
end

