-- ==== Sys2Proof/Machine/LinkOps.lean ====
section
/-! DEFINITION. The link interposer's shared operations (chapter 1): hold-off, the in-flight table, internal tags, planned and
outstanding M-side requests, and returning responses. -/

namespace Sys2Proof.Machine

/-! ### In-flight table (Table 5) -/

/-- The entry of a P-side tag. -/
def State.entry (s : State) (tag : Fin 64) : Option InFlight := s.link.inflight.find? fun f => f.req.tag == tag

/-- The entry of a tag whose request has been accepted in a class and has not arrived at its block. -/
def State.arriving (s : State) (tag : Fin 64) (cls : ReqClass) : Option InFlight :=
  (s.entry tag).filter fun f => f.phase == .arriving && f.cls == cls

/-- `f` applied to the entry of a tag. -/
def State.modifyFlight (s : State) (tag : Fin 64) (f : InFlight → InFlight) : State :=
  { s with link := { s.link with inflight := s.link.inflight.map fun x => if x.req.tag == tag then f x else x } }

/-- A tag leaves flight. -/
def State.dropFlight (s : State) (tag : Fin 64) : State :=
  { s with link := { s.link with inflight := s.link.inflight.filter fun x => x.req.tag != tag } }

/-- An accepted request in its class, in flight from now on; the table keeps the order of acceptance. -/
def State.addFlight (s : State) (f : InFlight) : State :=
  { s with link := { s.link with inflight := s.link.inflight ++ [f] } }

/-- The entry of a request just accepted. -/
def flight (r : LinkRequest) (cls : ReqClass) (phase : ReqPhase) : InFlight :=
  { req := r, cls := cls, phase := phase, reserved := [], parts := 0, faultSeen := false, targets := [], plan := none, received := [],
    reply := none, owed := false }

/-- Zero data of a READ's length, and no data for a WRITE. -/
def zeroData (r : LinkRequest) : List Byte :=
  match r.op with
  | .read => zeros r.length
  | .write => []

/-- The entry with its response composed (Table 5, READY). -/
def InFlight.answer (f : InFlight) (reply : Reply) : InFlight := { f with phase := .ready, reply := some reply }

/-- A response leaves on the P-side. -/
def State.putReply (s : State) (tag : Fin 64) (reply : Reply) : State :=
  { s with link := { s.link with lastReturned := some ⟨tag, reply⟩ } }

/-! ### Internal tags (R3, R15) -/

/-- The internal tags 64 to 127. -/
def internalTags : List (Fin 128) := (List.range 64).map fun i => Fin.ofNat 128 (64 + i)

/-- An internal tag is free: not reserved, no M-side request planned or outstanding under it, draining ones included. -/
def State.tagFree (s : State) (t : Fin 128) : Bool :=
  !(s.link.planned.any fun r => r.tag == t) && !(s.link.outstanding.any fun r => r.tag == t) &&
    !(s.link.inflight.any fun f => f.reserved.contains t)

/-- The free internal tags, lowest first (log entry 7). -/
def State.freeTags (s : State) : List (Fin 128) := internalTags.filter s.tagFree

/-! ### M-side requests -/

/-- The M-side tag of a forwarded request: the P-side tag (R3). -/
def forwardTag (tag : Fin 64) : Fin 128 := Fin.ofNat 128 tag.val

/-- A request joins those that wait for the M-side. -/
def State.plan (s : State) (r : MRequest) : State := { s with link := { s.link with planned := s.link.planned ++ [r] } }

/-- The outstanding M-side request under a tag (R3). -/
def State.outstandingUnder (s : State) (t : Fin 128) : Option MRequest := s.link.outstanding.find? fun r => r.tag == t

/-- The outstanding M-side request under a tag is answered. -/
def State.dropOutstanding (s : State) (t : Fin 128) : State :=
  { s with link := { s.link with outstanding := s.link.outstanding.filter fun r => r.tag != t } }

/-- The segment an M-side request counts on (R16). -/
def MUse.segment? : MUse → Option Nat
  | .pass => none
  | .captureWrite p => some p
  | .tapSegment _ _ p _ => some p
  | .maskPart _ p _ _ _ => some p
  | .reviewPart _ p _ => some p
  | .patternWrite p => some p
  | .patternRead p _ => some p

/-- A segment's outstanding count falls for a request that had one. -/
def State.lowerFor (s : State) (u : MUse) : State :=
  match u.segment? with
  | none => s
  | some p => s.lowerOutstanding p

/-- A forwarded request (tag 0 to 63) may be issued when no request accepted before it is still to be forwarded (R4, Note 2; log
entry 11). -/
def State.mayIssue (s : State) (r : MRequest) : Bool :=
  if r.tag.val < 64 then
    (s.link.inflight.takeWhile fun f => forwardTag f.req.tag != r.tag).all fun f =>
      !((f.cls == .pass || f.cls == .capture) &&
        (f.phase == .arriving || s.link.planned.any fun m => m.tag == forwardTag f.req.tag))
  else true

/-- A planned request is issued to the M-side. -/
def State.issue (s : State) (r : MRequest) : State :=
  { s with link :=
      { s.link with
        planned := s.link.planned.filter fun m => m.tag != r.tag
        outstanding := s.link.outstanding ++ [r] } }

/-! ### Hold-off (R4, Table 6) -/

/-- A FAULT response owed by a link reset has not been returned (R17). -/
def State.owes (s : State) : Bool := s.link.inflight.any (·.owed)

/-- The presented request is a READ of a tap or review window with fewer than five internal tags free. -/
def State.lacksTags (s : State) (r : LinkRequest) : Bool :=
  match s.link.geometry with
  | none => false
  | some g =>
    (g.classify r == .tap || g.classify r == .review) && decide (s.freeTags.length < Config.readTags)

/-- The P-side is held off for a presented request: one of the conditions of Table 6 holds. -/
def State.holdsOff (s : State) (r : LinkRequest) : Bool :=
  s.startUp.phase != .running || s.startUp.lrstAsserted || s.owes || s.link.mHoldOff || (s.entry r.tag).isSome || s.lacksTags r

/-! ### Reads that a plan serves (R12 to R16) -/

/-- The M-side READ of one part under a tag. -/
def partRequest (g : Geometry) (use : PartRead → MUse) (r : PartRead) (t : Fin 128) : MRequest :=
  { tag := t, op := .read, addr := g.segAddr r.phys r.base, length := r.length, data := [], use := use r, draining := false }

/-- A tap or review read has received its plan: its READs keep tags it reserved, the others become free, each segment's outstanding
count rises, and a plan without a part is answered at once (R13 to R16). -/
def State.servePlan (s : State) (tag : Fin 64) (g : Geometry) (plan : FillPlan) (use : PartRead → MUse) : State :=
  let reads := plan.reads
  let reserved := ((s.entry tag).map (·.reserved)).getD []
  let requests := List.zipWith (partRequest g use) reads reserved
  let s1 := s.modifyFlight tag fun f =>
    let f1 := { f with reserved := [], parts := reads.length, targets := plan.targets, plan := some plan }
    if reads.isEmpty then f1.answer ⟨.ok, plan.compose []⟩ else { f1 with phase := .waitingM }
  reads.foldl (fun s r => s.raiseOutstanding r.phys) (requests.foldl State.plan s1)

/-- The entry of a read takes the answer of one part (R14): the response is composed once every part has answered. -/
def InFlight.takePart (f : InFlight) (part : PartData) (status : LinkStatus) : InFlight :=
  let f1 := { f with
    parts := f.parts - 1
    faultSeen := f.faultSeen || status == .fault
    received := f.received ++ [part] }
  if f1.parts = 0 then
    match f1.plan with
    | none => f1
    | some plan =>
      if f1.faultSeen then f1.answer ⟨.fault, zeroData f1.req⟩ else f1.answer ⟨.ok, plan.compose f1.received⟩
  else f1

end Sys2Proof.Machine
end

