-- ==== Sys2Proof/Machine/CaptureOps.lean ====
section
/-! DEFINITION. The capture unit (chapter 2): making room, opening and filling a context, abandonment and commit. -/

namespace Sys2Proof.Machine

/-- `s` with the open contexts replaced. -/
def State.setContexts (s : State) (cs : List Context) : State := { s with capture := { s.capture with contexts := cs } }

/-- A context that is not DISCARD. -/
def Context.carries (c : Context) : Bool := c.state != .discard

/-- Gap causes are added to the trailing run of a context. -/
def Context.trail (run : List GapCause) (c : Context) : Context :=
  { c with body := c.body.map fun b => { b with trailingRun := b.trailingRun ++ run } }

/-- Gap causes go to the older open context that is not DISCARD, among those `older`, else to the end of the pending run (R28,
R31). `slot` names the context by its slot. -/
def State.carryRun (s : State) (older : List Context) (run : List GapCause) : State :=
  match (older.filter Context.carries).getLast? with
  | some o => s.setContexts (s.capture.contexts.map fun c => if c.slot = o.slot then c.trail run else c)
  | none => { s with capture := { s.capture with pendingRun := s.capture.pendingRun ++ run } }

/-- The run an abandoned context carries on (R28). -/
def ContextBody.abandonedRun (b : ContextBody) : List GapCause :=
  match b.header.kind with
  | .program => b.leadRun ++ [.lost] ++ b.trailingRun
  | .maskSource => b.leadRun ++ b.trailingRun
  | .controlOnly => b.trailingRun

/-- The context on a slot is displaced: a DISCARD context ends, any other is abandoned (R27, R28). -/
def State.displace (s : State) (slot : Nat) : State :=
  match s.capture.contexts.find? fun c => c.slot == slot with
  | none => s
  | some c =>
    let older := s.capture.contexts.takeWhile fun c => c.slot != slot
    let s1 := s.setContexts (s.capture.contexts.filter fun c => c.slot != slot)
    match c.body with
    | none => s1
    | some b => (((s1.raiseAll .abandoned).carryRun older b.abandonedRun).freeSeg b.phys).settle

/-- Room is made for a header write on slot `k` (R27). -/
def State.makeRoom (s : State) (k : Nat) : State :=
  let s1 := s.displace k
  match s1.capture.contexts with
  | c :: _ :: _ => s1.displace c.slot
  | _ => s1

/-- A DISCARD context opens on a slot. -/
def State.openDiscard (s : State) (k : Nat) : State :=
  s.setContexts (s.capture.contexts ++ [{ slot := k, state := .discard, body := none }])

/-! ### Forwarding and absorbing (R11, R16) -/

/-- A capture write is forwarded to offset `off` of segment `p`, under its own tag. -/
def State.forwardWrite (s : State) (g : Geometry) (f : InFlight) (p off : Nat) : State :=
  let s1 := s.modifyFlight f.req.tag fun f => { f with cls := .capture, phase := .waitingM, targets := [p] }
  (s1.plan
    { tag := forwardTag f.req.tag, op := .write, addr := g.segAddr p off, length := f.req.length, data := f.req.data,
      use := .captureWrite p, draining := false }).raiseOutstanding p

/-- A capture write is absorbed: answered OK, its data discarded. -/
def State.absorbWrite (s : State) (f : InFlight) : State :=
  s.modifyFlight f.req.tag fun f => { f with cls := .absorbed }.answer ⟨.ok, []⟩

/-! ### Commit (R36 to R41) -/

/-- The check result (R37). -/
def ContextBody.passes (b : ContextBody) : Bool :=
  b.coherence == .clean && !b.faultSeen && crcFinal b.running == b.header.check

/-- The program entry of a commit (R65). -/
def ContextBody.entry (b : ContextBody) : TimelineEntry :=
  { pi := 0#32, gap := none, seq := some b.header.seq, phys := some b.phys, cutOk := b.header.cutOk, checkPass := some b.passes,
    la := b.header.la, lv := b.header.lv, check := b.header.check, withheld := 0#4, origin := none }

/-- A PROGRAM segment joins the timeline and is presented (R39, steps 1 and 2). -/
def State.commitProgram (s : State) (b : ContextBody) : State :=
  let s1 := (s.modifySeg b.phys fun g => { g with state := .live }).append b.entry
  s1.present s1.liveEdge b.header.cutOk

/-- The segment of a context becomes the mask image, and LMASK its audio length (R55). -/
def State.setMaskImage (s : State) (b : ContextBody) : State :=
  let s1 := s.modifySeg b.phys fun g => { g with state := .maskImage }
  { s1 with pool := { s1.pool with maskImage := some b.phys, lmask := b.header.la } }

/-- A segment that may be absent is freed. -/
def State.freeOpt (s : State) (p : Option Nat) : State :=
  match p with
  | none => s
  | some p => s.freeSeg p

/-- A MASK_SOURCE segment becomes the mask image on PASS, the old image being freed, or is freed itself (R40, R55). -/
def State.commitMask (s : State) (b : ContextBody) : State :=
  if b.passes then ((s.setMaskImage b).freeOpt s.pool.maskImage).settle else (s.freeSeg b.phys).settle

/-- CAPTURE_CHECK_FAIL is latched at a FAIL of a PROGRAM or MASK_SOURCE (R37). -/
def State.latchCheck (s : State) (b : ContextBody) : State :=
  if b.header.kind = .controlOnly ∨ b.passes then s else s.raiseAll .captureCheckFail

/-- The pending run is appended, emptied as it is, and then the lead run (R38). -/
def State.appendLead (s : State) (b : ContextBody) : State :=
  ({ s with capture := { s.capture with pendingRun := [] } }).appendRun (s.capture.pendingRun ++ b.leadRun)

/-- What a commit does with its segment, by KIND (R39 to R41). -/
def State.commitSegment (s : State) (b : ContextBody) : State :=
  match b.header.kind with
  | .program => s.commitProgram b
  | .maskSource => s.commitMask b
  | .controlOnly => (s.freeSeg b.phys).settle

/-- The check result, the gap entries, the segment and the commands of a commit, in their order (R37 to R41). -/
def State.commitBody (s : State) (b : ContextBody) : State :=
  (((((s.latchCheck b).appendLead b).commitSegment b).executeEntries b.header.seq b.header.controls)).appendRun b.trailingRun

/-- The oldest context that is not DISCARD commits when it is COMPLETE_WAITING with no write outstanding (R36). -/
def State.commitNext (s : State) : Option State :=
  match s.capture.contexts.find? Context.carries with
  | none => none
  | some c =>
    match c.state, c.body with
    | .completeWaiting, some b =>
      if b.writesOut = 0 then
        some ((s.setContexts (s.capture.contexts.filter fun x => x.slot != c.slot)).commitBody b)
      else none
    | _, _ => none

/-- Contexts commit in open order while the oldest is ready (R36); at most two are open. -/
def State.commitReady (s : State) : State :=
  match s.commitNext with
  | none => s
  | some s1 => s1.commitNext.getD s1

/-! ### Opening a context (R29 to R31) -/

/-- Outcome of the sequence check (Table 18). -/
inductive SequenceCheck where
  | accepted (lead : List GapCause) (event : Option Event)
  | duplicate
  deriving DecidableEq, Repr

/-- The sequence check of a PROGRAM or MASK_SOURCE header (R30). -/
def checkSequence (expected : Option Word) (seq : Word) : SequenceCheck :=
  match expected with
  | none => .accepted [] none
  | some x =>
    let d := serialDiff seq x
    if d = 0 then .accepted [] none
    else if 1 ≤ d ∧ d ≤ Config.sequenceWindow then .accepted (List.replicate d.toNat .gap) (some .seqGap)
    else if -Config.sequenceWindow ≤ d ∧ d ≤ -1 then .duplicate
    else .accepted [.broken] (some .seqBreak)

/-- The completion test (R34). -/
def contextState (fill stop : Nat) : ContextState := if stop ≤ fill then .completeWaiting else .filling

/-- A header that passed the checks asks for a segment and opens its context, or is lost (R31). -/
def State.openContext (s : State) (g : Geometry) (f : InFlight) (k : Nat) (h : CaptureHeader) (lead : List GapCause) : State :=
  let got := s.allocate
  match got.2 with
  | some p =>
    let n := f.req.length
    let fill := max 64 n
    let body : ContextBody :=
      { phys := p, header := h, fill := fill, running := crcRun crcInit (slice f.req.data 0 64 (min n h.payloadEnd)),
        coherence := .clean, writesOut := 1, faultSeen := false, leadRun := lead, trailingRun := [] }
    (got.1.setContexts (got.1.capture.contexts ++
      [{ slot := k, state := contextState fill h.payloadEnd, body := some body }])).forwardWrite g f p 0
  | none =>
    let run :=
      match h.kind with
      | .program => lead ++ [.lost]
      | .maskSource => lead
      | .controlOnly => []
    ((((got.1.raiseAll .captureLost).carryRun got.1.capture.contexts run).openDiscard k).absorbWrite f)

/-- An accepted header's event and the expected sequence it leaves (R30). -/
def State.acceptSequence (s : State) (seq : Word) (event : Option Event) : State :=
  let s1 := { s with capture := { s.capture with expected := some (seq + 1#32) } }
  match event with
  | none => s1
  | some e => s1.raiseAll e

/-- The new header after room was made: bad, a duplicate, or accepted (R29, R30). -/
def State.readHeader (s : State) (g : Geometry) (f : InFlight) (k : Nat) : State :=
  match parseCaptureHeader g.segSize f.req.data with
  | none => ((s.raiseAll .headerBad).openDiscard k).absorbWrite f
  | some h =>
    if h.kind = .controlOnly then s.openContext g f k h []
    else
      match checkSequence s.capture.expected h.seq with
      | .duplicate => ((s.raiseAll .seqDup).openDiscard k).absorbWrite f
      | .accepted lead event => (s.acceptSequence h.seq event).openContext g f k h lead

/-- A header write at the capture unit: room, parse, sequence check, allocation; then what the displacement freed to commit (R27 to
R31, R36). -/
def State.headerWrite (s : State) (g : Geometry) (f : InFlight) (k : Nat) : State :=
  ((s.makeRoom k).readHeader g f k).commitReady

/-! ### Filling a context (R32 to R34) -/

/-- The first departure from CLEAN is kept. -/
def Coherence.depart (c loss : Coherence) : Coherence := if c = .clean then loss else c

/-- A payload write of `data` at offset `o` updates the fill (R32), and one more write is outstanding. -/
def ContextBody.fillWrite (b : ContextBody) (o : Nat) (data : List Byte) (n : Nat) : ContextBody :=
  let e := b.header.payloadEnd
  let b1 := { b with writesOut := b.writesOut + 1 }
  if e ≤ o then b1
  else if o = b.fill then
    { b1 with
      running := if b.coherence = .clean then crcRun b.running (slice data o o (min (o + n) e)) else b.running
      fill := o + n }
  else if o < b.fill then { b1 with coherence := b.coherence.depart .rewritten, fill := max b.fill (o + n) }
  else { b1 with coherence := b.coherence.depart .hole, fill := o + n }

/-- A context takes a payload write and completes when its fill reaches the payload end (R34). -/
def Context.takeWrite (o : Nat) (data : List Byte) (n : Nat) (c : Context) : Context :=
  match c.body with
  | none => c
  | some b =>
    let b1 := b.fillWrite o data n
    { c with
      state := if c.state = .filling then contextState b1.fill b.header.payloadEnd else c.state
      body := some b1 }

/-- A payload write at the capture unit (R32, R33). -/
def State.payloadWrite (s : State) (g : Geometry) (f : InFlight) (k off : Nat) : State :=
  match s.capture.contexts.find? fun c => c.slot == k with
  | none => (s.raiseAll .strayWrite).absorbWrite f
  | some c =>
    match c.body with
    | none => s.absorbWrite f
    | some b =>
      (s.setContexts (s.capture.contexts.map fun c =>
        if c.slot = k then c.takeWrite off f.req.data f.req.length else c)).forwardWrite g f b.phys off

/-! ### Answers to capture writes (R35) -/

/-- A context whose segment is `p` takes the answer of one of its writes. -/
def Context.takeAnswer (p : Nat) (status : LinkStatus) (c : Context) : Context :=
  { c with body := c.body.map fun b =>
      if b.phys = p then { b with writesOut := b.writesOut - 1, faultSeen := b.faultSeen || status == .fault } else b }

/-- The answer of a forwarded write at the capture unit and the pool. -/
def State.captureAnswer (s : State) (p : Nat) (status : LinkStatus) : State :=
  let s1 := s.setContexts (s.capture.contexts.map (Context.takeAnswer p status))
  let s2 := match status with | .fault => (s1.countFault p).settle | .ok => s1
  s2.commitReady

end Sys2Proof.Machine
end

