-- ==== Sys2Proof/WellFormed.lean ====
section
/-! DEFINITION. The commands that can be expressed at the part's pins: write data of the request's length (R2, Table 4), response
data of a length the link has (R2), a store read of 256 bytes (R181), and a PANEL_RELEASE of a line other than MASK, whose
release is a row of its own (R176). -/

namespace Sys2Proof

/-- A WRITE carries `length` bytes and a READ none (Table 4). -/
def LinkRequest.wf (r : LinkRequest) : Bool :=
  match r.op with
  | .read => r.data.isEmpty
  | .write => r.data.length == r.length

/-- Response data is absent or 1 to 16 units of 64 bytes (R2). -/
def LinkResponse.wf (r : LinkResponse) : Bool :=
  r.data.length % 64 == 0 && decide (r.data.length ≤ 1024)

/-- The store record has 256 bytes (R181). -/
def StoreReply.wf : StoreReply → Bool
  | .noAck => true
  | .stored => true
  | .holding bytes => bytes.length == Config.recordBytes

/-- The check of one command's operands. -/
def Instr.wf : Instr → Bool
  | .powerOnReset => true
  | .storeLoadStart _ => true
  | .storeLoadEnd reply => reply.wf
  | .tporExpiry => true
  | .linkReset => true
  | .linkResetEnd => true
  | .pRequestAccept r => r.wf
  | .headerWriteArrival _ => true
  | .payloadWriteArrival _ => true
  | .tapReadArrival _ => true
  | .reviewReadArrival _ => true
  | .mSideIssue _ => true
  | .mSideHoldOffChange _ => true
  | .passResponse r => r.wf
  | .captureWriteResponse r => r.wf
  | .tapSegmentPartResponse r => r.wf
  | .maskPartResponse r => r.wf
  | .reviewPartResponse r => r.wf
  | .patternResponse r => r.wf
  | .patternRequestIssue => true
  | .drainedResponse r => r.wf
  | .unknownTagResponse r => r.wf
  | .responseReturn _ => true
  | .panelLineChange _ _ => true
  | .panelInitialState _ => true
  | .dumpPress => true
  | .maskPress => true
  | .maskRelease => true
  | .enterPress => true
  | .exitPress => true
  | .panelRelease line => line != .mask
  | .buildBlinkToggle => true
  | .storePageComplete => true
  | .storeTimeout => true

end Sys2Proof
end

