-- ==== Sys2Proof/Machine/Link.lean ====
section
/-! DEFINITION. The meanings of the link commands: P_REQUEST_ACCEPT, M_SIDE_ISSUE, M_SIDE_HOLD_OFF_CHANGE, PASS_RESPONSE,
DRAINED_RESPONSE, UNKNOWN_TAG_RESPONSE and RESPONSE_RETURN. -/

namespace Sys2Proof.Machine

/-- The request the P-side waits with. -/
def State.setPresented (s : State) (r : Option LinkRequest) : State := { s with link := { s.link with presented := r } }

/-- A request is accepted and put in its class (R6 to R10, R15). -/
def State.accept (s : State) (g : Geometry) (r : LinkRequest) : State :=
  match g.classify r with
  | .illegal => (s.addFlight ((flight r .illegal .ready).answer ⟨.fault, zeroData r⟩)).raiseAll .misalign
  | .guarded => (s.addFlight ((flight r .guarded .ready).answer ⟨.ok, zeroData r⟩)).raiseAll .protect
  | .pass =>
    (s.addFlight (flight r .pass .waitingM)).plan
      { tag := forwardTag r.tag, op := r.op, addr := r.addr, length := r.length, data := r.data, use := .pass, draining := false }
  | .capture => s.addFlight (flight r .capture .arriving)
  | .absorbed => s.addFlight ((flight r .absorbed .ready).answer ⟨.ok, []⟩)
  | .zero => s.addFlight ((flight r .zero .ready).answer ⟨.ok, zeroData r⟩)
  | .tap => s.addFlight { flight r .tap .arriving with reserved := s.freeTags.take Config.readTags }
  | .review => s.addFlight { flight r .review .arriving with reserved := s.freeTags.take Config.readTags }

/-- The request in front is accepted, or waits while the P-side is held off (R4). -/
def State.meetRequest (s : State) (r : LinkRequest) : State :=
  match s.link.geometry with
  | none => s.setPresented (some r)
  | some g => if s.holdsOff r then s.setPresented (some r) else (s.setPresented none).accept g r

/-- P_REQUEST_ACCEPT (R4, R6). A request behind another that waits is not accepted. -/
def execPRequestAccept (r : LinkRequest) (s : State) : Result :=
  if r.wf then
    match s.link.presented with
    | none => .next (s.meetRequest r)
    | some r0 => if r0 = r then .next (s.meetRequest r) else .next s
  else .refused .illFormed

/-- M_SIDE_ISSUE (R4, R13): a planned request waits while the M-side holds off or an earlier forwarded one is not yet issued. -/
def execMSideIssue (tag : Fin 128) (s : State) : Result :=
  match s.link.planned.find? fun r => r.tag == tag with
  | none => .refused .noSuchRequest
  | some r => if s.link.mHoldOff || !s.mayIssue r then .next s else .next (s.issue r)

/-- M_SIDE_HOLD_OFF_CHANGE (R4). -/
def execMSideHoldOffChange (holding : Bool) (s : State) : Result :=
  .next { s with link := { s.link with mHoldOff := holding } }

/-- A READ's answer carries data of the request's length (R2). -/
def MRequest.fits (m : MRequest) (r : LinkResponse) : Bool :=
  match m.op with
  | .read => r.data.length == m.length
  | .write => true

/-- The data a response hands on: a READ's data, nothing of a WRITE (R2). -/
def MRequest.dataOf (m : MRequest) (r : LinkResponse) : List Byte :=
  match m.op with
  | .read => r.data
  | .write => []

/-- The answer of a forwarded request is returned under its P-side tag, which leaves flight (R8, R11). -/
def State.returnForwarded (s : State) (m : MRequest) (r : LinkResponse) : State :=
  let tag : Fin 64 := Fin.ofNat 64 m.tag.val
  ((s.dropOutstanding m.tag).putReply tag ⟨r.status, m.dataOf r⟩).dropFlight tag

/-- The outstanding request that a response answers, drained ones aside. -/
def State.answers (s : State) (r : LinkResponse) : Option MRequest :=
  (s.outstandingUnder r.tag).filter fun m => !m.draining && m.fits r

/-- Why a response finds no request of its kind: none is outstanding and it is discarded (R3), it does not have the request's length,
or the request is of another kind. -/
def State.unanswered (s : State) (r : LinkResponse) : Result :=
  match s.outstandingUnder r.tag with
  | none => .next s
  | some m => if m.fits r then .refused .otherRequest else .refused .illFormed

/-- PASS_RESPONSE (R8). -/
def execPassResponse (r : LinkResponse) (s : State) : Result :=
  match s.answers r with
  | none => s.unanswered r
  | some m =>
    match m.use with
    | .pass => .next (s.returnForwarded m r)
    | _ => .refused .otherRequest

/-- A P-side tag that was in flight only for a drained request leaves flight (R17). -/
def State.releaseDrained (s : State) (m : MRequest) : State :=
  { s with link := { s.link with inflight := s.link.inflight.filter fun f => !(f.phase == .draining && forwardTag f.req.tag == m.tag) } }

/-- DRAINED_RESPONSE (R17): dropped, the outstanding count falls and the tag becomes free. -/
def execDrainedResponse (r : LinkResponse) (s : State) : Result :=
  match s.outstandingUnder r.tag with
  | none => .next s
  | some m => if m.draining then .next (((s.dropOutstanding m.tag).lowerFor m.use).releaseDrained m) else .refused .otherRequest

/-- UNKNOWN_TAG_RESPONSE (R3): discarded. -/
def execUnknownTagResponse (r : LinkResponse) (s : State) : Result :=
  match s.outstandingUnder r.tag with
  | none => .next s
  | some _ => .refused .otherRequest

/-- A forwarded request of this P-side tag is still to be drained (R17). -/
def State.drains (s : State) (tag : Fin 64) : Bool :=
  (s.link.planned ++ s.link.outstanding).any fun m => m.tag == forwardTag tag

/-- A composed or owed response is returned (R2, R17): the tag leaves flight unless its forwarded request still drains. -/
def State.returnReply (s : State) (tag : Fin 64) (f : InFlight) (reply : Reply) : State :=
  let s1 := s.putReply tag reply
  if f.owed && s.drains tag then s1.modifyFlight tag fun f => { f with phase := .draining, reply := none, owed := false }
  else s1.dropFlight tag

/-- RESPONSE_RETURN (R2, R14, R17). A response owed by a link reset waits until LRSTn deasserts. -/
def execResponseReturn (tag : Fin 64) (s : State) : Result :=
  match s.entry tag with
  | none => .refused .noSuchRequest
  | some f =>
    match f.phase, f.reply with
    | .ready, some reply => if f.owed && s.startUp.lrstAsserted then .next s else .next (s.returnReply tag f reply)
    | _, _ => .refused .noSuchRequest

end Sys2Proof.Machine
end

