-- ==== Sys2Proof/Machine/Capture.lean ====
section
/-! DEFINITION. The meanings of the capture commands: HEADER_WRITE_ARRIVAL, PAYLOAD_WRITE_ARRIVAL and CAPTURE_WRITE_RESPONSE. -/

namespace Sys2Proof.Machine

/-- An accepted capture write on its way to the capture unit: the geometry, its entry, window slot and offset (R11). -/
def State.captureWrite (s : State) (tag : Fin 64) : Option (Geometry × InFlight × Nat × Nat) :=
  match s.link.geometry, s.arriving tag .capture with
  | some g, some f =>
    match windowOf (g.slotOf f.req.addr) with
    | .capture k => some (g, f, k, g.offsetOf f.req.addr)
    | _ => none
  | _, _ => none

/-- HEADER_WRITE_ARRIVAL (R27 to R31). -/
def execHeaderWriteArrival (tag : Fin 64) (s : State) : Result :=
  match s.captureWrite tag with
  | none => .refused .noSuchRequest
  | some (g, f, k, off) => if off = 0 then .next (s.headerWrite g f k).refreshTally else .refused .noSuchRequest

/-- PAYLOAD_WRITE_ARRIVAL (R32 to R34). -/
def execPayloadWriteArrival (tag : Fin 64) (s : State) : Result :=
  match s.captureWrite tag with
  | none => .refused .noSuchRequest
  | some (g, f, k, off) => if off = 0 then .refused .noSuchRequest else .next (s.payloadWrite g f k off)

/-- CAPTURE_WRITE_RESPONSE (R11, R35). -/
def execCaptureWriteResponse (r : LinkResponse) (s : State) : Result :=
  match s.answers r with
  | none => s.unanswered r
  | some m =>
    match m.use with
    | .captureWrite p => .next (((s.returnForwarded m r).lowerOutstanding p).captureAnswer p r.status).refreshTally
    | _ => .refused .otherRequest

end Sys2Proof.Machine
end

