-- ==== Sys2Proof/Machine/Panel.lean ====
section
/-! DEFINITION. The meanings of the panel and tally commands: PANEL_LINE_CHANGE, PANEL_INITIAL_STATE, the debounced presses and
releases, and BUILD_BLINK_TOGGLE. -/

namespace Sys2Proof.Machine

/-- A panel line. -/
def State.line (s : State) (l : PanelLine) : LineState :=
  match l with
  | .dump => s.panel.dumpLine
  | .mask => s.panel.maskLine
  | .enter => s.panel.enterLine
  | .exit => s.panel.exitLine

/-- `s` with a panel line replaced. -/
def State.setLine (s : State) (l : PanelLine) (x : LineState) : State :=
  { s with panel :=
      match l with
      | .dump => { s.panel with dumpLine := x }
      | .mask => { s.panel with maskLine := x }
      | .enter => { s.panel with enterLine := x }
      | .exit => { s.panel with exitLine := x } }

/-- Start-up's hold-off has ended (R176, R182). -/
def State.running (s : State) : Bool := s.startUp.phase == .running

/-- A change of debounced state can be taken: the line is at `level`, an interval runs and the debounced state is the other (R176). -/
def State.canTake (s : State) (l : PanelLine) (level : Bool) : Bool :=
  s.running && (s.line l).interval && (s.line l).raw == level && (s.line l).debounced == some (!level)

/-- The debounced state follows the line, and the interval has ended. -/
def State.takeLine (s : State) (l : PanelLine) : State :=
  s.setLine l { s.line l with debounced := some (s.line l).raw, interval := false }

/-- PANEL_LINE_CHANGE (R176): the interval begins or restarts, once debouncing has begun. -/
def execPanelLineChange (l : PanelLine) (pressed : Bool) (s : State) : Result :=
  if (s.line l).raw = pressed then .next s
  else .next (s.setLine l { s.line l with raw := pressed, interval := s.running })

/-- PANEL_INITIAL_STATE (R176): adopted without an event. -/
def execPanelInitialState (l : PanelLine) (s : State) : Result :=
  if s.running && (s.line l).interval && (s.line l).debounced == none then .next (s.takeLine l)
  else .refused .noDebouncedChange

/-- DUMP_PRESS (R86, R87, R98). -/
def execDumpPress (s : State) : Result :=
  if s.canTake .dump true then .next ((s.takeLine .dump).dump).refreshTally else .refused .noDebouncedChange

/-- MASK_PRESS (R91, R99). -/
def execMaskPress (s : State) : Result :=
  if s.canTake .mask true then .next ((s.takeLine .mask).openMask).refreshTally else .refused .noDebouncedChange

/-- MASK_RELEASE (R92). -/
def execMaskRelease (s : State) : Result :=
  if s.canTake .mask false then .next ((s.takeLine .mask).closeMask).refreshTally else .refused .noDebouncedChange

/-- Dt of each panel tap is set (R131). -/
def State.setPanelTargets (s : State) (dt : TapSettings → Nat) : State :=
  (tapsOf s.store.config.panelTaps).foldl (fun s t => s.modifyTap t fun x => { x with dt := dt (s.settings t) }) s

/-- ENTER_PRESS (R131). -/
def execEnterPress (s : State) : Result :=
  if s.canTake .enter true then .next ((s.takeLine .enter).setPanelTargets (·.de)).refreshTally
  else .refused .noDebouncedChange

/-- EXIT_PRESS (R131). -/
def execExitPress (s : State) : Result :=
  if s.canTake .exit true then .next ((s.takeLine .exit).setPanelTargets fun _ => 0).refreshTally
  else .refused .noDebouncedChange

/-- PANEL_RELEASE (R176): a release of DUMP, ENTER or EXIT is taken and has no effect. -/
def execPanelRelease (l : PanelLine) (s : State) : Result :=
  if l = .mask then .refused .illFormed
  else if s.canTake l false then .next (s.takeLine l)
  else .refused .noDebouncedChange

/-- BUILD_BLINK_TOGGLE (R179): the free-running timer. -/
def execBuildBlinkToggle (s : State) : Result := .next { s with panel := { s.panel with blink := !s.panel.blink } }

end Sys2Proof.Machine
end

