-- ==== Sys2Proof/Machine/Pattern.lean ====
section
/-! DEFINITION. The meanings of the pattern-test commands: PATTERN_REQUEST_ISSUE and PATTERN_RESPONSE. -/

namespace Sys2Proof.Machine

/-- An M-side request of the pattern test. -/
def MUse.ofPattern : MUse → Bool
  | .patternWrite _ => true
  | .patternRead _ _ => true
  | .pass => false
  | .captureWrite _ => false
  | .tapSegment _ _ _ _ => false
  | .maskPart _ _ _ _ _ => false
  | .reviewPart _ _ _ => false

/-- The internal tags the pattern test holds (R15): those of its requests not yet answered, an aborted run's draining ones among them. -/
def State.patternHolds (s : State) : Nat := (s.link.outstanding.filter fun m => m.use.ofPattern).length

/-- The M-side accepts, the pattern test holds fewer than eight tags and at least six are free (R4, R15). -/
def State.patternMayIssue (s : State) : Bool :=
  !s.link.mHoldOff && decide (s.patternHolds < Config.patternTags) && decide (Config.patternFreeTags ≤ s.freeTags.length)

/-- The next request of the run under a tag: its writes in ascending offset, then, once each has answered OK, its reads (R57). -/
def PatternRun.nextRequest (r : PatternRun) (g : Geometry) (t : Fin 128) : Option (MRequest × PatternRun) :=
  let blocks := g.segSize / 1024
  if r.failed then none
  else if r.writesIssued < blocks then
    some ({ tag := t, op := .write, addr := g.segAddr r.cursor (1024 * r.writesIssued), length := 1024,
            data := patternBytes r.cursor (1024 * r.writesIssued) 1024, use := .patternWrite r.cursor, draining := false },
      { r with writesIssued := r.writesIssued + 1 })
  else if r.writesAnswered = r.writesIssued ∧ r.readsIssued < blocks then
    some ({ tag := t, op := .read, addr := g.segAddr r.cursor (1024 * r.readsIssued), length := 1024, data := [],
            use := .patternRead r.cursor (1024 * r.readsIssued), draining := false },
      { r with readsIssued := r.readsIssued + 1 })
  else none

/-- The run issues a request. -/
def State.issuePattern (s : State) (m : MRequest) (r : PatternRun) : State :=
  ((({ s with link := { s.link with outstanding := s.link.outstanding ++ [m] } }).setPattern (some r))).raiseOutstanding r.cursor

/-- PATTERN_REQUEST_ISSUE (R57). The run waits while it may not issue or has nothing to issue. -/
def execPatternRequestIssue (s : State) : Result :=
  match s.pool.pattern, s.link.geometry with
  | some r, some g =>
    if s.patternMayIssue then
      match (s.freeTags.head?).bind (r.nextRequest g) with
      | some (m, r1) => .next (s.issuePattern m r1)
      | none => .next s
    else .next s
  | _, _ => .refused .noPatternRun

/-- The run takes an answer (R57): a FAULT, or read data that differs, is a failure. -/
def PatternRun.takeAnswer (r : PatternRun) (m : MRequest) (a : LinkResponse) : PatternRun :=
  match m.use with
  | .patternRead p base =>
    { r with
      readsAnswered := r.readsAnswered + 1
      failed := r.failed || a.status == .fault || a.data != patternBytes p base m.length }
  | _ => { r with writesAnswered := r.writesAnswered + 1, failed := r.failed || a.status == .fault }

/-- Every request issued to the segment has answered, and either it failed or all its reads are in (R58). -/
def PatternRun.decided (r : PatternRun) (g : Geometry) : Bool :=
  r.writesAnswered == r.writesIssued && r.readsAnswered == r.readsIssued &&
    (r.failed || r.readsAnswered == g.segSize / 1024)

/-- The verdict on the segment, after which the cursor moves on (R58). -/
def State.verdict (s : State) (r : PatternRun) : State :=
  if r.failed then
    let s1 := (s.modifySeg r.cursor fun g => { g with faults := s.store.config.faultThreshold }).retire r.cursor
    ({ s1 with pool := { s1.pool with patternFailures := bump Config.countMax s1.pool.patternFailures } }).takeTestable
      (r.cursor + 1) r.stop
  else (s.freeSeg r.cursor).takeTestable (r.cursor + 1) r.stop

/-- The pattern run after an answer. At a verdict the cursor moves on first, and the floor is tested after (log entry 21). -/
def State.patternAnswer (s : State) (g : Geometry) (r : PatternRun) (m : MRequest) (a : LinkResponse) : State :=
  let r1 := r.takeAnswer m a
  let s1 := ((s.dropOutstanding m.tag).lowerFor m.use).setPattern (some r1)
  if r1.decided g then (s1.verdict r1).settle else s1

/-- PATTERN_RESPONSE (R57, R58). -/
def execPatternResponse (a : LinkResponse) (s : State) : Result :=
  match s.answers a with
  | none => s.unanswered a
  | some m =>
    if m.use.ofPattern then
      match s.pool.pattern, s.link.geometry with
      | some r, some g => .next (s.patternAnswer g r m a).refreshTally
      | _, _ => .refused .noPatternRun
    else .refused .otherRequest

end Sys2Proof.Machine
end

