-- ==== Sys2Proof/Machine/Reads.lean ====
section
/-! DEFINITION. The meanings of the read commands: TAP_READ_ARRIVAL, REVIEW_READ_ARRIVAL, TAP_SEGMENT_PART_RESPONSE,
MASK_PART_RESPONSE and REVIEW_PART_RESPONSE. -/

namespace Sys2Proof.Machine

/-! ### Arrivals -/

/-- Kind of a tap read (Table 42). -/
inductive TapRead where
  | off
  | current (sb : SlotBinding)
  | previous (sb : SlotBinding)
  | advance
  | outOfStep
  deriving DecidableEq, Repr

/-- The classification of a tap read, the first row of Table 42 that matches (R109). -/
def Tap.classifyRead (x : Tap) (j off : Nat) : TapRead :=
  if x.active = false then .off
  else
    match x.current.filter (fun b => b.slot == j), x.previous.filter (fun b => b.slot == j) with
    | some b, _ => .current b
    | none, some b => .previous b
    | none, none => if off = 0 then .advance else .outOfStep

/-- What the M-side READs of a tap read are for. -/
def tapUse (tag : Fin 64) (t : Fin 4) (r : PartRead) : MUse :=
  if r.isMask then .maskPart tag r.phys r.base r.lo r.hi else .tapSegment tag t r.phys r.base

/-- A slot's binding after a read of it arrived (R125). -/
def SlotBinding.readArrives (sb : SlotBinding) (tag : Fin 64) (off len : Nat) : SlotBinding :=
  { sb with binding := sb.binding.readArrives tag off len }

/-- A current read, or the read that made the current binding: the plan, and the readback progress. -/
def State.serveCurrent (s : State) (g : Geometry) (r : LinkRequest) (t : Fin 4) (off : Nat) : State :=
  match (s.tap t).current with
  | none => s
  | some sb =>
    (s.modifyTap t fun x => { x with current := some (sb.readArrives r.tag off r.length) }).servePlan r.tag g
      (s.bindingPlan sb.binding off r.length) (tapUse r.tag t)

/-- A previous read. -/
def State.servePrevious (s : State) (g : Geometry) (r : LinkRequest) (t : Fin 4) (off : Nat) : State :=
  match (s.tap t).previous with
  | none => s
  | some sb =>
    (s.modifyTap t fun x => { x with previous := some (sb.readArrives r.tag off r.length) }).servePlan r.tag g
      (s.bindingPlan sb.binding off r.length) (tapUse r.tag t)

/-- An out-of-step read in the tap context (R111). -/
def Tap.stepError (x : Tap) : Tap := { x.countStepError.raise .outOfStep with stepErrorOwed := true }

/-- A read of slot `j` of tap window `t` at its engine (R109 to R112). -/
def State.tapRead (s : State) (g : Geometry) (r : LinkRequest) (t : Fin 4) (j off : Nat) : State :=
  match (s.tap t).classifyRead j off with
  | .off => s.servePlan r.tag g (headerPlan (s.offHeader t) off r.length) (tapUse r.tag t)
  | .current _ => s.serveCurrent g r t off
  | .previous _ => s.servePrevious g r t off
  | .advance => (s.advance t j).serveCurrent g r t off
  | .outOfStep => (s.modifyTap t Tap.stepError).servePlan r.tag g (zeroPlan off r.length) (tapUse r.tag t)

/-- TAP_READ_ARRIVAL (R109). -/
def execTapReadArrival (tag : Fin 64) (s : State) : Result :=
  match s.link.geometry, s.arriving tag .tap with
  | some g, some f =>
    match windowOf (g.slotOf f.req.addr) with
    | .tap t j => .next (s.tapRead g f.req t j (g.offsetOf f.req.addr)).refreshTally
    | _ => .refused .noSuchRequest
  | _, _ => .refused .noSuchRequest

/-- The plan of a review read of slot `j` (R152). -/
def State.reviewPlan (s : State) (j off len : Nat) : FillPlan :=
  match s.quarantine.records[j]? with
  | some rec => recordPlan rec j off len
  | none => headerPlan (emptyReviewHeader j) off len

/-- REVIEW_READ_ARRIVAL (R152). -/
def execReviewReadArrival (tag : Fin 64) (s : State) : Result :=
  match s.link.geometry, s.arriving tag .review with
  | some g, some f =>
    match windowOf (g.slotOf f.req.addr) with
    | .review j =>
      .next (s.servePlan tag g (s.reviewPlan j (g.offsetOf f.req.addr) f.req.length) fun r => .reviewPart tag r.phys r.base)
    | _ => .refused .noSuchRequest
  | _, _ => .refused .noSuchRequest

/-! ### Answers of parts -/

/-- A part's answer: the request is no longer outstanding, its segment's count falls, and the read takes the data (R14, R16). -/
def State.takePart (s : State) (m : MRequest) (r : LinkResponse) (tag : Fin 64) (seg : Nat) (part : PartData) : State :=
  ((s.dropOutstanding m.tag).lowerOutstanding seg).modifyFlight tag fun f => f.takePart part r.status

/-- A FAULT counts a fault on the segment, after which the floor is tested (R49, R71). -/
def State.faultOn (s : State) (seg : Nat) (status : LinkStatus) : State :=
  match status with
  | .fault => (s.countFault seg).settle
  | .ok => s

/-- TAP_SEGMENT_PART_RESPONSE (R14, R126, R127). -/
def execTapSegmentPartResponse (r : LinkResponse) (s : State) : Result :=
  match s.answers r with
  | none => s.unanswered r
  | some m =>
    match m.use with
    | .tapSegment tag t seg base =>
      let s1 := s.takePart m r tag seg ⟨false, base, r.data⟩
      .next ((s1.modifyTap t fun x => x.segmentAnswered tag base r.status r.data).faultOn seg r.status).refreshTally
    | _ => .refused .otherRequest

/-- MASK_PART_RESPONSE (R14, R49, R123). -/
def execMaskPartResponse (r : LinkResponse) (s : State) : Result :=
  match s.answers r with
  | none => s.unanswered r
  | some m =>
    match m.use with
    | .maskPart tag seg base lo hi =>
      .next ((s.takePart m r tag seg ⟨true, lo, slice r.data base lo hi⟩).faultOn seg r.status).refreshTally
    | _ => .refused .otherRequest

/-- REVIEW_PART_RESPONSE (R49, R153). -/
def execReviewPartResponse (r : LinkResponse) (s : State) : Result :=
  match s.answers r with
  | none => s.unanswered r
  | some m =>
    match m.use with
    | .reviewPart tag seg base => .next ((s.takePart m r tag seg ⟨false, base, r.data⟩).faultOn seg r.status).refreshTally
    | _ => .refused .otherRequest

end Sys2Proof.Machine
end

