-- ==== Sys2Proof/Machine/ResetOps.lean ====
section
/-! DEFINITION. Power-on, the end of the store load (R181, R182) and the link-reset rules of every block. -/

namespace Sys2Proof.Machine

/-! ### Power-on (R18) -/

/-- Every block in its power-on state. The levels at the input pins, what the serial memory holds and the queue are not the part's to
reset (log entry 28). -/
def State.powerOn (s : State) : State :=
  { State.reset with
    startUp := { State.reset.startUp with lrstAsserted := s.startUp.lrstAsserted }
    link := .powerOn s.link.mHoldOff
    panel := .powerOn s.panel.dumpLine.raw s.panel.maskLine.raw s.panel.enterLine.raw s.panel.exitLine.raw
    store := .powerOn s.store.contents
    pending := s.pending }

/-! ### The end of the load (R182) -/

/-- The segment records of N segments with a hard retire list (R60). -/
def poolOf (n : Nat) (hard : List Nat) : List Segment :=
  (List.range n).map fun p => Segment.powerOn (if hard.contains p then .retired else .free)

/-- The store controller, the interposer and the pool take the configuration (R182, steps 1 and 2). -/
def State.takeConfig (s : State) (c : WorkingConfig) (hard : List Nat) : State :=
  { s with
    store := { s.store with config := c, pendingGeometry := c.geometry, keptHard := hard }
    link := { s.link with geometry := some c.geometry }
    pool := { s.pool with segs := poolOf c.geometry.n hard } }

/-- A tap takes its De, brought to Dmax, and Dt equal to it (R182, step 3). -/
def State.takeDelay (s : State) (t : Fin 4) : State :=
  let de := min (s.settings t).de s.dmax
  (s.setSettings t { s.settings t with de := de }).modifyTap t fun x => { x with dt := de }

/-- A tap marked enabled at start is turned on with its stored policy (R129; R182, step 4). -/
def State.startTap (s : State) (t : Fin 4) : State :=
  if (s.settings t).enabled then s.tapOn (s.settings t).policy t else s

/-- Debouncing begins (R176). -/
def LineState.begin (l : LineState) : LineState := { l with interval := true }

/-- The debouncing of the four lines begins. -/
def PanelTally.begin (p : PanelTally) : PanelTally :=
  { p with dumpLine := p.dumpLine.begin, maskLine := p.maskLine.begin, enterLine := p.enterLine.begin, exitLine := p.exitLine.begin }

/-- The blocks take the configuration in the order of R182; an invalid record (`invalid`) then latches STORE_INVALID. -/
def State.finishLoad (s : State) (c : WorkingConfig) (hard : List Nat) (invalid : Bool) : State :=
  let s1 := tapIds.foldl State.startTap (tapIds.foldl State.takeDelay (s.takeConfig c hard))
  let s2 :=
    { s1 with
      quarantine := { s1.quarantine with lock := if c.lockAtStart then .locked else .unlocked }
      startUp := { s1.startUp with phase := .running }
      panel := s1.panel.begin
      store := { s1.store with invalid := invalid } }
  (s2.raiseUnless (!invalid) .storeInvalid).refreshTally

/-- The load ends with what the record supplies, or with the defaults when it is invalid (R181). -/
def State.endLoad (s : State) (record : Option (WorkingConfig × List Nat)) : State :=
  match record with
  | some (c, hard) => s.finishLoad c hard false
  | none => s.finishLoad (defaultConfig s.startUp.straps.apsel) [] true

/-! ### Link reset -/

/-- An accepted request whose response has not been returned is owed a FAULT response (R17). -/
def InFlight.owe (f : InFlight) : InFlight :=
  if f.phase = .draining then f
  else { f with phase := .ready, reserved := [], parts := 0, reply := some ⟨.fault, zeroData f.req⟩, owed := true }

/-- A planned part, as against a forwarded request. -/
def MRequest.internal (r : MRequest) : Bool := decide (64 ≤ r.tag.val)

/-- The interposer at a link reset (R17): responses owed, planned parts cancelled, all else draining. -/
def State.resetLink (s : State) : State :=
  let s1 := (s.link.planned.filter MRequest.internal).foldl (fun s r => s.lowerFor r.use) s
  { s1 with link :=
      { s1.link with
        inflight := s1.link.inflight.map InFlight.owe
        planned := (s1.link.planned.filter fun r => !r.internal).map fun r => { r with draining := true }
        outstanding := s1.link.outstanding.map fun r => { r with draining := true } } }

/-- The capture unit at a link reset (R42). -/
def State.resetCapture (s : State) : State :=
  { s.capture.contexts.foldl (fun s c => match c.body with | some b => s.freeSeg b.phys | none => s) s with capture := .powerOn }

/-- The pattern run at a link reset (R58). -/
def State.resetPattern (s : State) : State :=
  match s.pool.pattern with
  | none => s
  | some r => (s.freeSeg r.cursor).setPattern none

/-- Every pin is dropped (R128); the handover decides over HELD segments in place of R48. -/
def State.dropPins (s : State) : State :=
  { s with pool := { s.pool with segs := s.pool.segs.map fun g => { g with pins := 0 } } }

/-- A record put in its place by ascending PI. -/
def insertByPi (r : SegmentRecord) : List SegmentRecord → List SegmentRecord
  | [] => [r]
  | x :: xs => if serialLt r.pi x.pi then r :: x :: xs else x :: insertByPi r xs

/-- The departure records of the HELD segments, by ascending PI. -/
def State.heldRecords (s : State) : List SegmentRecord :=
  (s.pool.segs.filterMap fun g => if g.state = .held then g.departure else none).foldr insertByPi []

/-- The records of the LIVE segments, by ascending PI. -/
def State.liveRecords (s : State) : List SegmentRecord :=
  s.timeline.entries.filterMap fun e => e.phys.map e.record

/-- The DROP entries that cover a PI. -/
def coveringDrops (es : List Edit) (x : Word) : List Edit := es.filter fun e => e.kind == .drop && e.covers x

/-- The record a segment carries at the handover (R78). Of covering DROP entries with one lowest start, the lower id gives the origin (log
entry 37). -/
def resetRecord (es : List Edit) (r : SegmentRecord) : SegmentRecord :=
  match coveringDrops es r.pi with
  | [] => r
  | d :: ds =>
    { r with
      withheld := (d :: ds).foldl (fun m e => m ||| e.taps) r.withheld
      origin := if r.withheld = 0#4 then some (ds.foldl Edit.leading d).origin else r.origin }

/-- One segment is handed over (R77): to the quarantine when withheld or inside a DROP, else freed. -/
def State.handOverAtReset (s : State) (r : SegmentRecord) : State :=
  let r1 := resetRecord s.edits r
  if r1.withheld = 0#4 then s.freeSeg r.phys else s.offer true r1

/-- The timeline's handover, after which it is empty (R77). -/
def State.resetTimeline (s : State) : State :=
  { (s.heldRecords ++ s.liveRecords).foldl State.handOverAtReset s with timeline := .empty }

/-- A tap at a link reset (R128, R142): Dt and the clamp flag are kept. -/
def Tap.reset (x : Tap) : Tap := { Tap.powerOn with bound := x.bound, dt := x.dt, clampFlag := x.clampFlag }

/-- Every block applies its link-reset rule (R17, R42, R59, R77, R102, R128, R155, R171). The latches are emptied last, so that the
reset itself latches nothing (R77, R173). -/
def State.linkReset (s : State) : State :=
  let s1 := s.resetLink.resetCapture.resetPattern.dropPins.resetTimeline
  ({ s1 with edits := [], taps := s1.taps.map Tap.reset, guardStep := 0 }).refreshTally

end Sys2Proof.Machine
end

