-- ==== Sys2Proof/Machine/StartUp.lean ====
section
/-! DEFINITION. The meanings of the reset and start-up commands: POWER_ON_RESET, STORE_LOAD_START, STORE_LOAD_END, TPOR_EXPIRY,
LINK_RESET and LINK_RESET_END. -/

namespace Sys2Proof.Machine

/-- POWER_ON_RESET (R18). -/
def execPowerOnReset (s : State) : Result := .next s.powerOn

/-- STORE_LOAD_START (R181, R185): PORn deasserts; with STORE_EN 0 the load ends at once with the defaults. -/
def execStoreLoadStart (straps : Straps) (s : State) : Result :=
  match s.startUp.phase with
  | .resetHeld =>
    let s1 := { s with startUp := { s.startUp with phase := .loading, straps := straps } }
    if straps.storeEn then .next s1 else .next (s1.finishLoad (defaultConfig straps.apsel) [] false)
  | .loading => .refused .wrongPhase
  | .running => .refused .wrongPhase

/-- The store controller once the store has answered the read: other contents than the Q4's own writes left are noted. -/
def State.storeAnswers (s : State) (reply : StoreReply) : State :=
  match reply with
  | .holding bytes => { s with store := { s.store with contents := bytes } }
  | .noAck => s
  | .stored => s

/-- STORE_LOAD_END (R181, R182). -/
def execStoreLoadEnd (reply : StoreReply) (s : State) : Result :=
  match s.startUp.phase with
  | .loading =>
    if reply.wf then
      let s1 := s.storeAnswers reply
      .next (s1.endLoad (if reply = .noAck then none else parseRecord s1.store.contents))
    else .refused .illFormed
  | .resetHeld => .refused .wrongPhase
  | .running => .refused .wrongPhase

/-- TPOR_EXPIRY (R181): a read not finished is abandoned; once the load has ended, tPOR has nothing to end (log entry 23). -/
def execTporExpiry (s : State) : Result :=
  match s.startUp.phase with
  | .loading => .next (s.endLoad none)
  | .running => .next s
  | .resetHeld => .refused .wrongPhase

/-- LINK_RESET (R17): LRSTn asserts. -/
def execLinkReset (s : State) : Result :=
  if s.startUp.lrstAsserted then .refused .wrongPhase
  else .next ({ s with startUp := { s.startUp with lrstAsserted := true } }).linkReset

/-- LINK_RESET_END (R17): LRSTn deasserts; the owed responses may return from now on. -/
def execLinkResetEnd (s : State) : Result :=
  if s.startUp.lrstAsserted then .next { s with startUp := { s.startUp with lrstAsserted := false } }
  else .refused .wrongPhase

end Sys2Proof.Machine
end

