-- ==== Sys2Proof/Machine/StorePages.lean ====
section
/-! DEFINITION. The meanings of the store page commands: STORE_PAGE_COMPLETE and STORE_TIMEOUT. -/

namespace Sys2Proof.Machine

/-- The serial memory after page `i` of a record has been written (R183). -/
def writePage (contents record : List Byte) (i : Nat) : List Byte :=
  let a := Config.pageBytes * i
  contents.take a ++ (record.drop a).take Config.pageBytes ++ contents.drop (a + Config.pageBytes)

/-- STORE_PAGE_COMPLETE (R183): the next page is sent, or the write ends with STORE_DONE. -/
def execStorePageComplete (s : State) : Result :=
  match s.store.write with
  | none => .refused .noStoreWrite
  | some w =>
    let contents := writePage s.store.contents w.record w.page
    if w.page + 1 < Config.pageCount then
      .next { s with store := { s.store with contents := contents, write := some { w with page := w.page + 1 } } }
    else .next (({ s with store := { s.store with contents := contents, write := none } }).raiseAll .storeDone)

/-- STORE_TIMEOUT (R184): the write is abandoned; the kept hard list is not restored. -/
def execStoreTimeout (s : State) : Result :=
  match s.store.write with
  | none => .refused .noStoreWrite
  | some _ => .next (({ s with store := { s.store with write := none } }).raiseAll .storeTimeout)

end Sys2Proof.Machine
end

