-- ==== Sys2Proof/Machine/Dispatch.lean ====
section
/-! DEFINITION. One arm per command, each a direct call of its meaning. -/

namespace Sys2Proof.Machine

def exec (i : Instr) (s : State) : Host.Outcome State Fault Refusal :=
  match i with
  | .powerOnReset => Sys2Proof.Machine.execPowerOnReset s
  | .storeLoadStart straps => Sys2Proof.Machine.execStoreLoadStart straps s
  | .storeLoadEnd reply => Sys2Proof.Machine.execStoreLoadEnd reply s
  | .tporExpiry => Sys2Proof.Machine.execTporExpiry s
  | .linkReset => Sys2Proof.Machine.execLinkReset s
  | .linkResetEnd => Sys2Proof.Machine.execLinkResetEnd s
  | .pRequestAccept r => Sys2Proof.Machine.execPRequestAccept r s
  | .headerWriteArrival tag => Sys2Proof.Machine.execHeaderWriteArrival tag s
  | .payloadWriteArrival tag => Sys2Proof.Machine.execPayloadWriteArrival tag s
  | .tapReadArrival tag => Sys2Proof.Machine.execTapReadArrival tag s
  | .reviewReadArrival tag => Sys2Proof.Machine.execReviewReadArrival tag s
  | .mSideIssue tag => Sys2Proof.Machine.execMSideIssue tag s
  | .mSideHoldOffChange holding => Sys2Proof.Machine.execMSideHoldOffChange holding s
  | .passResponse r => Sys2Proof.Machine.execPassResponse r s
  | .captureWriteResponse r => Sys2Proof.Machine.execCaptureWriteResponse r s
  | .tapSegmentPartResponse r => Sys2Proof.Machine.execTapSegmentPartResponse r s
  | .maskPartResponse r => Sys2Proof.Machine.execMaskPartResponse r s
  | .reviewPartResponse r => Sys2Proof.Machine.execReviewPartResponse r s
  | .patternResponse r => Sys2Proof.Machine.execPatternResponse r s
  | .patternRequestIssue => Sys2Proof.Machine.execPatternRequestIssue s
  | .drainedResponse r => Sys2Proof.Machine.execDrainedResponse r s
  | .unknownTagResponse r => Sys2Proof.Machine.execUnknownTagResponse r s
  | .responseReturn tag => Sys2Proof.Machine.execResponseReturn tag s
  | .panelLineChange line pressed => Sys2Proof.Machine.execPanelLineChange line pressed s
  | .panelInitialState line => Sys2Proof.Machine.execPanelInitialState line s
  | .dumpPress => Sys2Proof.Machine.execDumpPress s
  | .maskPress => Sys2Proof.Machine.execMaskPress s
  | .maskRelease => Sys2Proof.Machine.execMaskRelease s
  | .enterPress => Sys2Proof.Machine.execEnterPress s
  | .exitPress => Sys2Proof.Machine.execExitPress s
  | .panelRelease line => Sys2Proof.Machine.execPanelRelease line s
  | .buildBlinkToggle => Sys2Proof.Machine.execBuildBlinkToggle s
  | .storePageComplete => Sys2Proof.Machine.execStorePageComplete s
  | .storeTimeout => Sys2Proof.Machine.execStoreTimeout s

end Sys2Proof.Machine
end

