-- ==== Sys2Proof/Safety.lean ====
section
/-! DEFINITION. What holds in every state a run meets: the standing laws that the manual states of the whole part, as predicates of one
state; and the words in which the claims speak of requests, windows, the sequence check and the load. -/

namespace Sys2Proof.Machine

/-- Before the store load has ended every block but the store controller and the panel stands as power-on reset left it: nothing is
accepted, outstanding, captured, held, quarantined or bound (R5, R18, R43, R60, R79, R103, R129, R156, R171, R184). -/
def State.quietBeforeLoad (s : State) : Prop :=
  s.startUp.phase ≠ .running →
    s.link.geometry = none ∧ s.link.inflight = [] ∧ s.link.planned = [] ∧ s.link.outstanding = [] ∧ s.capture = .powerOn ∧
      s.pool = .powerOn ∧ s.timeline = .empty ∧ s.edits = [] ∧ s.taps = ⟨.powerOn, .powerOn, .powerOn, .powerOn⟩ ∧
      s.quarantine.records = [] ∧ s.guardStep = 0 ∧ s.store.write = none

/-- Each tally line is lit exactly while its condition holds (R177, R179). -/
def State.talliesCurrent (s : State) : Prop := s.panel.tallies = s.tallyConditions

/-- The quarantine holds at most Q records (R144). -/
def State.quarantineFits (s : State) : Prop := s.quarantine.records.length ≤ s.quarCap

/-- No P-side request is passed to the M-side at an address inside the backing region (R9). -/
def State.backingGuarded (s : State) : Prop :=
  ∀ g, s.link.geometry = some g → ∀ m ∈ s.link.planned ++ s.link.outstanding, m.use = .pass →
    rangesMeet m.addr.toNat m.length g.backingBase.toNat g.backingSpan = false

/-- The timeline holds at most 4096 entries, and their program indexes follow one another up to the live edge (R62). -/
def State.timelineOrdered (s : State) : Prop :=
  s.timeline.entries.length ≤ 4096 ∧
    ∀ i e, s.timeline.entries[i]? = some e → e.pi = s.timeline.nextPi - BitVec.ofNat 32 (s.timeline.entries.length - i)

/-- A program entry names its segment and its check result; a gap entry names no segment, has no check result, no payload and no cut
point; and the program entries and the evicted ones carry a SEQ (R61, R65, R66, R75). -/
def State.entriesFit (s : State) : Prop :=
  ∀ e ∈ s.timeline.entries,
    (e.gap = none → e.phys ≠ none ∧ e.checkPass ≠ none) ∧
      (e.gap ≠ none → e.phys = none ∧ e.checkPass = none ∧ e.cutOk = false ∧ e.la = 0 ∧ e.lv = 0 ∧ e.check = 0#32) ∧
      (e.seq ≠ none ↔ e.gap = none ∨ e.gap = some .evicted)

/-- The edit list holds at most 32 entries, each under an id of its own from 0 to 31 and each for at least one tap (R81). -/
def State.editsNamed (s : State) : Prop :=
  s.edits.length ≤ 32 ∧ (s.edits.map (·.id)).Nodup ∧ ∀ e ∈ s.edits, e.id < 32 ∧ e.taps ≠ 0#4

/-- Two edit entries of one kind with a common tap overlap or abut (R83); a range without an end reaches every PI above its start. -/
def Edit.touches (a b : Edit) : Prop :=
  a.kind = b.kind ∧ (∃ i : Fin 4, hasTap a.taps i = true ∧ hasTap b.taps i = true) ∧
    (∀ z, b.stop = some z → serialLe a.start (z + 1#32) = true) ∧ ∀ z, a.stop = some z → serialLe b.start (z + 1#32) = true

/-- No two entries of one kind with a common tap overlap or abut (R83), at most one entry is OPEN (R91), and exactly the CLOSED entries
have an end, the OPEN ones being masks and the TRAILING ones drops (Table 32). -/
def State.editsApart (s : State) : Prop :=
  (s.edits.Pairwise fun a b => ¬ a.touches b) ∧ (s.edits.filter fun e => e.state == .opened).length ≤ 1 ∧
    ∀ e ∈ s.edits, (e.state = .closed ↔ e.stop ≠ none) ∧ (e.state = .opened → e.kind = .mask) ∧ (e.state = .trailing → e.kind = .drop)

/-- Every active tap's bound lies from one below the head to the live edge (R72). -/
def State.boundsFit (s : State) : Prop :=
  ∀ i, (s.tap i).active = true → (s.liveEdge - (s.tap i).bound).toNat ≤ s.timeline.entries.length

/-- The segments that the part of the machine to which a segment state belongs names (Table 21): the open contexts, the timeline, the
quarantine, the mask image pointer and the pattern run. -/
def State.named (s : State) (k : SegState) : List Nat :=
  match k with
  | .filling => s.capture.contexts.filterMap fun c => c.body.map (·.phys)
  | .live => s.timeline.entries.filterMap (·.phys)
  | .quarantined => s.quarantine.records.map (·.phys)
  | .maskImage => s.pool.maskImage.toList
  | .testing => (s.pool.pattern.map (·.cursor)).toList
  | .free => []
  | .held => []
  | .retired => []

/-- Every segment has the one owner its state says (R44, R48, R55, R64, R144): what an owner names is in the owner's state and named once,
a segment in an owner's state is named, and exactly the HELD ones, which are pinned, carry a departure record, their own. -/
def State.segmentsOwned (s : State) : Prop :=
  (∀ k, (s.named k).Nodup ∧ ∀ p ∈ s.named k, ∃ g, s.seg? p = some g ∧ g.state = k) ∧
    ∀ p g, s.seg? p = some g →
      (g.state = .free ∨ g.state = .retired ∨ g.state = .held ∨ p ∈ s.named g.state) ∧ (g.state = .held ↔ g.departure ≠ none) ∧
        (g.state = .held → 0 < g.pins) ∧ ∀ r, g.departure = some r → r.phys = p

/-- At most two contexts are open, on different slots, and exactly the DISCARD ones have no segment (R25, R26). -/
def State.contextsFit (s : State) : Prop :=
  s.capture.contexts.length ≤ 2 ∧ (s.capture.contexts.map (·.slot)).Nodup ∧
    ∀ c ∈ s.capture.contexts, c.body = none ↔ c.state = .discard

/-- No P-side tag is in flight twice (R3, R4). -/
def State.tagsDistinct (s : State) : Prop := (s.link.inflight.map (·.req.tag)).Nodup

/-- No tap's target or entry delay exceeds Dmax (R130). -/
def State.delaysBounded (s : State) : Prop := ∀ t, (s.tap t).dt ≤ s.dmax ∧ (s.settings t).de ≤ s.dmax

/-- A tap's pacer settings are in their ranges, and its accumulator does not exceed the period (R132). -/
def State.pacersInRange (s : State) : Prop :=
  ∀ t, 2 ≤ (s.settings t).p ∧ (s.settings t).p ≤ 4095 ∧ (s.settings t).k ≤ (s.settings t).p / 2 ∧ (s.tap t).acc ≤ (s.settings t).p

/-- The counts of one tap are within their maxima (R133, R174, R175). -/
def Tap.countsInRange (x : Tap) : Prop :=
  x.dropped ≤ 65535 ∧ x.repeats ≤ 65535 ∧ x.shed ≤ 65535 ∧ x.stepErrors ≤ 65535 ∧ x.sinceLast ≤ 255 ∧ x.underrunRun ≤ 255 ∧
    x.executed ≤ 255

/-- Every count of the part is within its maximum, a segment's fault count and an edit entry's extension count among them, the fault
threshold is at most 7 and the guard step 0 to 4 (R49, R81, R161, R168, R174, R175). -/
def State.countsInRange (s : State) : Prop :=
  s.guardStep ≤ 4 ∧ s.pool.patternFailures ≤ 255 ∧ (∀ t, (s.tap t).countsInRange) ∧ s.store.config.faultThreshold ≤ 7 ∧
    (∀ g ∈ s.pool.segs, g.faults ≤ 7) ∧ ∀ e ∈ s.edits, e.extension ≤ 255

/-! ### Requests and regions (R4, R6) -/

/-- The request's range holds byte address `a`. -/
def requestHas (r : LinkRequest) (a : Nat) : Prop := r.addr.toNat ≤ a ∧ a < r.addr.toNat + r.length

/-- A byte address lies in the aperture. -/
def Geometry.inAperture (g : Geometry) (a : Nat) : Prop := g.apertureBase.toNat ≤ a ∧ a < g.apertureBase.toNat + 296 * g.segSize

/-- A byte address lies in the backing region. -/
def Geometry.inBacking (g : Geometry) (a : Nat) : Prop := g.backingBase.toNat ≤ a ∧ a < g.backingBase.toNat + g.n * g.segSize

/-- A request is legal (Table 4, Note 1): an address that is a multiple of 64, and first and last byte in one aligned 1024-byte block. -/
def isLegal (r : LinkRequest) : Prop := r.addr.toNat % 64 = 0 ∧ r.addr.toNat / 1024 = (r.addr.toNat + r.length - 1) / 1024

/-- The request begins in aperture slot `n` and touches no byte of the backing region. -/
def Geometry.inSlot (g : Geometry) (r : LinkRequest) (n : Nat) : Prop :=
  isLegal r ∧ n < 296 ∧ g.apertureBase.toNat + n * g.segSize ≤ r.addr.toNat ∧
    r.addr.toNat < g.apertureBase.toNat + (n + 1) * g.segSize ∧ ∀ a, requestHas r a → ¬ g.inBacking a

/-- The request can be expressed, no other one waits, and none of the first four conditions of Table 6 holds for it. -/
def State.admits (s : State) (r : LinkRequest) : Prop :=
  r.wf = true ∧ (s.link.presented = none ∨ s.link.presented = some r) ∧ s.startUp.phase = .running ∧
    s.startUp.lrstAsserted = false ∧ s.link.mHoldOff = false ∧
    ∀ f ∈ s.link.inflight, f.owed = false ∧ f.req.tag ≠ r.tag

/-- A read of offset `o` of slot `j` of tap window `i` stands accepted under `tag` and has not arrived; `f` is its entry. -/
def State.tapReadWaits (s : State) (tag : Fin 64) (g : Geometry) (f : InFlight) (i : Fin 4) (j o : Nat) : Prop :=
  s.link.geometry = some g ∧ s.arriving tag .tap = some f ∧ windowOf (g.slotOf f.req.addr) = .tap i j ∧ g.offsetOf f.req.addr = o

/-! ### The sequence check (Table 18) -/

/-- A header is accepted with the lead run `lead`, the event `event` and the expected sequence `after`. -/
def acceptsAs (expected : Option Word) (h : CaptureHeader) (lead : List GapCause) (event : Option Event) (after : Option Word) : Prop :=
  (h.kind = .controlOnly ∧ lead = [] ∧ event = none ∧ after = expected) ∨
  (h.kind ≠ .controlOnly ∧ after = some (h.seq + 1#32) ∧
    ((expected = none ∧ lead = [] ∧ event = none) ∨
      ∃ x, expected = some x ∧
        ((h.seq = x ∧ lead = [] ∧ event = none) ∨
          (1 ≤ serialDiff h.seq x ∧ serialDiff h.seq x ≤ 64 ∧ lead = List.replicate (serialDiff h.seq x).toNat .gap ∧
            event = some .seqGap) ∨
          ((serialDiff h.seq x < -64 ∨ 64 < serialDiff h.seq x) ∧ lead = [.broken] ∧ event = some .seqBreak))))

/-- Every tap's latch takes an event that may be absent. -/
def PerTap.raised (v : PerTap Tap) (event : Option Event) : PerTap Tap :=
  match event with
  | none => v
  | some e => v.map (·.raise e)

/-- No context is ready to commit, and a header write on slot `k` displaces none. -/
def State.roomFor (s : State) (k : Nat) : Prop :=
  s.capture.contexts.length ≤ 1 ∧ ∀ c ∈ s.capture.contexts, c.slot ≠ k ∧
    (c.state = .completeWaiting → ∀ b, c.body = some b → 0 < b.writesOut)

/-! ### Reads and positions of a tap (R16, R68, R105, R114 to R122) -/

/-- `plan` names for the bytes `o` to `o + len - 1` of the binding `b` the sources of Table 45 (R122, R123). -/
def State.planNames (s : State) (b : Binding) (plan : FillPlan) (o len : Nat) : Prop :=
  ∀ n, o ≤ n → n < o + len → plan.source n =
    (if n < 64 then .header n
     else
       match b.phys with
       | none => .zero
       | some p =>
         if b.masked = true ∧ n < 64 + b.la then
           match s.pool.maskImage with
           | some m => if s.pool.lmask = 0 then .zero else .mask m (64 + (n - 64) % s.pool.lmask)
           | none => .zero
         else if n < 64 + b.la + b.lv then .segment p n
         else .zero)

/-- The tap read `f` of tap `i` has taken the plan: its READs wait under the tags it kept, the other tags are free, and a plan without a
READ is answered at once (R13, R14, R15). -/
def State.readPlanned (s t : State) (tag : Fin 64) (g : Geometry) (i : Fin 4) (f : InFlight) (plan : FillPlan) : Prop :=
  t.link.planned = s.link.planned ++ List.zipWith (partRequest g (tapUse tag i)) plan.reads f.reserved ∧
    t.link.outstanding = s.link.outstanding ∧
    ∃ f', t.entry tag = some f' ∧ f'.plan = some plan ∧ f'.reserved = [] ∧ f'.parts = plan.reads.length ∧
      (plan.reads = [] → f'.phase = .ready ∧ f'.reply = some ⟨.ok, plan.compose []⟩) ∧ (plan.reads ≠ [] → f'.phase = .waitingM)

/-- The M-side READs a plan needs on segment `p` (R16). -/
def FillPlan.readsOn (plan : FillPlan) (p : Nat) : Nat := (plan.reads.filter fun r => r.phys == p).length

/-- `b` serves the repeat source of tap `x` with the flags `flags`, and MASKED when that was served masked, or FILL without one
(R115 to R117, Table 44). -/
def Tap.repeatsAs (x : Tap) (flags : ServedFlags) (b : Binding) : Prop :=
  match x.repeatSource with
  | some r =>
    b.kind = .repeated ∧ b.flags = { flags with masked := r.masked } ∧ b.srcPi = some r.pi ∧ b.srcSeq = some r.seq ∧
      b.phys = some r.phys ∧ b.masked = r.masked ∧ b.la = r.la ∧ b.lv = r.lv ∧ b.check = r.check ∧ b.readback.state = .none
  | none =>
    b.kind = .fill ∧ b.flags = flags ∧ b.srcPi = none ∧ b.srcSeq = none ∧ b.phys = none ∧ b.masked = false ∧ b.la = 0 ∧ b.lv = 0 ∧
      b.check = 0#32 ∧ b.readback.state = .none

/-- `b` is the normal binding of entry `y` for tap `i` (Table 44), made by a read of `len` bytes, and `u` the tap with it: the flags with
ADJUST and with SPLICE and ROUGH (R118), the repeat source (R119), REPEATS (R117) and the readback check, which this read begins (R125). -/
def State.bindsAs (s : State) (i : Fin 4) (y : TimelineEntry) (adjust splice : Bool) (len : Nat) (u : Tap) (b : Binding) : Prop :=
  let x := s.tap i
  let masked := s.edits.any fun d => d.kind == .mask && hasTap d.taps i && d.covers y.pi
  let flags : ServedFlags :=
    { ServedFlags.none with adjust := adjust, splice := splice, rough := splice && !y.cutOk, outOfStep := x.stepErrorOwed }
  let repeated (flags : ServedFlags) : Prop :=
    x.repeatsAs flags b ∧ u.repeatSource = x.repeatSource ∧ u.repeats = min (x.repeats + 1) 65535
  let refused := y.checkPass = some false ∧ s.store.config.checkPolicy = .repeatSource
  let eligible := masked = false ∧ y.checkPass = some true ∧ 0 < y.la + y.lv
  u.bound = y.pi ∧ u.spliceOwed = false ∧
    (y.gap ≠ none → y.phys = none → repeated { flags with gap := true }) ∧
    ∀ p, y.gap = none → y.phys = some p →
      (refused → repeated { flags with checkFail := true }) ∧
      (¬ refused →
        b =
          { op := x.op + 1#32, kind := .program,
            flags := { flags with checkFail := y.checkPass == some false, masked := masked },
            srcPi := some y.pi, srcSeq := y.seq, phys := some p, masked := masked, la := y.la, lv := y.lv, check := y.check,
            header := b.header, readback := b.readback } ∧
        u.repeatSource =
          some { phys := p, pi := y.pi, seq := y.seq.getD 0#32, la := y.la, lv := y.lv, check := y.check, masked := masked } ∧
        u.repeats = x.repeats ∧
        (eligible →
          b.readback.state = .expecting ∧ b.readback.next = max 64 (min len (64 + y.la + y.lv)) ∧
            b.readback.running = 0xFFFFFFFF#32) ∧
        (¬ eligible → b.readback.state = .none))

/-- The entry `e` once tap `i` has passed over the entries `passed` as dropped for it: the first mark gives the origin (R68). -/
def State.markedBy (s : State) (i : Fin 4) (passed : List TimelineEntry) (e : TimelineEntry) : TimelineEntry :=
  if e ∈ passed then
    { e with
      withheld := e.withheld ||| 1#4 <<< i.val
      origin := if e.withheld = 0#4 then (s.dropFor i e.pi).map (·.origin) else e.origin }
  else e

/-- The references to segment `p` that an advance to the binding `b`, after which the tap is `u`, takes (R47, R119, R121): the binding's
and, at a PROGRAM position, the new repeat source's. -/
def Tap.pinsTaken (u : Tap) (b : Binding) (p : Nat) : Nat :=
  (if b.phys = some p then 1 else 0) + if b.kind = .program ∧ u.repeatSource.map (·.phys) = some p then 1 else 0

/-- The references to segment `p` that an advance of tap `x` to `b` drops (R47, R119): the previous binding's and, at a PROGRAM position, the old
repeat source's. -/
def Tap.pinsDropped (x : Tap) (b : Binding) (p : Nat) : Nat :=
  (if x.previous.bind (·.binding.phys) = some p then 1 else 0) +
    if b.kind = .program ∧ x.repeatSource.map (·.phys) = some p then 1 else 0

/-- An advance of tap `i` from `s` to `t`, to the binding `b`, marked the entries `passed`, counting those not marked before, moved the
pins, and then tested the floor (R47, R68, R71, R114). -/
def State.passes (s t : State) (i : Fin 4) (b : Binding) (passed : List TimelineEntry) : Prop :=
  ((s.tap i).dropped ≤ 65535 →
    (t.tap i).dropped =
      min ((s.tap i).dropped + (passed.filter fun e => !hasTap e.withheld i).length) 65535) ∧
    (s.timelineOrdered → ∃ u : State,
      u.timeline = { s.timeline with entries := s.timeline.entries.map (s.markedBy i passed) } ∧ u.edits = s.edits ∧
        (∀ k, (u.tap k).state = (t.tap k).state ∧ (u.tap k).bound = (t.tap k).bound) ∧
        ((∀ g ∈ s.pool.segs, g.state ≠ .held) →
          u.quarantine = s.quarantine ∧ u.store = s.store ∧
            ∀ p, u.seg? p =
              (s.seg? p).map fun g => { g with pins := g.pins + (t.tap i).pinsTaken b p - (s.tap i).pinsDropped b p }) ∧
        t.timeline = u.settle.timeline ∧ t.edits = u.settle.edits ∧ t.quarantine = u.settle.quarantine)

/-! ### Edit ranges (R81 to R101) -/

/-- `f` is the panel floor (R86): the lowest bound over the active panel taps, or live edge - Dmax without one, but not below one below
the head; on an empty timeline the live edge. -/
def State.panelFloorIs (s : State) (f : Word) : Prop :=
  let panel (i : Fin 4) : Prop := hasTap s.store.config.panelTaps i = true ∧ (s.tap i).active = true
  (s.timeline.entries = [] → f = s.liveEdge) ∧
    ∀ e rest, s.timeline.entries = e :: rest → ∃ low,
      ((∃ i, panel i ∧ low = (s.tap i).bound ∧ ∀ j, panel j → (s.tap j).bound = low ∨
            (serialLt low (s.tap j).bound = true ∧ serialLt (s.tap j).bound low = false)) ∨
          ((∀ i, ¬ panel i) ∧ low = s.liveEdge - BitVec.ofNat 32 s.dmax)) ∧
        f = if serialLt low (e.pi - 1#32) then e.pi - 1#32 else low

/-- `n` is the lowest id that is free beside the entries `es` (R84). -/
def freeIdIs (es : List Edit) (n : Nat) : Prop := n < 32 ∧ (∀ x ∈ es, x.id ≠ n) ∧ ∀ j, j < n → ∃ x ∈ es, x.id = j

/-- The entry that two parts of one kind merge into, but for its id and origin, which are `a`'s here (R83). -/
def Edit.merged (a b : Edit) : Edit :=
  let trailing := a.state = .trailing ∨ b.state = .trailing
  let closed := a.state = .closed ∧ b.state = .closed
  let ends := serialMaxOpt a.stop b.stop
  { id := a.id
    kind := a.kind
    state := if trailing then .trailing else if closed then .closed else .opened
    start := serialMin a.start b.start
    stop := if closed then ends else none
    reach := if closed then none else serialMaxOpt ends (serialMaxOpt a.reach b.reach)
    limitBase := if trailing ∨ closed then none else a.limitBase.or b.limitBase
    taps := a.taps ||| b.taps
    origin := a.origin
    rough := a.rough || b.rough
    extension :=
      max (if a.state = .trailing then a.extension else 0) (if b.state = .trailing then b.extension else 0)
    cutPending := decide (closed ∧ ((a.cutPending = true ∧ a.stop = ends) ∨ (b.cutPending = true ∧ b.stop = ends))) }

/-- `after` is the list without spent entries in which the entry `m`, made of the existing part `w` and the new range, stands beside
`others`: `w` gives id and origin unless the new range alone starts lowest (R83, R101). -/
def State.mergesTo (s : State) (new w m : Edit) (others after : List Edit) : Prop :=
  ∀ n, (if serialLe w.start new.start then n = w.id else freeIdIs others n) →
    ∀ x, x ∈ after ↔
      (x = { m with id := n, origin := if serialLe w.start new.start then w.origin else new.origin } ∨ x ∈ others) ∧
        s.spent x = false

/-- `after` is what the list becomes when it takes a new range that meets no entry or one (R83, R84, R101). -/
def State.takesRange (s : State) (new : Edit) (after : List Edit) : Prop :=
  ((∀ x ∈ s.edits, ¬ new.touches x) → s.edits.length < 32 → ∀ n, freeIdIs s.edits n →
    ∀ x, x ∈ after ↔ (x = { new with id := n } ∨ x ∈ s.edits) ∧ s.spent x = false) ∧
  ∀ pre w post, s.edits = pre ++ w :: post → new.touches w →
    (∀ x ∈ pre ++ post, ¬ new.touches x ∧ ¬ (new.merged w).touches x) → s.mergesTo new w (new.merged w) (pre ++ post) after

/-- `w` is the newest entry of its kind: no other starts as high, or one that does has a lower id (R98). -/
def State.newestIs (s : State) (w : Edit) : Prop :=
  ∀ x ∈ s.edits, x.kind = w.kind → x = w ∨ (serialLt x.start w.start = true ∧ serialLt w.start x.start = false) ∨
    (x.start = w.start ∧ x.id < w.id)

/-- `after` is what the list becomes when the entry `w`, in the form `w'`, is widened with a new range and then meets no other entry
(R98, R99). -/
def State.widensTo (s : State) (new w w' : Edit) (after : List Edit) : Prop :=
  ∀ pre post, s.edits = pre ++ w :: post → (∀ x ∈ pre ++ post, x.id ≠ w.id ∧ ¬ (w'.merged new).touches x) →
    s.mergesTo new w' (w'.merged new) (pre ++ post) after

/-- The EDIT_LATE bit of a tap for a new range: set when the tap is active, in the range's mask and bound at or above its start (R85). -/
def State.lateBit (s : State) (new : Edit) (i : Fin 4) : Word :=
  if (s.tap i).active = true ∧ hasTap new.taps i = true ∧ serialLe new.start (s.tap i).bound = true then 0x4#32 else 0#32

/-- The taps with further bits in their latches. -/
def State.latching (s : State) (bits : Fin 4 → Word) : PerTap Tap :=
  let one (i : Fin 4) : Tap := { s.tap i with latch := (s.tap i).latch ||| bits i }
  ⟨one 0, one 1, one 2, one 3⟩

/-- The start SEQ `q` and the count `n` of a mark map to start PI `p` and count `m`; `clipped` says that the range was clipped at the
head SEQ (Table 36). -/
def State.markMaps (s : State) (q : Word) (n : Nat) (p : Word) (m : Nat) (clipped : Bool) : Prop :=
  (∃ pre x post, s.timeline.entries = pre ++ x :: post ∧ x.seq = some q ∧ (∀ y ∈ post, y.seq ≠ some q) ∧ p = x.pi ∧ m = n ∧
    clipped = false) ∨
  ((∀ y ∈ s.timeline.entries, y.seq ≠ some q) ∧
    ∃ pre live post head lseq hseq pre' post', s.timeline.entries = pre ++ live :: post ∧ (∀ y ∈ post, y.seq = none) ∧
      live.seq = some lseq ∧ s.timeline.entries = pre' ++ head :: post' ∧ (∀ y ∈ pre', y.seq = none) ∧ head.seq = some hseq ∧
      ((1 ≤ serialDiff q lseq ∧ serialDiff q lseq ≤ 1024 ∧ p = live.pi + (q - lseq) ∧ m = n ∧ clipped = false) ∨
        (¬ (1 ≤ serialDiff q lseq ∧ serialDiff q lseq ≤ 1024) ∧ 1 ≤ serialDiff hseq q ∧ serialDiff hseq q < n ∧ p = head.pi ∧
          m = n - (serialDiff hseq q).toNat ∧ clipped = true)))

/-- The CLOSED range of a mark over `p` to `z`, before a drop settles. -/
def markBase (kind : EditKind) (taps : BitVec 4) (p z : Word) : Edit :=
  { id := 0, kind := kind, state := .closed, start := p, stop := some z, reach := none, limitBase := none, taps := taps,
    origin := .inband, rough := false, extension := 0, cutPending := false }

/-- `new` is the range of a MARK DROP over `p` to `z`, settled against the PROGRAM entries above `z` (R96): with snap reach 0 CLOSED with
its cut check made or pending; else closed at the first cut point short of the snap reach, closed ROUGH at the snap reach, or TRAILING. -/
def State.settledDropIs (s : State) (taps : BitVec 4) (p z : Word) (new : Edit) : Prop :=
  let base := markBase .drop taps p z
  let snap := s.store.config.snapReach
  let ahead := (s.above z).filter fun e => e.gap.isNone
  (snap = 0 ∧ ∃ x ∈ s.timeline.entries, x.pi = z + 1#32 ∧ new = { base with rough := !x.cutOk }) ∨
  (snap = 0 ∧ (∀ x ∈ s.timeline.entries, x.pi ≠ z + 1#32) ∧ new = { base with cutPending := true }) ∨
  (∃ pre x post, ahead = pre ++ x :: post ∧ (∀ y ∈ pre, y.cutOk = false) ∧ pre.length < snap ∧ x.cutOk = true ∧
    new = { base with stop := some (x.pi - 1#32), extension := pre.length }) ∨
  (∃ pre x post, ahead = pre ++ x :: post ∧ (∀ y ∈ pre, y.cutOk = false) ∧ x.cutOk = false ∧ pre.length + 1 = snap ∧
    new = { base with stop := some x.pi, rough := true, extension := snap }) ∨
  ((∀ y ∈ ahead, y.cutOk = false) ∧ ahead.length < snap ∧
    new = { base with
      state := .trailing
      stop := none
      reach := some ((ahead.getLast?.map (·.pi)).getD z)
      extension := ahead.length })

/-! ### Results of control entries (R158 to R161) -/

/-- Every tap has counted the entry `e` and taken its result `r` under the carrying SEQ `q`, and the guard step is 0. -/
def State.resulted (s : State) (e : ControlEntry) (q : Word) (r : CmdResult) : State :=
  { s with
    guardStep := 0
    taps := s.taps.map fun x =>
      { x with
        executed := min (x.executed + 1) 255
        report := if r = .accepted then x.report else x.report.or (some ⟨e.code, r, q⟩) } }

/-! ### Segments that are freed or handed on (R46, R48, Table 27, R146) -/

/-- `t` is `s` with segment `p`, whose record is `g`, freed: FREE, or RETIRED with RETIRED latched when it is retire-pending; a lowered
Dmax may clamp delays (R46, R50, R51). -/
def State.freedAs (s t : State) (p : Nat) (g : Segment) : Prop :=
  (g.retirePending = false →
    t = { s with pool := { s.pool with segs := s.pool.segs.set p { g with state := .free, departure := none } } }) ∧
  (g.retirePending = true →
    t =
      { s with
        pool := { s.pool with segs := s.pool.segs.set p { g with state := .retired, departure := none } }
        taps := t.taps
        store := { s.store with config := t.store.config } } ∧
    ∀ i, (t.tap i).latch.getLsbD 30 = true)

/-- `t` is `s` with segment `p`, whose record is `g`, handed on with the record `r`: freed when `r` is not withheld, else taken by the
quarantine at its end, over its oldest record when it is full and UNLOCKED, or declined and freed (R48, Table 27, R145, R146). -/
def State.handedAs (s t : State) (p : Nat) (g : Segment) (r : SegmentRecord) : Prop :=
  let count := s.quarantine.records.length
  let taken (u : State) (rest : List SegmentRecord) : State :=
    { u with
      quarantine := { u.quarantine with records := rest ++ [r] }
      pool := { u.pool with segs := u.pool.segs.set p { g with state := .quarantined, departure := none } } }
  ((r.withheld = 0#4 ∨ s.quarCap = 0) → s.freedAs t p g) ∧
  (r.withheld ≠ 0#4 → count < s.quarCap → t = taken s s.quarantine.records) ∧
  (r.withheld ≠ 0#4 → 0 < s.quarCap → s.quarCap ≤ count →
    (s.quarantine.lock ≠ .unlocked → State.freedAs { s with taps := s.latching fun _ => 0x20000#32 } t p g) ∧
    (s.quarantine.lock = .unlocked → ∀ old rest go, s.quarantine.records = old :: rest → old.phys ≠ p → s.seg? old.phys = some go →
      ∃ u, State.freedAs
          { s with quarantine := { s.quarantine with records := rest }, taps := s.latching fun _ => 0x10000#32 } u old.phys go ∧
        t = taken u rest))

/-! ### The store record and the load (R180 to R182) -/

/-- A tap's settings are in their ranges (Table 61). -/
def TapSettings.inRange (w : TapSettings) : Prop := w.de ≤ 65535 ∧ 2 ≤ w.p ∧ w.p ≤ 4095 ∧ w.k ≤ w.p / 2 ∧ w.g ≤ 255

/-- Every setting but the geometry is in its range (Table 61). -/
def WorkingConfig.inRange (c : WorkingConfig) : Prop :=
  (∀ i, (c.taps.get i).inRange) ∧ 1 ≤ c.dumpLength ∧ c.dumpLength ≤ 1024 ∧ 1 ≤ c.maskLead ∧ c.maskLead ≤ 64 ∧ 1 ≤ c.maskLimit ∧
    c.maskLimit ≤ 4096 ∧ c.snapReach ≤ 255 ∧ 1 ≤ c.faultThreshold ∧ c.faultThreshold ≤ 7 ∧ 1 ≤ c.stallLimit ∧ c.stallLimit ≤ 255

/-- The state of a tap that start-up turns on with a policy (R107). -/
def StartPolicy.tapState (p : StartPolicy) : TapState :=
  match p with
  | .build => .run
  | .wait => .priming

/-- What the load leaves in a tap whose stored settings are `w`, under the ceiling `dmax` (R129, R143, R182). -/
def loadedTap (w : TapSettings) (dmax : Nat) (invalid : Bool) : Tap :=
  { Tap.powerOn with
    dt := min w.de dmax
    state := if w.enabled then w.policy.tapState else .off
    latch := if invalid then 0x00800000#32 else 0#32 }

/-- A panel line whose debouncing has begun. -/
def LineState.begun (l : LineState) : LineState := { l with interval := true }

/-- `t` is what the end of the load makes of `s` with the configuration `c` and the hard retire list `hard` (R182). -/
structure State.LoadedAs (s t : State) (c : WorkingConfig) (hard : List Nat) (invalid : Bool) : Prop where
  startUp : t.startUp = { s.startUp with phase := .running }
  link : t.link = { s.link with geometry := some c.geometry }
  pool : t.pool = { s.pool with segs := t.pool.segs }
  segCount : t.pool.segs.length = c.geometry.n
  segs : ∀ p, p < c.geometry.n → t.seg? p = some (Segment.powerOn (if p ∈ hard then .retired else .free))
  store : t.store =
    { s.store with
      config := { c with taps := t.store.config.taps }
      pendingGeometry := c.geometry
      keptHard := hard
      invalid := invalid }
  settings : ∀ i, t.settings i = { c.taps.get i with de := min (c.taps.get i).de t.dmax }
  taps : ∀ i, t.tap i = loadedTap (c.taps.get i) t.dmax invalid
  quarantine : t.quarantine = { records := [], lock := if c.lockAtStart then .locked else .unlocked }
  panel : t.panel =
    { dumpLine := s.panel.dumpLine.begun
      maskLine := s.panel.maskLine.begun
      enterLine := s.panel.enterLine.begun
      exitLine := s.panel.exitLine.begun
      tallies := t.tallyConditions
      blink := s.panel.blink }
  capture : t.capture = s.capture
  timeline : t.timeline = s.timeline
  edits : t.edits = s.edits
  guardStep : t.guardStep = s.guardStep
  pending : t.pending = s.pending

end Sys2Proof.Machine
end

