-- ==== Sys2Proof/Certificates/Slice0/Obligations.lean ====
section
/-! DEFINITION. The statements for the provers. Each is a claim that the spec's rules make about the Q4. -/

open Sys2Proof Sys2Proof.Machine

/-! ### The step and the standing laws -/

/-- A step runs the command at the front of the queue on the state with the queue's rest. -/
def Obligations.StepRunsTheFrontCommand : Prop :=
  ∀ (c : Instr) (rest : List Instr) (s : State), s.pending = c :: rest → step s = exec c { s with pending := rest }

/-- The state after reset meets every standing law that the next statements say each step keeps. -/
def Obligations.ResetMeetsTheStandingLaws : Prop :=
  State.reset.quietBeforeLoad ∧ State.reset.talliesCurrent ∧ State.reset.quarantineFits ∧ State.reset.backingGuarded ∧
    State.reset.timelineOrdered ∧ State.reset.editsNamed ∧ State.reset.contextsFit ∧ State.reset.tagsDistinct ∧
    State.reset.delaysBounded ∧ State.reset.pacersInRange ∧ State.reset.countsInRange ∧ State.reset.editsApart ∧
    State.reset.boundsFit ∧ State.reset.segmentsOwned ∧ State.reset.entriesFit

/-- The tally lines follow their conditions at every event, and these are those of Table 60: d is the number of entries above the tally
tap's bound that no DROP covers for it, READY is lit in RUN with d at or above a Dt above 0, BUILD in mode BUILD, DUMP with d at least 1,
MASK while an entry is OPEN, and FAULT while the store is invalid, a tap is stalled or a clamp flag is set. Until the load ends every line
is dark (R124, R177, R178, R179). -/
def Obligations.TalliesFollowTheirConditions : Prop :=
  ∀ s t : State, s.talliesCurrent → step s = .next t → t.talliesCurrent ∧
    (t.startUp.phase ≠ .running → t.panel.tallies = Tallies.dark) ∧
    (t.startUp.phase = .running →
      let i := t.store.config.tallyTap
      let x := t.tap i
      let dropped (e : TimelineEntry) : Bool := t.edits.any fun d => d.kind == .drop && hasTap d.taps i && d.covers e.pi
      let d := (t.timeline.entries.filter fun e => serialLt x.bound e.pi && !dropped e).length
      (t.panel.tallies.ready = true ↔ x.state = .run ∧ 0 < x.dt ∧ x.dt ≤ d) ∧
      (t.panel.tallies.build = true ↔ x.state ≠ .off ∧ x.mode = .build) ∧
      (t.panel.tallies.dump = true ↔ x.state ≠ .off ∧ 1 ≤ d) ∧
      (t.panel.tallies.mask = true ↔ ∃ e ∈ t.edits, e.state = .opened) ∧
      (t.panel.tallies.fault = true ↔ t.store.invalid = true ∨ ∃ u, (t.tap u).stalled = true ∨ (t.tap u).clampFlag = true))

/-- The quarantine never holds more than Q records (R144). -/
def Obligations.QuarantineStaysWithinQ : Prop :=
  ∀ s t : State, s.quietBeforeLoad → s.quarantineFits → step s = .next t → t.quarantineFits

/-- Until the load ends nothing is accepted, captured, bound or quarantined (R18, R43). -/
def Obligations.NothingHappensBeforeTheLoadEnds : Prop :=
  ∀ s t : State, s.quietBeforeLoad → step s = .next t → t.quietBeforeLoad

/-- A FROZEN quarantine stays FROZEN and keeps its records in their places until power-on reset; newcomers join behind them
(R144, R148). -/
def Obligations.FrozenQuarantineKeepsItsRecords : Prop :=
  ∀ (c : Instr) (rest : List Instr) (s t : State),
    s.pending = c :: rest → c ≠ .powerOnReset → s.startUp.phase = .running → s.quarantine.lock = .frozen → step s = .next t →
      t.quarantine.lock = .frozen ∧ ∃ new, t.quarantine.records = s.quarantine.records ++ new

/-- No P-side request waits for or stands at the M-side at an address inside the backing region, but as the Q4's own translation (R9). -/
def Obligations.BackingRegionStaysGuarded : Prop :=
  ∀ s t : State, s.quietBeforeLoad → s.backingGuarded → step s = .next t → t.backingGuarded

/-- The timeline holds at most 4096 entries, whose program indexes follow one another up to the live edge, and every active tap's bound
stays from one below the head to the live edge. Every program entry names its segment and its check result, every gap entry names neither, has
no payload and is no cut point, and the program and the evicted ones carry a SEQ (R61, R62, R65, R66, R69, R72, R73, R75). -/
def Obligations.TimelineStaysOrdered : Prop :=
  ∀ s t : State, s.timelineOrdered → step s = .next t →
    t.timelineOrdered ∧ (s.boundsFit → t.boundsFit) ∧ (s.entriesFit → t.entriesFit)

/-- The edit list holds at most 32 entries, each with an id of its own from 0 to 31 and a taps mask that is not empty. No two entries of
one kind with a common tap overlap or abut, at most one entry is OPEN, and the OPEN masks and TRAILING drops alone have no end
(R81, R83, R84, R91). -/
def Obligations.EditListStaysNamed : Prop :=
  ∀ s t : State, step s = .next t → (s.editsNamed → t.editsNamed) ∧ (s.editsApart → t.editsApart)

/-- An in-band mark with no taps, count 0 or a start SEQ that does not map is refused with REFUSED_RANGE, and one that meets no entry of a
full list with REFUSED_FULL, with no effect. Any other mark of up to 1024 positions from its start PI is taken: a MASK CLOSED, a DROP
settled at once against the entries captured, with SPLICE_ROUGH when that makes it ROUGH. It is added or merged, is late for the taps
bound in it, leaves when it is spent, and is CLAMPED when its count was reduced or its range clipped, else ACCEPTED. CANCEL EDIT removes
the entry it names unless an active tap of its mask has reached it (R83 to R85, R90, R94 to R97, R100, R101). -/
def Obligations.MarksAndCancelsActOnTheEditList : Prop :=
  (∀ (s : State) (q : Word) (e : ControlEntry) (kind : EditKind),
    (e.code = 0x05#8 ∧ kind = .drop ∨ e.code = 0x06#8 ∧ kind = .mask) → s.timelineOrdered → s.store.config.snapReach ≤ 255 →
    let t := State.executeEntry q s e
    let n := min e.argA.toNat 1024
    ((e.taps = 0#4 ∨ e.argA = 0#16 ∨ ∀ p m clipped, ¬ s.markMaps e.argB n p m clipped) → t = s.resulted e q .refusedRange) ∧
    (e.taps ≠ 0#4 → e.argA ≠ 0#16 → ∀ p m clipped, s.markMaps e.argB n p m clipped →
      let z := p + BitVec.ofNat 32 m - 1#32
      ∀ new, (kind = .mask ∧ new = markBase .mask e.taps p z ∨ kind = .drop ∧ s.settledDropIs e.taps p z new) →
        (32 ≤ s.edits.length → (∀ x ∈ s.edits, ¬ new.touches x) → t = s.resulted e q .refusedFull) ∧
        ((s.edits.length < 32 ∨ ∃ x ∈ s.edits, new.touches x) →
          t =
            State.resulted { s with
              edits := t.edits
              taps := s.latching fun i => (if new.rough then 0x20000000#32 else 0#32) ||| s.lateBit new i } e q
              (if clipped = true ∨ 1024 < e.argA.toNat then .clamped else .accepted) ∧
          (∀ x ∈ t.edits, s.spent x = false) ∧ s.takesRange new t.edits))) ∧
  ∀ (s : State) (q : Word) (e : ControlEntry), e.code = 0x07#8 →
    let t := State.executeEntry q s e
    ((∀ x ∈ s.edits, x.id ≠ e.argA.toNat) → t = s.resulted e q .refusedRange) ∧
    ∀ pre x post, s.edits = pre ++ x :: post → x.id = e.argA.toNat → (∀ y ∈ pre ++ post, y.id ≠ e.argA.toNat) →
      let begun := ∃ i, (s.tap i).active = true ∧ hasTap x.taps i = true ∧ serialLe x.start (s.tap i).bound = true
      (begun → t = s.resulted e q .refusedState) ∧ (¬ begun → t = State.resulted { s with edits := pre ++ post } e q .accepted)

/-- At most two contexts are open, on different slots, and no P-side tag is in flight twice (R4, R25, R26, R27). -/
def Obligations.ContextsAndTagsStayApart : Prop :=
  (∀ s t : State, s.contextsFit → step s = .next t → t.contextsFit) ∧
    ∀ s t : State, s.tagsDistinct → step s = .next t → t.tagsDistinct

/-- Every tap's target delay and entry delay are at most Dmax (R130), through every retirement. -/
def Obligations.DelaysStayWithinDmax : Prop :=
  ∀ s t : State, s.delaysBounded → step s = .next t → t.delaysBounded

/-- P is 2 to 4095, K at most floor(P/2) and A at most P for every tap (R132). -/
def Obligations.PacersStayInRange : Prop :=
  ∀ s t : State, s.quietBeforeLoad → s.pacersInRange → step s = .next t → t.pacersInRange

/-- The counters and the saturating counts never pass their maxima, the fault counts of segments and the extension counts of edit entries
among them, and the guard step stays within 0 to 4 (R49, R58, R81, R161, R168, R174, R175). -/
def Obligations.CountsNeverPassTheirMaxima : Prop :=
  ∀ s t : State, s.countsInRange → step s = .next t → t.countsInRange

/-- Every segment has the one owner its state says: FILLING an open context, LIVE a timeline entry, QUARANTINED a quarantine record,
MASK_IMAGE the mask image pointer, TESTING the pattern run; each names it once, and exactly the HELD segments, which are pinned, carry a
departure record. The laws of the load, the contexts and the timeline go with it (R44, R48, R54, R55, R57, R64, R144). -/
def Obligations.SegmentsStayOwned : Prop :=
  ∀ s t : State, s.quietBeforeLoad → s.contextsFit → s.timelineOrdered → s.segmentsOwned → step s = .next t → t.segmentsOwned

/-- The geometry, Q and the number of segments are held from the end of the load until the next power-on reset (R5). -/
def Obligations.GeometryHoldsUntilPowerOn : Prop :=
  ∀ (c : Instr) (rest : List Instr) (s t : State),
    s.pending = c :: rest → c ≠ .powerOnReset → s.startUp.phase = .running → step s = .next t →
      t.link.geometry = s.link.geometry ∧ t.store.config.geometry = s.store.config.geometry ∧ t.quarCap = s.quarCap ∧
        t.pool.segs.length = s.pool.segs.length

/-! ### Formats -/

/-- The record that a store write builds has 256 bytes and reads back as the pending geometry, the settings and the hard list it was
built from, when the geometry is consistent and every setting is in its range. A record of 256 bytes is invalid exactly when its mark,
version or check word is wrong, its S code is above 3, N or Q is out of its range, a base is not aligned, or the backing region extends
past the top address or overlaps the aperture; a valid one supplies its geometry and each setting brought to the nearest end of its range,
and at most 64 hard-retired indexes (R180, R181, R183; a count above 64: log entry 34). -/
def Obligations.StoreRecordReadsBack : Prop :=
  (∀ (g : Geometry) (c : WorkingConfig) (hard : List Nat),
    g.consistent = true → c.inRange → hard.length ≤ 64 → (∀ p ∈ hard, p < 65536) →
      (buildRecord g c hard).length = 256 ∧ parseRecord (buildRecord g c hard) = some ({ c with geometry := g }, hard)) ∧
  ∀ bs : List Byte, bs.length = 256 →
    let size := 16384 * 2 ^ field bs 5 1
    let n := field bs 6 2
    let q := field bs 8 2
    let aperture := field bs 10 5
    let backing := field bs 15 5
    let flag (off bit : Nat) : Bool := (field bs off 1).testBit bit
    (parseRecord bs = none ↔
      bs.take 4 ≠ [0x51#8, 0x43#8, 0x46#8, 0x47#8] ∨ field bs 4 1 ≠ 1 ∨ field bs 252 4 ≠ (checkWord (bs.take 252)).toNat ∨
        3 < field bs 5 1 ∨ n < 64 ∨ 4096 < n ∨ 256 < q ∨ n < 4 * q ∨ aperture % 0x4000000 ≠ 0 ∨ backing % 0x10000 ≠ 0 ∨
        0xFFFFFFFFFF < backing + n * size - 1 ∨
        ∃ a, backing ≤ a ∧ a < backing + n * size ∧ aperture ≤ a ∧ a < aperture + 296 * size) ∧
    ∀ c hard, parseRecord bs = some (c, hard) →
      c.geometry.apertureBase.toNat = aperture ∧ c.geometry.backingBase.toNat = backing ∧ c.geometry.sCode.val = field bs 5 1 ∧
      c.geometry.n = n ∧ c.geometry.q = q ∧
      (c.checkPolicy = if flag 20 0 then .repeatSource else .serve) ∧ c.lockAtStart = flag 20 1 ∧
      c.faultThreshold = max 1 (min 7 (field bs 21 1)) ∧ c.stallLimit = max 1 (field bs 22 1) ∧
      c.dumpLength = max 1 (min 1024 (field bs 24 2)) ∧ c.maskLead = max 1 (min 64 (field bs 26 1)) ∧
      c.snapReach = field bs 27 1 ∧ c.maskLimit = max 1 (min 4096 (field bs 28 2)) ∧
      (∀ i : Fin 4, hasTap c.panelTaps i = flag 30 i.val) ∧ c.tallyTap.val = field bs 30 1 / 16 % 4 ∧
      (∀ i : Fin 4,
        let off := 32 + 12 * i.val
        let p := max 2 (min 4095 (field bs (off + 4) 2))
        c.taps.get i =
          { enabled := flag off 0, policy := if flag off 1 then .wait else .build, de := field bs (off + 2) 2, p := p,
            k := min (field bs (off + 6) 2) (p / 2), g := field bs (off + 8) 1 }) ∧
      hard = (List.range (min (field bs 80 1) 64)).map fun k => field bs (84 + 2 * k) 2

/-- The check word is the remainder of a division by 0x04C11DB7, the bits of each byte taken least significant first, from
0xFFFFFFFF and inverted at the end (R1). -/
def Obligations.CheckWordIsPolynomialDivision : Prop :=
  let feed (r : Word) (b : Bool) : Word := (r <<< 1) ^^^ (if r.getLsbD 31 != b then 0x04C11DB7#32 else 0#32)
  ∀ bs : List Byte,
    (checkWord bs).reverse = ~~~ ((bs.flatMap fun b => (List.range 8).map fun i => b.getLsbD i).foldl feed 0xFFFFFFFF#32)

/-! ### Resets and start-up -/

/-- POWER_ON_RESET sets every block to its power-on state; the levels at the input pins, what the serial memory holds and the queue are
kept (R18, R43, R60, R79, R103, R129, R143, R156, R171, R176, R179, R184). The model's own: what is kept, and that a request which waits
unaccepted is dropped (log entry 28), and that the lock is UNLOCKED until the load ends (log entry 39). -/
def Obligations.PowerOnResetClearsEveryBlock : Prop :=
  ∀ s : State, ∃ t, exec .powerOnReset s = .next t ∧
    t.startUp.phase = .resetHeld ∧ t.quietBeforeLoad ∧ t.freeTags = internalTags ∧ t.link.lastReturned = none ∧
    t.quarantine.lock = .unlocked ∧ t.panel.tallies = Tallies.dark ∧ t.store.invalid = false ∧
    (∀ l, (t.line l).debounced = none ∧ (t.line l).interval = false ∧ (t.line l).raw = (s.line l).raw) ∧
    t.startUp.lrstAsserted = s.startUp.lrstAsserted ∧ t.link.mHoldOff = s.link.mHoldOff ∧ t.link.presented = none ∧
    t.store.contents = s.store.contents ∧ t.pending = s.pending

/-- STORE_LOAD_START samples the straps; with STORE_EN 1 the read of the record begins, with STORE_EN 0 the load ends at once with the
defaults and without the store-invalid condition. STORE_LOAD_END gives the blocks what a valid record supplies, and the defaults with
STORE_INVALID otherwise or when the store does not acknowledge; TPOR_EXPIRY ends a load as an invalid record does, and after the load it
has nothing to end (R181, R182, R185; log entries 4, 14, by which a De lowered to Dmax is lowered in the working configuration, and
23). -/
def Obligations.StoreLoadEndsAsTheRecordSays : Prop :=
  (∀ (s : State) (straps : Straps), s.quietBeforeLoad → s.startUp.phase = .resetHeld →
    (straps.storeEn = true →
      exec (.storeLoadStart straps) s = .next { s with startUp := { s.startUp with phase := .loading, straps := straps } }) ∧
    (straps.storeEn = false →
      ∃ t, exec (.storeLoadStart straps) s = .next t ∧
        State.LoadedAs { s with startUp := { s.startUp with straps := straps } } t (defaultConfig straps.apsel) [] false)) ∧
  ∀ s : State, s.quietBeforeLoad →
    (s.startUp.phase = .loading → ∀ (reply : StoreReply) (held : List Byte), reply.wf = true →
      ((reply = .stored ∨ reply = .noAck) ∧ held = s.store.contents ∨ reply = .holding held) →
      ∃ t, exec (.storeLoadEnd reply) s = .next t ∧
        let s1 := { s with store := { s.store with contents := held } }
        (∀ c hard, reply ≠ .noAck → parseRecord held = some (c, hard) → State.LoadedAs s1 t c hard false) ∧
        ((reply = .noAck ∨ parseRecord held = none) → State.LoadedAs s1 t (defaultConfig s.startUp.straps.apsel) [] true)) ∧
    (s.startUp.phase = .loading →
      ∃ t, exec .tporExpiry s = .next t ∧ State.LoadedAs s t (defaultConfig s.startUp.straps.apsel) [] true) ∧
    (s.startUp.phase = .running → exec .tporExpiry s = .next s)

/-- LINK_RESET: every accepted request not yet answered is owed FAULT with zero data, unissued parts are cancelled, every other M-side
request drains, the capture unit, the timeline, the edit list and the guard are emptied, every tap goes OFF with its counters, latch
and report emptied and no segment stays pinned. The HELD segments by ascending PI and then the LIVE ones are handed over with the taps of
the DROPs that cover them added to their masks: the withheld ones to the quarantine, which keeps its records and its rule for a full list,
the rest freed; no segment stays FILLING, LIVE, HELD or TESTING. The geometry, the mask image, the lock state, the store controller's
pending geometry, kept hard list, write and contents and the panel lines are kept; Dt, De and the clamp flags too unless a segment
retires. LINK_RESET_END releases LRSTn. The model's own: forwarded requests not yet issued stay planned and drain (log entry 9), bounds
are kept (log entry 36), the reset is taken in every start-up phase (log entry 31), its order (log entry 18)
(R17, R42, R51, R58, R59, R77, R78, R102, R128, R142, R155, R171, R179, R184). -/
def Obligations.LinkResetEmptiesTheBlocks : Prop :=
  (∀ s : State, s.startUp.lrstAsserted = false → ∃ t, exec .linkReset s = .next t ∧
    t.startUp = { s.startUp with lrstAsserted := true } ∧
    t.link =
      { s.link with
        inflight := s.link.inflight.map fun f =>
          if f.phase = .draining then f
          else { f with phase := .ready, reserved := [], parts := 0, reply := some ⟨.fault, zeroData f.req⟩, owed := true }
        planned := (s.link.planned.filter fun m => decide (m.tag.val < 64)).map fun m => { m with draining := true }
        outstanding := s.link.outstanding.map fun m => { m with draining := true } } ∧
    t.capture = .powerOn ∧ t.timeline = .empty ∧ t.edits = [] ∧ t.guardStep = 0 ∧
    t.pool = { s.pool with segs := t.pool.segs, pattern := none } ∧ (∀ g ∈ t.pool.segs, g.pins = 0) ∧
    (∀ i, t.tap i =
      { Tap.powerOn with bound := (s.tap i).bound, dt := (t.tap i).dt, clampFlag := (t.tap i).clampFlag }) ∧
    ((∀ g ∈ s.pool.segs, g.retirePending = false) →
      t.store = s.store ∧ ∀ i, (t.tap i).dt = (s.tap i).dt ∧ (t.tap i).clampFlag = (s.tap i).clampFlag) ∧
    t.quarantine.lock = s.quarantine.lock ∧
    t.store = { s.store with config := t.store.config } ∧
    (∀ l, t.line l = s.line l) ∧ t.talliesCurrent ∧ t.pending = s.pending ∧
    (s.segmentsOwned →
      (∀ g ∈ t.pool.segs, g.state = .free ∨ g.state = .maskImage ∨ g.state = .quarantined ∨ g.state = .retired) ∧
      (s.quarantineFits → ∀ held : List SegmentRecord,
        held.Perm (s.pool.segs.filterMap fun g => if g.state = .held then g.departure else none) →
        held.Pairwise (fun a b => serialLt a.pi b.pi = true ∧ serialLt b.pi a.pi = false) →
        let live := s.timeline.entries.filterMap fun e => e.phys.map fun p =>
          (⟨p, e.seq.getD 0#32, e.pi, e.la, e.lv, e.check, e.withheld, e.origin⟩ : SegmentRecord)
        let come := ((held ++ live).map (resetRecord s.edits)).filter fun r => r.withheld != 0#4
        let all := s.quarantine.records ++ come
        t.quarantine.records = if s.quarantine.lock = .unlocked then all.drop (all.length - s.quarCap) else all.take s.quarCap))) ∧
  (∀ (es : List Edit) (r : SegmentRecord),
    let drops := es.filter fun d => d.kind == .drop && d.covers r.pi
    (drops = [] → resetRecord es r = r) ∧
    ∀ d ∈ drops, (∀ x ∈ drops, x = d ∨ (serialLt d.start x.start = true ∧ serialLt x.start d.start = false)) →
      resetRecord es r =
        { r with
          withheld := drops.foldl (fun m x => m ||| x.taps) r.withheld
          origin := if r.withheld = 0#4 then some d.origin else r.origin }) ∧
  ∀ s : State, s.startUp.lrstAsserted = true →
    exec .linkResetEnd s = .next { s with startUp := { s.startUp with lrstAsserted := false } }

/-! ### The link interposer -/

/-- While any condition of Table 6 holds, the presented request waits, in flight nowhere, and no request behind it is accepted;
M_SIDE_HOLD_OFF_CHANGE notes whether the M-side holds off, and nothing else (R4; log entry 20). -/
def Obligations.HeldOffRequestsWait : Prop :=
  (∀ (s : State) (r : LinkRequest), r.wf = true →
    ((s.link.presented = none ∨ s.link.presented = some r) →
      (s.startUp.phase ≠ .running ∨ s.startUp.lrstAsserted = true ∨ (∃ f ∈ s.link.inflight, f.owed = true) ∨
        s.link.mHoldOff = true ∨ (∃ f ∈ s.link.inflight, f.req.tag = r.tag) ∨
        ∃ g, s.link.geometry = some g ∧ (g.classify r = .tap ∨ g.classify r = .review) ∧ s.freeTags.length < 5) →
      exec (.pRequestAccept r) s = .next { s with link := { s.link with presented := some r } }) ∧
    (∀ r0, s.link.presented = some r0 → r0 ≠ r → exec (.pRequestAccept r) s = .next s)) ∧
  ∀ (s : State) (holding : Bool),
    exec (.mSideHoldOffChange holding) s = .next { s with link := { s.link with mHoldOff := holding } }

/-- An illegal request that touches the aperture or the backing region is answered FAULT, with zero data for a READ, and not forwarded;
MISALIGN and nothing else is latched, no other block meets it, and its response can return at once under its tag (R7). -/
def Obligations.IllegalRequestsAreAnsweredFault : Prop :=
  ∀ (s : State) (g : Geometry) (r : LinkRequest), s.admits r → s.link.geometry = some g → ¬ isLegal r →
    (∃ a, requestHas r a ∧ (g.inAperture a ∨ g.inBacking a)) →
    ∃ t u, exec (.pRequestAccept r) s = .next t ∧ exec (.responseReturn r.tag) t = .next u ∧
      t =
        { s with
          link :=
            { s.link with
              presented := none
              inflight := s.link.inflight ++ [{ flight r .illegal .ready with reply := some ⟨.fault, zeroData r⟩ }] }
          taps := s.taps.map fun x => { x with latch := x.latch ||| 0x2000#32 } } ∧
      u = { t with link := { t.link with inflight := s.link.inflight, lastReturned := some ⟨r.tag, ⟨.fault, zeroData r⟩⟩ } }

/-- A legal request inside the backing region is answered OK with zero data and PROTECT is latched; a READ in the capture window is
answered OK with zero data, and a WRITE in a tap window or the review window OK. None of them is forwarded, and nothing else changes
(R6, R9, R10). -/
def Obligations.GuardedAndDegradedRequestsAreAnsweredOk : Prop :=
  ∀ (s : State) (g : Geometry) (r : LinkRequest), s.admits r → s.link.geometry = some g →
    let answered (cls : ReqClass) : Interposer :=
      { s.link with
        presented := none
        inflight := s.link.inflight ++ [{ flight r cls .ready with reply := some ⟨.ok, zeroData r⟩ }] }
    (isLegal r → (∃ a, requestHas r a ∧ g.inBacking a) →
      exec (.pRequestAccept r) s =
        .next { s with link := answered .guarded, taps := s.taps.map fun x => { x with latch := x.latch ||| 0x1000#32 } }) ∧
    (∀ n, g.inSlot r n → n < 8 → r.op = .read → exec (.pRequestAccept r) s = .next { s with link := answered .zero }) ∧
    (∀ n, g.inSlot r n → 8 ≤ n → r.op = .write → exec (.pRequestAccept r) s = .next { s with link := answered .absorbed })

/-- A request outside the aperture and the backing region is forwarded as it arrived, under its own tag, with no internal tag and no
count on a segment; the M-side response returns under that tag with its status and data, and latches and counts nothing. Until then a
request with that tag waits (R8; that the response leaves in the step of the M-side's answer: log entry 8). -/
def Obligations.PassRequestsGoThroughUnchanged : Prop :=
  (∀ (s : State) (g : Geometry) (r : LinkRequest), s.admits r → s.link.geometry = some g →
    (∀ a, requestHas r a → ¬ g.inAperture a ∧ ¬ g.inBacking a) →
    ∃ t, exec (.pRequestAccept r) s = .next t ∧ t.freeTags = s.freeTags ∧
      t =
        { s with link :=
            { s.link with
              presented := none
              inflight := s.link.inflight ++ [flight r .pass .waitingM]
              planned := s.link.planned ++
                [{ tag := forwardTag r.tag, op := r.op, addr := r.addr, length := r.length, data := r.data, use := .pass,
                   draining := false }] } } ∧
      ∀ r2 : LinkRequest, r2.wf = true → r2.tag = r.tag →
        exec (.pRequestAccept r2) t = .next { t with link := { t.link with presented := some r2 } }) ∧
  ∀ (s : State) (m : MRequest) (p : Fin 64) (a : LinkResponse),
    s.link.outstanding.find? (fun x => x.tag == a.tag) = some m → m.use = .pass → m.draining = false → m.tag = forwardTag p →
    (m.op = .read → a.data.length = m.length) →
    exec (.passResponse a) s =
      .next
        { s with link :=
            { s.link with
              outstanding := s.link.outstanding.filter fun x => x.tag != m.tag
              inflight := s.link.inflight.filter fun f => f.req.tag != p
              lastReturned := some ⟨p, ⟨a.status, if m.op = .read then a.data else []⟩⟩ } }

/-- A WRITE in the capture window is taken in for the capture unit; a READ in a tap window or the review window is taken in for its
engine or the quarantine, with five free internal tags of its own (R6, R11, R12, R15). -/
def Obligations.WindowRequestsAreTakenIn : Prop :=
  ∀ (s : State) (g : Geometry) (r : LinkRequest) (n : Nat), s.admits r → s.link.geometry = some g → g.inSlot r n →
    (n < 8 → r.op = .write →
      exec (.pRequestAccept r) s =
        .next { s with link :=
          { s.link with presented := none, inflight := s.link.inflight ++ [flight r .capture .arriving] } }) ∧
    (8 ≤ n → r.op = .read → 5 ≤ s.freeTags.length →
      ∃ reserved : List (Fin 128), reserved.length = 5 ∧ reserved.Nodup ∧ (∀ t ∈ reserved, 64 ≤ t.val ∧ s.tagFree t = true) ∧
        exec (.pRequestAccept r) s =
          .next { s with link :=
            { s.link with
              presented := none
              inflight := s.link.inflight ++
                [{ flight r (if n < 40 then .tap else .review) .arriving with reserved := reserved }] } })

/-- A planned M-side request is issued while the M-side accepts, a forwarded one once every PASS or CAPTURE request accepted before it
has been issued; while the M-side holds off, nothing is issued (R4, R13; log entry 11). -/
def Obligations.MSideIssueKeepsForwardedOrder : Prop :=
  ∀ (s : State) (m : MRequest), s.link.planned.find? (fun x => x.tag == m.tag) = some m →
    (s.link.mHoldOff = true → exec (.mSideIssue m.tag) s = .next s) ∧
    (s.link.mHoldOff = false →
      (64 ≤ m.tag.val ∨
        ∃ (before : List InFlight) (f : InFlight) (after : List InFlight),
          s.link.inflight = before ++ f :: after ∧ forwardTag f.req.tag = m.tag ∧
          ∀ e ∈ before, forwardTag e.req.tag ≠ m.tag ∧
            (e.cls = .pass ∨ e.cls = .capture → e.phase ≠ .arriving ∧ ∀ x ∈ s.link.planned, x.tag ≠ forwardTag e.req.tag)) →
      exec (.mSideIssue m.tag) s =
        .next { s with link :=
          { s.link with
            planned := s.link.planned.filter fun x => x.tag != m.tag
            outstanding := s.link.outstanding ++ [m] } }) ∧
    (∀ (before : List InFlight) (f e : InFlight) (after : List InFlight),
      m.tag.val < 64 → s.link.inflight = before ++ f :: after → forwardTag f.req.tag = m.tag →
      (∀ x ∈ before, forwardTag x.req.tag ≠ m.tag) → e ∈ before → (e.cls = .pass ∨ e.cls = .capture) →
      (e.phase = .arriving ∨ ∃ x ∈ s.link.planned, x.tag = forwardTag e.req.tag) → exec (.mSideIssue m.tag) s = .next s)

/-- A response to a draining request is dropped: its tag becomes free, its segment's outstanding count falls, a P-side tag that waited
for it leaves flight, and nothing else changes (R16, R17). A response under a tag with no outstanding request is discarded with no
effect, whichever response it was taken for (R3). -/
def Obligations.DrainedAndUnknownResponsesHaveNoOtherEffect : Prop :=
  ∀ (s : State) (a : LinkResponse),
    (∀ m, s.link.outstanding.find? (fun x => x.tag == a.tag) = some m → m.draining = true →
      ∃ t, exec (.drainedResponse a) s = .next t ∧
        t =
          { s with
            link :=
              { s.link with
                outstanding := s.link.outstanding.filter fun x => x.tag != m.tag
                inflight := s.link.inflight.filter fun f => !(f.phase == .draining && forwardTag f.req.tag == m.tag) }
            pool := { s.pool with segs := t.pool.segs } } ∧
        ∀ p, t.seg? p =
          if m.use.segment? = some p then (s.seg? p).map fun g => { g with outstanding := g.outstanding - 1 } else s.seg? p) ∧
    (s.link.outstanding.find? (fun x => x.tag == a.tag) = none →
      exec (.unknownTagResponse a) s = .next s ∧ exec (.drainedResponse a) s = .next s ∧ exec (.passResponse a) s = .next s ∧
        exec (.captureWriteResponse a) s = .next s ∧ exec (.tapSegmentPartResponse a) s = .next s ∧
        exec (.maskPartResponse a) s = .next s ∧ exec (.reviewPartResponse a) s = .next s ∧ exec (.patternResponse a) s = .next s)

/-- A composed response is returned under its tag, which leaves flight; one that a link reset owes waits until LRSTn deasserts, and its
tag stays in flight while its forwarded request still drains (R2, R3, R17). -/
def Obligations.ComposedResponsesReturnOnce : Prop :=
  ∀ (s : State) (tag : Fin 64) (f : InFlight) (reply : Reply),
    s.link.inflight.find? (fun x => x.req.tag == tag) = some f → f.phase = .ready → f.reply = some reply →
    (f.owed = true → s.startUp.lrstAsserted = true → exec (.responseReturn tag) s = .next s) ∧
    ((f.owed = false ∨ s.startUp.lrstAsserted = false) →
      (f.owed = false ∨ ∀ m ∈ s.link.planned ++ s.link.outstanding, m.tag ≠ forwardTag tag) →
      exec (.responseReturn tag) s =
        .next { s with link :=
          { s.link with inflight := s.link.inflight.filter fun x => x.req.tag != tag, lastReturned := some ⟨tag, reply⟩ } }) ∧
    (f.owed = true → s.startUp.lrstAsserted = false →
      (∃ m ∈ s.link.planned ++ s.link.outstanding, m.tag = forwardTag tag) →
      exec (.responseReturn tag) s =
        .next { s with link :=
          { s.link with
            inflight := s.link.inflight.map fun x =>
              if x.req.tag = tag then { x with phase := .draining, reply := none, owed := false } else x
            lastReturned := some ⟨tag, reply⟩ } })

/-! ### The capture unit -/

/-- Every header write that arrives opens a context on its slot, the only one there, and touches no other request, whatever context it
displaces and whatever commits at the same event: it is forwarded to offset 0 of the segment that the pool allocates once room is made,
which is the new context's, or, when the context is a DISCARD one, absorbed with OK (R11, R27 to R31). -/
def Obligations.HeaderWritesAreForwardedOrAbsorbed : Prop :=
  ∀ (s : State) (tag : Fin 64) (g : Geometry) (f : InFlight) (k : Nat), s.captureWrite tag = some (g, f, k, 0) →
    ∃ t c, exec (.headerWriteArrival tag) s = .next t ∧ t.startUp = s.startUp ∧ (∀ l, t.line l = s.line l) ∧
      t.store.contents = s.store.contents ∧ (t.capture.contexts.filter fun c => c.slot == k) = [c] ∧
      ((c.state = .discard ∧ c.body = none ∧
        t.link =
          { s.link with inflight := s.link.inflight.map fun x =>
              if x.req.tag = tag then { x with cls := .absorbed, phase := .ready, reply := some ⟨.ok, []⟩ } else x }) ∨
        ∃ (b : ContextBody) (p : Nat), c.body = some b ∧ b.phys = p ∧ c.state ≠ .discard ∧ b.writesOut = 1 ∧
          (s.makeRoom k).allocate.2 = some p ∧ p < s.pool.segs.length ∧
          t.link =
            { s.link with
              inflight := s.link.inflight.map fun x =>
                if x.req.tag = tag then { x with cls := .capture, phase := .waitingM, targets := [p] } else x
              planned := s.link.planned ++
                [{ tag := forwardTag tag, op := .write, addr := BitVec.ofNat 40 (g.backingBase.toNat + p * g.segSize),
                   length := f.req.length, data := f.req.data, use := .captureWrite p, draining := false }] })

/-- A bad header, a duplicate and a header for which the pool has no segment each open a DISCARD context and are absorbed. The first
two consume no sequence; the last is latched as CAPTURE_LOST and its consumed sequence is carried on: to the trailing run of an older
context that is not DISCARD, else to the end of the pending run (R29, R30, R31). -/
def Obligations.RefusedHeadersOpenDiscard : Prop :=
  ∀ (s : State) (tag : Fin 64) (g : Geometry) (f : InFlight) (k : Nat),
    s.captureWrite tag = some (g, f, k, 0) → s.roomFor k →
    let data := f.req.data
    let la := field data 12 4
    let lv := field data 16 4
    let kind := field data 8 1
    let absorbed : Interposer :=
      { s.link with inflight := s.link.inflight.map fun x =>
          if x.req.tag = tag then { x with cls := .absorbed, phase := .ready, reply := some ⟨.ok, []⟩ } else x }
    let discards (cs : List Context) : List Context := cs ++ [{ slot := k, state := .discard, body := none }]
    ((data.take 4 ≠ [0x51#8, 0x53#8, 0x45#8, 0x47#8] ∨ kind = 0 ∨ 3 < kind ∨ g.segSize - 64 < la + lv ∨
        (kind = 3 ∧ (la ≠ 0 ∨ lv ≠ 0))) →
      exec (.headerWriteArrival tag) s =
        .next (State.refreshTally { s with
          link := absorbed
          capture := { s.capture with contexts := discards s.capture.contexts }
          taps := s.taps.map fun x => { x with latch := x.latch ||| 0x400#32 } })) ∧
    (∀ h x, parseCaptureHeader g.segSize data = some h → h.kind ≠ .controlOnly → s.capture.expected = some x →
      -64 ≤ serialDiff h.seq x → serialDiff h.seq x ≤ -1 →
      exec (.headerWriteArrival tag) s =
        .next (State.refreshTally { s with
          link := absorbed
          capture := { s.capture with contexts := discards s.capture.contexts }
          taps := s.taps.map fun x => { x with latch := x.latch ||| 0x80#32 } })) ∧
    (∀ h lead event after, parseCaptureHeader g.segSize data = some h → acceptsAs s.capture.expected h lead event after →
      s.allocate.2 = none →
      let run : List GapCause :=
        match h.kind with
        | .program => lead ++ [.lost]
        | .maskSource => lead
        | .controlOnly => []
      exec (.headerWriteArrival tag) s =
        .next (State.refreshTally { s with
          link := absorbed
          capture :=
            { expected := after
              contexts := discards (s.capture.contexts.map fun (c : Context) => if c.state = .discard then c else c.trail run)
              pendingRun :=
                s.capture.pendingRun ++ if s.capture.contexts.any (fun c => c.state != .discard) then [] else run }
          taps := (s.taps.raised event).map fun x => { x with latch := x.latch ||| 0x8000#32 } }))

/-- An accepted header opens a FILLING context on its slot with the lowest allocatable segment, is forwarded to it, and moves the
expected sequence, its lead run and event being those of Table 18; a header write that reaches the payload end completes the context at
once (R30, R31, R34, R45). -/
def Obligations.AcceptedHeadersOpenTheirContext : Prop :=
  ∀ (s : State) (tag : Fin 64) (g : Geometry) (f : InFlight) (k : Nat) (h : CaptureHeader) (lead : List GapCause)
    (event : Option Event) (after : Option Word) (p : Nat) (sp : Segment),
    s.captureWrite tag = some (g, f, k, 0) → s.roomFor k → parseCaptureHeader g.segSize f.req.data = some h →
    acceptsAs s.capture.expected h lead event after →
    s.seg? p = some sp → sp.state = .free → sp.outstanding = 0 →
    (∀ q sq, q < p → s.seg? q = some sq → ¬ (sq.state = .free ∧ sq.outstanding = 0)) →
    let n := f.req.length
    let e := 64 + h.la + h.lv
    exec (.headerWriteArrival tag) s =
      .next (State.refreshTally { s with
        link :=
          { s.link with
            inflight := s.link.inflight.map fun x =>
              if x.req.tag = tag then { x with cls := .capture, phase := .waitingM, targets := [p] } else x
            planned := s.link.planned ++
              [{ tag := forwardTag tag, op := .write, addr := BitVec.ofNat 40 (g.backingBase.toNat + p * g.segSize), length := n,
                 data := f.req.data, use := .captureWrite p, draining := false }] }
        capture :=
          { s.capture with
            expected := after
            contexts := s.capture.contexts ++
              [{ slot := k
                 state := if e ≤ max 64 n then .completeWaiting else .filling
                 body := some
                   { phys := p, header := h, fill := max 64 n,
                     running := crcRun 0xFFFFFFFF#32 ((f.req.data.drop 64).take (min n e - 64)), coherence := .clean,
                     writesOut := 1, faultSeen := false, leadRun := lead, trailingRun := [] } }] }
        pool := { s.pool with segs := s.pool.segs.set p { sp with state := .filling, counted := false, outstanding := 1 } }
        taps := s.taps.raised event })

/-- Room for a header write: the context on its slot and then the older of two others go, and when there is none nothing changes. A DISCARD
context simply ends; any other is abandoned: ABANDONED is latched in every tap, its segment, when nothing else names it, is freed, its
entries reach no decoder and its gap run goes to the trailing run of an older context that is not DISCARD, else to the pending run. A header
write that arrives acts as it does on the state with that room made, so ABANDONED and the run stand after it, the run until the next commit
(R27, R28, R46, R161). -/
def Obligations.DisplacedContextsCarryTheirRun : Prop :=
  (∀ (s : State) (k : Nat), s.contextsFit →
    (s.makeRoom k).capture.contexts.map (·.slot) =
      (let rest := (s.capture.contexts.map (·.slot)).filter (· ≠ k)
       if 2 ≤ rest.length then rest.drop 1 else rest) ∧
    (s.makeRoom k).capture.expected = s.capture.expected ∧ (s.makeRoom k).guardStep = s.guardStep ∧
    (∀ i, ((s.makeRoom k).tap i).executed = (s.tap i).executed) ∧
    ((∀ c ∈ s.capture.contexts, c.slot ≠ k) → s.capture.contexts.length ≤ 1 → s.makeRoom k = s)) ∧
  (∀ (s : State) (k : Nat) (older younger : List Context) (gone : Context), s.contextsFit →
    s.capture.contexts = older ++ gone :: younger →
    (gone.slot = k ∨ (older = [] ∧ younger ≠ [] ∧ ∀ c ∈ s.capture.contexts, c.slot ≠ k)) →
    (gone.body = none → s.makeRoom k = s.setContexts (older ++ younger)) ∧
    ∀ b, gone.body = some b →
      let run : List GapCause :=
        match b.header.kind with
        | .program => b.leadRun ++ [.lost] ++ b.trailingRun
        | .maskSource => b.leadRun ++ b.trailingRun
        | .controlOnly => b.trailingRun
      (s.makeRoom k).capture =
        { s.capture with
          contexts := (older.map fun (c : Context) => if c.state = .discard then c else c.trail run) ++ younger
          pendingRun := s.capture.pendingRun ++ if older.any (fun c => c.state != .discard) then [] else run } ∧
      (∀ i, ((s.makeRoom k).tap i).latch.getLsbD 14 = true) ∧
      (∀ g, s.seg? b.phys = some g → (∀ e ∈ s.timeline.entries, e.phys ≠ some b.phys) →
        (∀ r ∈ s.quarantine.records, r.phys ≠ b.phys) →
        (s.makeRoom k).seg? b.phys =
          some { g with state := if g.retirePending then .retired else .free, departure := none }) ∧
      ∀ (tag : Fin 64) (g : Geometry) (f : InFlight), s.captureWrite tag = some (g, f, k, 0) →
        ∃ t, exec (.headerWriteArrival tag) s = .next t ∧ ∀ i, (t.tap i).latch.getLsbD 14 = true) ∧
  ∀ (s : State) (tag : Fin 64) (g : Geometry) (f : InFlight) (k : Nat), s.captureWrite tag = some (g, f, k, 0) → s.contextsFit →
    let u := s.makeRoom k
    exec (.headerWriteArrival tag) s = exec (.headerWriteArrival tag) u ∧
    ((∀ c ∈ u.capture.contexts, c.state = .completeWaiting → ∀ b, c.body = some b → 0 < b.writesOut) →
      u.roomFor k ∧
      ∃ t, exec (.headerWriteArrival tag) s = .next t ∧ (∃ more, t.capture.pendingRun = u.capture.pendingRun ++ more) ∧
        ∀ c ∈ u.capture.contexts, ∃ c' ∈ t.capture.contexts, c'.slot = c.slot ∧ c'.state = c.state ∧
          ∀ b, c.body = some b → ∃ more, c'.body = some { b with trailingRun := b.trailingRun ++ more })

/-- The pool gives capture the lowest allocatable segment. With none, it takes the oldest quarantine record's segment while UNLOCKED;
else the oldest unpinned LIVE entry inside a DROP that no active tap still to bind it would play; else the oldest unpinned LIVE entry
inside no DROP; else nothing. An evicted entry becomes an EVICTED gap in its place (R45, R53, R54, R75). -/
def Obligations.AllocationFollowsThePressureOrder : Prop :=
  ∀ s : State,
    let allocatable (p : Nat) : Prop := ∃ g, s.seg? p = some g ∧ g.state = .free ∧ g.outstanding = 0
    let releasable (p : Nat) : Prop := ∃ g, s.seg? p = some g ∧ g.outstanding = 0 ∧ g.retirePending = false
    let evictable (e : TimelineEntry) : Prop :=
      ∃ p g, e.phys = some p ∧ s.seg? p = some g ∧ g.state = .live ∧ g.pins = 0 ∧ g.outstanding = 0 ∧ g.retirePending = false
    let first (e : TimelineEntry) (ok : TimelineEntry → Prop) : Prop :=
      ∃ before after, s.timeline.entries = before ++ e :: after ∧ ok e ∧ ∀ x ∈ before, ¬ ok x
    let droppedCandidate (e : TimelineEntry) : Prop :=
      evictable e ∧ (∃ d ∈ s.edits, d.kind = .drop ∧ d.covers e.pi = true) ∧
        ∀ i, (s.tap i).active = true → serialLt (s.tap i).bound e.pi = true →
          ∃ d ∈ s.edits, d.kind = .drop ∧ hasTap d.taps i = true ∧ d.covers e.pi = true
    let plainCandidate (e : TimelineEntry) : Prop :=
      evictable e ∧ ∀ d ∈ s.edits, d.kind = .drop → d.covers e.pi = false
    let evicted (e : TimelineEntry) : State → Prop := fun t =>
      t.timeline = { s.timeline with entries := s.timeline.entries.map fun x =>
        if x.pi = e.pi then
          { x with gap := some .evicted, phys := none, cutOk := false, checkPass := none, la := 0, lv := 0, check := 0#32 }
        else x } ∧ t.quarantine = s.quarantine
    (∀ p, allocatable p → (∀ q, q < p → ¬ allocatable q) →
      s.allocate = (s.modifySeg p fun g => { g with state := .filling, counted := false }, some p)) ∧
    ((∀ p, ¬ allocatable p) →
      (∀ r rest, s.quarantine.lock = .unlocked → s.quarantine.records = r :: rest → releasable r.phys →
        s.allocate.2 = some r.phys ∧ s.allocate.1.quarantine = { s.quarantine with records := rest } ∧
          s.allocate.1.timeline = s.timeline ∧
          s.allocate.1.taps = s.taps.map (fun x => { x with latch := x.latch ||| 0x10000#32 })) ∧
      ((∀ r rest, s.quarantine.lock = .unlocked → s.quarantine.records = r :: rest → ¬ releasable r.phys) →
        (∀ e, first e droppedCandidate →
          s.allocate.2 = e.phys ∧ evicted e s.allocate.1 ∧
            s.allocate.1.taps = s.taps.map (fun x => { x with latch := x.latch ||| 0x40000#32 })) ∧
        ((∀ e ∈ s.timeline.entries, ¬ droppedCandidate e) →
          (∀ e, first e plainCandidate →
            s.allocate.2 = e.phys ∧ evicted e s.allocate.1 ∧
              s.allocate.1.taps = s.taps.map (fun x =>
                { x with latch := x.latch ||| (if e.withheld = 0#4 then 0x8#32 else 0x40008#32) })) ∧
          ((∀ e ∈ s.timeline.entries, ¬ plainCandidate e) → s.allocate = (s, none)))))

/-- A payload write to a slot with a DISCARD context is absorbed silently, and one to a slot with no open context is absorbed and
STRAY_WRITE is latched in every tap. It is answered OK and changes nothing else (R33). -/
def Obligations.PayloadWritesAreAbsorbed : Prop :=
  ∀ (s : State) (tag : Fin 64) (g : Geometry) (f : InFlight) (k o : Nat), s.captureWrite tag = some (g, f, k, o) → 0 < o →
    let absorbed : Interposer :=
      { s.link with inflight := s.link.inflight.map fun x =>
          if x.req.tag = tag then { x with cls := .absorbed, phase := .ready, reply := some ⟨.ok, []⟩ } else x }
    (∀ c, s.capture.contexts.find? (fun c => c.slot == k) = some c → c.body = none →
      exec (.payloadWriteArrival tag) s = .next { s with link := absorbed }) ∧
    ((∀ c ∈ s.capture.contexts, c.slot ≠ k) →
      exec (.payloadWriteArrival tag) s =
        .next { s with link := absorbed, taps := s.taps.map fun x => { x with latch := x.latch ||| 0x800#32 } })

/-- A payload write to a slot with an open context is forwarded to its segment and updates the fill by the first case of R32 that
matches; the context completes when its fill offset reaches the payload end (R11, R16, R32, R34). -/
def Obligations.PayloadWritesFillTheContext : Prop :=
  ∀ (s : State) (tag : Fin 64) (g : Geometry) (f : InFlight) (k o : Nat) (c : Context) (b : ContextBody),
    s.captureWrite tag = some (g, f, k, o) → 0 < o → s.capture.contexts.find? (fun c => c.slot == k) = some c → c.body = some b →
    (s.capture.contexts.map (·.slot)).Nodup →
    let n := f.req.length
    let e := 64 + b.header.la + b.header.lv
    let fill := if e ≤ o then b.fill else if o < b.fill then max b.fill (o + n) else o + n
    let coherence : Coherence :=
      if e ≤ o ∨ o = b.fill ∨ b.coherence ≠ .clean then b.coherence else if o < b.fill then .rewritten else .hole
    let running :=
      if o < e ∧ o = b.fill ∧ b.coherence = .clean then crcRun b.running (f.req.data.take (min (o + n) e - o)) else b.running
    exec (.payloadWriteArrival tag) s =
      .next { s with
        link :=
          { s.link with
            inflight := s.link.inflight.map fun x =>
              if x.req.tag = tag then { x with cls := .capture, phase := .waitingM, targets := [b.phys] } else x
            planned := s.link.planned ++
              [{ tag := forwardTag tag, op := .write,
                 addr := BitVec.ofNat 40 (g.backingBase.toNat + b.phys * g.segSize + o), length := n, data := f.req.data,
                 use := .captureWrite b.phys, draining := false }] }
        capture :=
          { s.capture with contexts := s.capture.contexts.map fun x =>
              if x.slot = k then
                { slot := k
                  state := if c.state = .filling ∧ e ≤ fill then .completeWaiting else c.state
                  body := some
                    { b with fill := fill, coherence := coherence, running := running, writesOut := b.writesOut + 1 } }
              else x }
        pool :=
          { s.pool with segs := s.pool.segs.modify b.phys fun sp => { sp with outstanding := sp.outstanding + 1 } } }

/-- The answer to a capture write returns to the P-side under the write's tag with the M-side status, in the same step (log entry 8). While
the oldest context that is not DISCARD is not ready nothing commits, a ready newer one neither: with OK the context's and the segment's
counts fall by one and nothing else changes; a FAULT counts at most one fault on the segment and marks the context, unless it was
abandoned (R11, R16, R28, R35, R36, R49). -/
def Obligations.CaptureAnswersReturnToTheProcessor : Prop :=
  ∀ (s : State) (a : LinkResponse) (m : MRequest) (p : Nat) (tag : Fin 64),
    s.link.outstanding.find? (fun x => x.tag == a.tag) = some m → m.op = .write → m.use = .captureWrite p → m.draining = false →
    m.tag = forwardTag tag →
    let answered (c : Context) : Context :=
      { c with body := c.body.map fun b =>
          if b.phys = p then
            { b with writesOut := b.writesOut - 1, faultSeen := b.faultSeen || a.status == .fault }
          else b }
    ∃ t, exec (.captureWriteResponse a) s = .next t ∧
      t.link =
        { s.link with
          outstanding := s.link.outstanding.filter fun x => x.tag != m.tag
          inflight := s.link.inflight.filter fun f => f.req.tag != tag
          lastReturned := some ⟨tag, ⟨a.status, []⟩⟩ } ∧
      t.startUp = s.startUp ∧ t.talliesCurrent ∧
      ((∀ c, s.capture.contexts.find? (fun c => c.state != .discard) = some c → c.state = .completeWaiting →
          ∀ b, (answered c).body = some b → 0 < b.writesOut) →
        t.capture = { s.capture with contexts := s.capture.contexts.map answered } ∧
        (a.status = .ok →
          t = (State.refreshTally { s with
            link := t.link
            capture := t.capture
            pool := { s.pool with segs := s.pool.segs.modify p fun sp => { sp with outstanding := sp.outstanding - 1 } } }
            )) ∧
        (a.status = .fault → ∀ sp, s.seg? p = some sp →
          ∃ sp', t.seg? p = some sp' ∧ sp'.counted = true ∧ sp'.outstanding = sp.outstanding - 1 ∧
            sp'.faults = if sp.counted then sp.faults else min (sp.faults + 1) 7))

/-- When the last answer makes the only open context that is not DISCARD ready, it commits. Its check result is latched when it FAILs. Then
its gap causes and, for a PROGRAM, its own entry join the timeline at the next indexes, and its segment becomes LIVE, the mask image on a
PASS, the old image being freed, or FREE; the entry of a PROGRAM is presented; its control entries execute, each that is not empty being
counted in every tap; and its trailing run is appended. When the older of two contexts becomes ready and the newer one was waiting, both
commit, the older one first (R36 to R41, R46, R55, R64, R65, R67, R157, R159). -/
def Obligations.CommitsDeliverTheirSegment : Prop :=
  (∀ (s : State) (a : LinkResponse) (m : MRequest) (ds : List Context) (c : Context) (b : ContextBody) (tag : Fin 64),
    s.link.outstanding.find? (fun x => x.tag == a.tag) = some m → m.op = .write → m.use = .captureWrite b.phys →
    m.draining = false → m.tag = forwardTag tag → a.status = .ok →
    (s.capture.contexts = [c] ∧ ds = [] ∨
      ∃ d, s.capture.contexts = [d, c] ∧ ds = [d] ∧ d.state = .discard ∧ d.body = none ∧ d.slot ≠ c.slot) →
    c.state = .completeWaiting → c.body = some b → b.writesOut = 1 →
    let pass := b.coherence = .clean ∧ b.faultSeen = false ∧ ~~~ b.running = b.header.check
    let p := b.phys
    let gaps := s.capture.pendingRun ++ b.leadRun
    let gapEntries := gaps.zipIdx.map fun x => { gapEntry x.1 with pi := s.timeline.nextPi + BitVec.ofNat 32 x.2 }
    let room := (∃ i, (s.tap i).active = true) ∧ s.timeline.entries.length + gaps.length < 4096
    let unnamed (q : Nat) : Prop := (∀ e ∈ s.timeline.entries, e.phys ≠ some q) ∧ ∀ r ∈ s.quarantine.records, r.phys ≠ q
    let freed (g : Segment) : Segment := { g with state := if g.retirePending then .retired else .free, departure := none }
    ∃ t before : State, exec (.captureWriteResponse a) s = .next t ∧
      t =
        State.refreshTally (State.appendRun
          (State.executeEntries
            (if b.header.kind = .program then before.present before.liveEdge b.header.cutOk else before) b.header.seq b.header.controls)
          b.trailingRun) ∧
      t.capture = { s.capture with contexts := ds, pendingRun := [] } ∧
      before.capture = t.capture ∧ before.link = t.link ∧ before.startUp = s.startUp ∧ before.guardStep = s.guardStep ∧
      (∀ i, (before.tap i).executed = (s.tap i).executed ∧ (before.tap i).report = (s.tap i).report) ∧
      (∀ i, (s.tap i).executed ≤ 255 →
        (t.tap i).executed = min 255 ((s.tap i).executed + (b.header.controls.filter fun e => e.code != 0#8).length)) ∧
      (b.header.kind ≠ .controlOnly → ¬ pass →
        ∀ i, (before.tap i).latch.getLsbD 6 = true ∧ (t.tap i).latch.getLsbD 6 = true) ∧
      (b.header.kind = .maskSource → pass → t.pool.maskImage = some p ∧ t.pool.lmask = b.header.la) ∧
      ((b.header.kind ≠ .maskSource ∨ ¬ pass) → t.pool.maskImage = s.pool.maskImage ∧ t.pool.lmask = s.pool.lmask) ∧
      (b.header.kind = .program → room →
        before =
          { s with
            link := t.link
            capture := t.capture
            timeline :=
              { entries := s.timeline.entries ++ gapEntries ++
                  [{ pi := s.timeline.nextPi + BitVec.ofNat 32 gaps.length, gap := none, seq := some b.header.seq,
                     phys := some p, cutOk := b.header.cutOk, checkPass := some (decide pass), la := b.header.la,
                     lv := b.header.lv, check := b.header.check, withheld := 0#4, origin := none }]
                nextPi := s.timeline.nextPi + BitVec.ofNat 32 (gaps.length + 1) }
            pool := { s.pool with segs := s.pool.segs.modify p fun g => { g with state := .live, outstanding := g.outstanding - 1 } }
            taps := s.taps.map fun x => { x with latch := if pass then x.latch else x.latch ||| 0x40#32 } }) ∧
      (b.header.kind ≠ .program → room → ∀ e rest, s.timeline.entries = e :: rest → serialLt e.pi s.floor = false →
        before.timeline =
          { entries := s.timeline.entries ++ gapEntries, nextPi := s.timeline.nextPi + BitVec.ofNat 32 gaps.length }) ∧
      (b.header.kind ≠ .program → unnamed p → s.pool.maskImage ≠ some p → ∀ g, s.seg? p = some g →
        before.seg? p =
          some
            (if b.header.kind = .maskSource ∧ pass then { g with state := .maskImage, outstanding := g.outstanding - 1 }
             else { freed g with outstanding := g.outstanding - 1 })) ∧
      (b.header.kind = .maskSource → pass → ∀ old g, s.pool.maskImage = some old → old ≠ p → unnamed old → s.seg? old = some g →
        before.seg? old = some (freed g))) ∧
  ∀ (s : State) (a : LinkResponse) (m : MRequest) (o c : Context) (bo bc : ContextBody) (tag : Fin 64),
    s.link.outstanding.find? (fun x => x.tag == a.tag) = some m → m.op = .write → m.use = .captureWrite bo.phys →
    m.draining = false → m.tag = forwardTag tag → a.status = .ok →
    s.capture.contexts = [o, c] → o.slot ≠ c.slot → o.state = .completeWaiting → c.state = .completeWaiting →
    o.body = some bo → c.body = some bc → bo.phys ≠ bc.phys → bo.writesOut = 1 → bc.writesOut = 0 →
    let entryOf (b : ContextBody) (pi : Word) : TimelineEntry :=
      { pi := pi, gap := none, seq := some b.header.seq, phys := some b.phys, cutOk := b.header.cutOk,
        checkPass := some (b.coherence == .clean && !b.faultSeen && ~~~ b.running == b.header.check), la := b.header.la,
        lv := b.header.lv, check := b.header.check, withheld := 0#4, origin := none }
    ∃ t, exec (.captureWriteResponse a) s = .next t ∧ t.capture = { s.capture with contexts := [], pendingRun := [] } ∧
      (bo.header.kind = .program → bc.header.kind = .program →
        (∀ e ∈ bo.header.controls ++ bc.header.controls, e.code = 0#8) →
        s.capture.pendingRun = [] → bo.leadRun = [] → bo.trailingRun = [] → bc.leadRun = [] → bc.trailingRun = [] →
        (∃ i, (s.tap i).active = true) → s.timeline.entries.length + 1 < 4096 →
        t.timeline.entries =
          s.timeline.entries ++ [entryOf bo s.timeline.nextPi, entryOf bc (s.timeline.nextPi + 1#32)] ∧
        t.timeline.nextPi = s.timeline.nextPi + 2#32)

/-- The presentation of a PROGRAM entry at PI `n` to the edit list. A TRAILING drop whose reach lies below `n` closes just below `n` at a cut
point; else it extends its reach to `n`, or closes there ROUGH once its extension count meets the snap reach. A pending cut check of a
CLOSED drop is made by the first entry above its end. An OPEN mask that meets the mask limit closes there or at its reach. Every other
entry is kept, and CLOSED entries that are spent leave (R67, R88 to R90, R93, R101; a closed entry keeps its extension count: log entry
35). -/
def Obligations.PresentationsSettleTheEdits : Prop :=
  ∀ (s : State) (n : Word) (cutOk : Bool) (e : Edit), e ∈ s.edits →
    let t := s.present n cutOk
    let snap := s.store.config.snapReach
    let limit := s.store.config.maskLimit
    let k := min (e.extension + 1) 255
    let closed (z : Word) : Edit := { e with state := .closed, stop := some z, reach := none, limitBase := none }
    let kept (e1 : Edit) : Prop := e1 ∈ t.edits ∨ (e1.state = .closed ∧ s.spent e1 = true)
    let latched (bit : Nat) : Prop := ∀ i, (t.tap i).latch.getLsbD bit = true
    t = { s with edits := t.edits, taps := t.taps } ∧ (∀ i, t.tap i = { s.tap i with latch := (t.tap i).latch }) ∧
      t.edits.length ≤ s.edits.length ∧
      (∀ r, e.state = .trailing → e.reach = some r → serialLe n r = true → kept e) ∧
      (∀ r, e.state = .trailing → e.reach = some r → serialLe n r = false → e.cutPending = false →
        (cutOk = true → kept (closed (n - 1#32))) ∧
        (cutOk = false → k < snap → kept { e with reach := some n, extension := k }) ∧
        (cutOk = false → snap ≤ k →
          kept { closed n with rough := true, extension := k } ∧ (e.rough = false → latched 29))) ∧
      (∀ z, e.state = .closed → e.stop = some z →
        (e.cutPending = false ∨ serialLt z n = false → kept e) ∧
        (e.cutPending = true → serialLt z n = true →
          let rough : Bool := e.rough || !decide (n = z + 1#32 ∧ cutOk = true)
          kept { e with cutPending := false, rough := rough } ∧ (e.rough = false → rough = true → latched 29))) ∧
      (∀ b, e.state = .opened → e.limitBase = some b →
        (serialDiff n b + 1 < limit → kept e) ∧
        ((limit : Int) ≤ serialDiff n b + 1 →
          let z := b + BitVec.ofNat 32 limit - 1#32
          kept (closed (match e.reach with | none => z | some r => serialMax z r)) ∧ latched 19))

/-- A fault is counted once in a residency, up to 7. At the threshold the segment becomes retire-pending, and a FREE one retires at once,
RETIRED being latched in every tap; a RETIRED one has its count raised and nothing further (R49, R50). The model's own: the count of a
RETIRED segment is raised, its retire-pending mark stays as it is, and retirement leaves that mark set (log entry 29). -/
def Obligations.FaultsCountOncePerResidency : Prop :=
  ∀ (s : State) (p : Nat) (g : Segment), s.seg? p = some g →
    (g.counted = true → s.countFault p = s) ∧
    (g.counted = false →
      let n := min (g.faults + 1) 7
      let reached := s.store.config.faultThreshold ≤ n
      (g.state ≠ .free ∨ ¬ reached →
        let g1 : Segment :=
          { g with
            faults := n
            counted := true
            retirePending := g.retirePending || decide (reached ∧ g.state ≠ .retired) }
        s.countFault p = { s with pool := { s.pool with segs := s.pool.segs.set p g1 } }) ∧
      (g.state = .free → reached →
        (s.countFault p).seg? p = some { g with faults := n, counted := true, retirePending := true, state := .retired } ∧
          (s.countFault p).nEff + 1 = s.nEff ∧ (∀ i, ((s.countFault p).tap i).latch.getLsbD 30 = true) ∧
          ∀ q, q ≠ p → (s.countFault p).seg? q = s.seg? q))

/-- The head entry that departs is handed on by Table 27: a pinned segment becomes HELD with its departure record, any other is freed or,
when withheld, offered to the quarantine; a HELD segment whose last pin falls goes the same way by its record. The floor test departs, head
first, exactly the entries below every active tap's bound, or with no active tap all but the last Dmax + 1, and CLOSED edit entries that
every active tap of their mask has reached, or that end below the new head, leave. A forced departure from a full table moves each active
tap below the head to it with FORCED_DEPART, marks the head withheld for those it is dropped for, which then owe a splice (log entry 32), and
departs it; of several marks the lowest tap's gives the origin (log entry 38) (R46 to R48, R69 to R74, R101, R145, R146). -/
def Obligations.DeparturesHandOnTheirSegment : Prop :=
  (∀ (s : State) (e : TimelineEntry) (rest : List TimelineEntry), s.timeline.entries = e :: rest →
    let u : State := { s with timeline := { s.timeline with entries := rest } }
    (e.phys = none → s.departHead = u) ∧
    ∀ p g, e.phys = some p → s.seg? p = some g →
      let r : SegmentRecord :=
        { phys := p, seq := e.seq.getD 0#32, pi := e.pi, la := e.la, lv := e.lv, check := e.check, withheld := e.withheld,
          origin := e.origin }
      (0 < g.pins →
        s.departHead = { u with pool := { s.pool with segs := s.pool.segs.set p { g with state := .held, departure := some r } } }) ∧
      (g.pins = 0 → u.handedAs s.departHead p g r)) ∧
  (∀ (s : State) (p : Nat) (g : Segment), s.seg? p = some g →
    let g1 : Segment := { g with pins := g.pins - 1 }
    let u : State := { s with pool := { s.pool with segs := s.pool.segs.set p g1 } }
    ((g.state ≠ .held ∨ 1 < g.pins) → s.unpin p = u) ∧
    (g.state = .held → g.pins ≤ 1 → ∀ r, g.departure = some r → r.phys = p → u.handedAs (s.unpin p) p g1 r)) ∧
  (∀ s : State, s.timelineOrdered →
    let t := s.settle
    (s.boundsFit → (∃ i, (s.tap i).active = true) →
      t.timeline =
        { s.timeline with
          entries := s.timeline.entries.filter fun e =>
            decide (∃ i, (s.tap i).active = true ∧ serialLe (s.tap i).bound e.pi = true) }) ∧
    (s.segmentsOwned → s.pool.segs.length ≤ 4096 → (∀ i, (s.tap i).active = false) →
      t.timeline = { s.timeline with entries := s.timeline.entries.drop (s.timeline.entries.length - (t.dmax + 1)) }) ∧
    ∀ d, d ∈ t.edits ↔ d ∈ s.edits ∧
      ¬ (d.state = .closed ∧ ∃ z, d.stop = some z ∧
        ((∀ i, (s.tap i).active = true → hasTap d.taps i = true → serialLe z (s.tap i).bound = true) ∨
          ∃ e rest, t.timeline.entries = e :: rest ∧ serialLt z e.pi = true))) ∧
  ∀ (s : State) (e : TimelineEntry) (rest : List TimelineEntry), s.timelineOrdered → s.timeline.entries = e :: rest →
    let moved (i : Fin 4) : Prop := (s.tap i).active = true ∧ serialLt (s.tap i).bound e.pi = true
    let dropped (i : Fin 4) : Bool := s.droppedFor i e.pi
    ∃ (e1 : TimelineEntry) (u : State),
      e1 = { e with withheld := e1.withheld, origin := e1.origin } ∧
      (∀ i, hasTap e1.withheld i = true ↔ hasTap e.withheld i = true ∨ (moved i ∧ dropped i = true)) ∧
      ((e.withheld ≠ 0#4 ∨ ∀ i, ¬ (moved i ∧ dropped i = true)) → e1.origin = e.origin) ∧
      (e.withheld = 0#4 → ∀ i d, moved i → s.dropFor i e.pi = some d → (∀ j, j < i → ¬ (moved j ∧ dropped j = true)) →
        e1.origin = some d.origin) ∧
      u = { s with timeline := { s.timeline with entries := e1 :: rest }, taps := u.taps } ∧
      (∀ i, (moved i → u.tap i =
          { s.tap i with
            bound := e.pi, spliceOwed := (s.tap i).spliceOwed || dropped i, latch := (s.tap i).latch ||| 0x10#32 }) ∧
        (¬ moved i → u.tap i = s.tap i)) ∧
      s.forceDepart = u.departHead.pruneSpent ∧
      ((∃ i, (s.tap i).active = true) → 4096 ≤ s.timeline.entries.length → ∀ x,
        s.append x =
          { s.forceDepart with timeline :=
            { entries := rest ++ [{ x with pi := s.timeline.nextPi }], nextPi := s.timeline.nextPi + 1#32 } })

/-! ### The tap engines -/

/-- A read of an OFF tap is answered at once: the OFF header at offsets 0 to 63 and zeros above, whatever its slot and offset. It changes
no field of the tap, clears neither latch nor report and latches nothing (R112). -/
def Obligations.OffReadsShowTheTap : Prop :=
  ∀ (s : State) (tag : Fin 64) (g : Geometry) (f : InFlight) (i : Fin 4) (j o : Nat),
    s.tapReadWaits tag g f i j o → (s.tap i).state = .off →
    let x := s.tap i
    let report : RefusalReport := x.report.getD ⟨0#8, .accepted, 0#32⟩
    let header : List Byte :=
      [0x51#8, 0x4F#8, 0x55#8, 0x54#8] ++ toLE 4 x.op.toNat ++ zeros 11 ++ [BitVec.ofNat 8 i.val] ++ zeros 16 ++ toLE 4 x.dt ++
        toLE 4 x.latch.toNat ++ toLE 2 x.dropped ++ toLE 2 x.repeats ++ toLE 2 x.shed ++ toLE 2 x.stepErrors ++
        toLE 2 s.quarantine.records.length ++ toLE 1 s.quarantine.lock.value ++ toLE 1 s.edits.length ++ [report.code] ++
        toLE 1 report.result.value ++ toLE 1 x.executed ++ toLE 1 s.pool.patternFailures ++ toLE 4 report.seq.toNat
    let bytes := (List.range f.req.length).map fun n => if o + n < 64 then byteOf header (o + n) else 0#8
    exec (.tapReadArrival tag) s =
      .next (State.refreshTally { s with link :=
        { s.link with inflight := s.link.inflight.map fun y =>
            if y.req.tag = tag then
              { y with
                reserved := []
                parts := 0
                targets := []
                plan := some (headerPlan header o f.req.length)
                phase := .ready
                reply := some ⟨.ok, bytes⟩ }
            else y } })

/-- A read of an active tap at a nonzero offset of a slot that is neither current nor previous is answered at once with zeros; STEP_ERRORS
rises, OUT_OF_STEP is latched in that tap and a step error is owed; its five internal tags become free, and nothing else changes
(R111, R174). -/
def Obligations.OutOfStepReadsReturnZeros : Prop :=
  ∀ (s : State) (tag : Fin 64) (g : Geometry) (f : InFlight) (i : Fin 4) (j o : Nat),
    s.tapReadWaits tag g f i j o → (s.tap i).active = true → 0 < o →
    (∀ b, (s.tap i).current = some b → b.slot ≠ j) → (∀ b, (s.tap i).previous = some b → b.slot ≠ j) →
    let x := s.tap i
    exec (.tapReadArrival tag) s =
      .next (State.refreshTally { s with
        link :=
          { s.link with inflight := s.link.inflight.map fun y =>
              if y.req.tag = tag then
                { y with
                  reserved := []
                  parts := 0
                  targets := []
                  plan := some (zeroPlan o f.req.length)
                  phase := .ready
                  reply := some ⟨.ok, zeros f.req.length⟩ }
              else y }
        taps := s.taps.set i
          { x with
            stepErrors := min (x.stepErrors + 1) 65535
            stepErrorOwed := true
            latch := x.latch ||| (if x.stepErrors = 32767 then 0x18000000#32 else 0x10000000#32) } })

/-- A read of the current or the previous slot is served from that slot's binding by Table 45; it moves no slot, makes no binding and
changes no counter, latch or bound; it may only continue or break the binding's readback check. Each segment's outstanding count rises by
the READs that the plan needs on it (R16, R110, R122, R123, R125; the READs take the reserved tags in order, the segment part first: log
entry 7). -/
def Obligations.ReReadsKeepTheBinding : Prop :=
  ∀ (s : State) (tag : Fin 64) (g : Geometry) (f : InFlight) (i : Fin 4) (j o : Nat) (previous : Bool) (sb : SlotBinding),
    s.tapReadWaits tag g f i j o → (s.tap i).active = true →
    let served (x : Tap) : Option SlotBinding := if previous then x.previous else x.current
    let other (x : Tap) : Option SlotBinding := if previous then x.current else x.previous
    served (s.tap i) = some sb → sb.slot = j → (previous = true → ∀ b, (s.tap i).current = some b → b.slot ≠ j) →
    let b := sb.binding
    let len := f.req.length
    let e := 64 + b.la + b.lv
    let plan := s.bindingPlan b o len
    s.planNames b plan o len ∧ (o < 64 → plan.header = some b.header) ∧
    ∃ (t : State) (sb' : SlotBinding), exec (.tapReadArrival tag) s = .next t ∧ s.readPlanned t tag g i f plan ∧
      served (t.tap i) = some sb' ∧ other (t.tap i) = other (s.tap i) ∧
      t.tap i = { s.tap i with current := (t.tap i).current, previous := (t.tap i).previous } ∧ (∀ u, u ≠ i → t.tap u = s.tap u) ∧
      sb' = { sb with binding := { b with readback := sb'.binding.readback } } ∧
      ((min (o + len) e ≤ max o 64 ∨ b.readback.state ≠ .expecting) → sb' = sb) ∧
      (max o 64 < min (o + len) e → b.readback.state = .expecting →
        (max o 64 = b.readback.next →
          sb'.binding.readback.state = .expecting ∧ sb'.binding.readback.next = min (o + len) e ∧
            sb'.binding.readback.running = b.readback.running) ∧
        (max o 64 ≠ b.readback.next → sb'.binding.readback.state = .broken)) ∧
      t.capture = s.capture ∧ t.timeline = s.timeline ∧ t.edits = s.edits ∧ t.quarantine = s.quarantine ∧ t.store = s.store ∧
      t.guardStep = s.guardStep ∧ t.startUp = s.startUp ∧
      ∀ p, t.seg? p = (s.seg? p).map fun q => { q with outstanding := q.outstanding + plan.readsOn p }

/-- An offset-0 read of a slot of an active tap that is neither current nor previous moves the tap on by exactly one position: the current
binding becomes the previous one unchanged, the new one stands on the read's slot with a 64-byte snapshot that carries the latched events,
the report and the count of commands, and the latch and the report are then empty, whatever the advance's departures raise (log entry
12). The read is served from the new binding by Table 45, its READs raising their segments' outstanding counts and taking the reserved tags
in order (log entry 7), and the references the tap gains and loses move their segments' pins. Other taps keep their positions (R16, R47,
R105, R111, R119 to R123, R160, R172, R173). -/
def Obligations.AdvancesMoveTheTapOn : Prop :=
  ∀ (s : State) (tag : Fin 64) (g : Geometry) (f : InFlight) (i : Fin 4) (j : Nat),
    s.tapReadWaits tag g f i j 0 → (s.tap i).active = true →
    (∀ b, (s.tap i).current = some b → b.slot ≠ j) → (∀ b, (s.tap i).previous = some b → b.slot ≠ j) →
    let x := s.tap i
    ∃ (t : State) (sb : SlotBinding), exec (.tapReadArrival tag) s = .next t ∧
      (t.tap i).op = x.op + 1#32 ∧ (t.tap i).current = some sb ∧ sb.slot = j ∧ sb.binding.op = x.op + 1#32 ∧
      (t.tap i).previous = x.current ∧ (t.tap i).latch = 0#32 ∧ (t.tap i).report = none ∧ (t.tap i).executed = x.executed ∧
      (t.tap i).stepErrorOwed = false ∧ sb.binding.flags.outOfStep = x.stepErrorOwed ∧
      (let h := sb.binding.header
       h.length = 64 ∧ h.take 8 = [0x51#8, 0x4F#8, 0x55#8, 0x54#8] ++ toLE 4 (x.op + 1#32).toNat ∧
         field h 8 4 = (sb.binding.srcSeq.getD 0#32).toNat ∧ field h 12 4 = (sb.binding.srcPi.getD 0#32).toNat ∧
         field h 28 4 = (if sb.binding.masked = true ∨ sb.binding.kind = .fill then 0 else sb.binding.check.toNat) ∧
         field h 16 1 = sb.binding.kind.value ∧ field h 17 1 = sb.binding.flags.value ∧ field h 19 1 = i.val ∧
         (∀ n, n < 32 → x.latch.getLsbD n = true → (field h 40 4).testBit n = true) ∧
         field h 56 1 = (match x.report with | none => 0 | some r => r.code.toNat) ∧
         field h 57 1 = (match x.report with | none => 0 | some r => r.result.value) ∧
         field h 60 4 = (match x.report with | none => 0 | some r => r.seq.toNat) ∧ field h 58 1 = x.executed % 256) ∧
      (∃ plan : FillPlan, plan.header = some sb.binding.header ∧ s.planNames sb.binding plan 0 f.req.length ∧
        s.readPlanned t tag g i f plan ∧
        ∀ p q, s.seg? p = some q → ∃ q', t.seg? p = some q' ∧ q'.outstanding = q.outstanding + plan.readsOn p ∧
          q'.pins = q.pins + (t.tap i).pinsTaken sb.binding p - x.pinsDropped sb.binding p) ∧
      t.capture = s.capture ∧ t.guardStep = s.guardStep ∧
      ∀ u, u ≠ i →
        (t.tap u).state = (s.tap u).state ∧ (t.tap u).op = (s.tap u).op ∧ (t.tap u).bound = (s.tap u).bound ∧
          (t.tap u).current = (s.tap u).current ∧ (t.tap u).previous = (s.tap u).previous ∧
          (t.tap u).repeatSource = (s.tap u).repeatSource ∧ (t.tap u).repeats = (s.tap u).repeats ∧
          (t.tap u).dropped = (s.tap u).dropped

/-- An advance of a PRIMING tap below its target serves FILL and holds the tap; an advance of a RUN tap, or of a PRIMING tap at its target,
that finds nothing to play underruns in RUN: it repeats the repeat source or fills, keeps the bound, the accumulator and a splice that is
owed, raises REPEATS and the underrun run, marks what it passed over, and stalls at the stall limit (R68, R113, R114, R115, R118, R134,
R140). -/
def Obligations.PrimingFillsAndEmptySearchesUnderrun : Prop :=
  ∀ (s : State) (tag : Fin 64) (g : Geometry) (f : InFlight) (i : Fin 4) (j : Nat),
    s.tapReadWaits tag g f i j 0 →
    (∀ b, (s.tap i).current = some b → b.slot ≠ j) → (∀ b, (s.tap i).previous = some b → b.slot ≠ j) →
    let x := s.tap i
    ((x.state = .priming ∧ s.delay i < x.dt) →
      ∃ (t : State) (sb : SlotBinding), exec (.tapReadArrival tag) s = .next t ∧ (t.tap i).current = some sb ∧
        sb.binding.kind = .fill ∧ sb.binding.phys = none ∧
        sb.binding.flags = { ServedFlags.none with outOfStep := x.stepErrorOwed } ∧ (t.tap i).state = .priming ∧
        (t.tap i).bound = x.bound ∧ (t.tap i).mode = .build ∧ (t.tap i).acc = x.acc ∧ (t.tap i).sinceLast = x.sinceLast ∧
        (t.tap i).repeats = x.repeats ∧ (t.tap i).dropped = x.dropped ∧ (t.tap i).shed = x.shed ∧
        (t.tap i).underrunRun = x.underrunRun) ∧
    (x.state = .run ∨ (x.state = .priming ∧ x.dt ≤ s.delay i) →
      (∀ e ∈ s.timeline.entries, serialLt x.bound e.pi = true → s.droppedFor i e.pi = true) →
      let n := min (x.underrunRun + 1) 255
      ∃ (t : State) (sb : SlotBinding), exec (.tapReadArrival tag) s = .next t ∧ (t.tap i).current = some sb ∧
        (∀ r, x.repeatSource = some r →
          sb.binding.kind = .repeated ∧ sb.binding.phys = some r.phys ∧ sb.binding.srcPi = some r.pi ∧
            sb.binding.srcSeq = some r.seq ∧ sb.binding.la = r.la ∧ sb.binding.lv = r.lv ∧ sb.binding.masked = r.masked ∧
            sb.binding.flags =
              { ServedFlags.none with underrun := true, masked := r.masked, outOfStep := x.stepErrorOwed }) ∧
        (x.repeatSource = none →
          sb.binding.kind = .fill ∧ sb.binding.phys = none ∧
            sb.binding.flags = { ServedFlags.none with underrun := true, outOfStep := x.stepErrorOwed }) ∧
        (t.tap i).state = .run ∧ (t.tap i).bound = x.bound ∧ (t.tap i).acc = x.acc ∧
        (t.tap i).sinceLast = min (x.sinceLast + 1) 255 ∧ (t.tap i).mode = (if 0 < x.dt then .build else .steady) ∧
        (t.tap i).repeats = min (x.repeats + 1) 65535 ∧ (t.tap i).underrunRun = n ∧
        (t.tap i).stalled = (x.stalled || decide (s.store.config.stallLimit ≤ n)) ∧ (t.tap i).repeatSource = x.repeatSource ∧
        (t.tap i).spliceOwed = x.spliceOwed ∧ s.passes t i sb.binding (s.above x.bound) ∧
        (x.underrunRun = 0 → (field sb.binding.header 40 4).testBit 0 = true) ∧
        (x.stalled = false → s.store.config.stallLimit ≤ n → (field sb.binding.header 40 4).testBit 1 = true))

/-- What a tap serves as PROGRAM is an entry above its old bound that no DROP applying to the tap covers, its bound becomes that entry, and
its audio is masked exactly when a MASK covers the entry for the tap; an entry that failed its check is served only under policy SERVE
(R82, R111, R114, R117). -/
def Obligations.ProgramIsUndroppedAndAboveTheBound : Prop :=
  ∀ (s t : State) (tag : Fin 64) (g : Geometry) (f : InFlight) (i : Fin 4) (j : Nat) (sb : SlotBinding),
    s.tapReadWaits tag g f i j 0 → (s.tap i).active = true →
    (∀ b, (s.tap i).current = some b → b.slot ≠ j) → (∀ b, (s.tap i).previous = some b → b.slot ≠ j) →
    exec (.tapReadArrival tag) s = .next t → (t.tap i).current = some sb → sb.binding.kind = .program →
    ∃ e ∈ s.timeline.entries, serialLt (s.tap i).bound e.pi = true ∧ s.droppedFor i e.pi = false ∧
      sb.binding.srcPi = some e.pi ∧ sb.binding.srcSeq = e.seq ∧ sb.binding.phys = e.phys ∧ e.phys ≠ none ∧
      sb.binding.la = e.la ∧ sb.binding.lv = e.lv ∧ sb.binding.check = e.check ∧
      (t.tap i).bound = e.pi ∧ (t.tap i).state = .run ∧ sb.binding.masked = s.maskedFor i e.pi ∧
      sb.binding.flags.masked = sb.binding.masked ∧
      (e.checkPass = some false → s.store.config.checkPolicy = .serve ∧ sb.binding.flags.checkFail = true)

/-- The pacer at an advance with a candidate `c` of a RUN tap, or of a PRIMING tap whose d has reached Dt, which enters RUN: Table 47.
STEADY binds `c` and empties the accumulator; a due INSERT repeats and leaves the bound; a due SHED passes `c` over and binds the next
undropped entry, a cut point; any other BUILD or SHED advance binds `c`. An entry is bound by Table 44: a gap entry, and under policy REPEAT
one that failed its check, is answered from the repeat source with GAP or CHECK_FAIL, any other is served as PROGRAM, masked as the edits
say, and becomes the repeat source; SPLICE and ROUGH follow what was passed over, which is marked withheld, but for the `c` of a SHED
(R47, R68, R113, R114, R116 to R119, R121, R125, R134 to R139). -/
def Obligations.PacerFollowsItsTable : Prop :=
  ∀ (s : State) (tag : Fin 64) (g : Geometry) (f : InFlight) (i : Fin 4) (j : Nat) (passed after : List TimelineEntry)
    (c : TimelineEntry),
    s.tapReadWaits tag g f i j 0 →
    ((s.tap i).state = .run ∨ ((s.tap i).state = .priming ∧ (s.tap i).dt ≤ s.delay i)) →
    (∀ b, (s.tap i).current = some b → b.slot ≠ j) → (∀ b, (s.tap i).previous = some b → b.slot ≠ j) →
    s.above (s.tap i).bound = passed ++ c :: after → (∀ e ∈ passed, s.droppedFor i e.pi = true) → s.droppedFor i c.pi = false →
    let x := s.tap i
    let w := s.settings i
    let d := s.delay i
    let sum := x.acc + w.k
    let ready := w.p ≤ sum ∧ w.g ≤ x.sinceLast
    let shedTo (between : List TimelineEntry) (c2 : TimelineEntry) : Prop :=
      (∃ rest, after = between ++ c2 :: rest) ∧ (∀ e ∈ between, s.droppedFor i e.pi = true) ∧ s.droppedFor i c2.pi = false ∧
        c2.cutOk = true
    ∃ (t : State) (sb : SlotBinding), exec (.tapReadArrival tag) s = .next t ∧ (t.tap i).current = some sb ∧
      let binds (y : TimelineEntry) (adjust : Bool) (skipped : List TimelineEntry) : Prop :=
        s.bindsAs i y adjust (!skipped.isEmpty || x.spliceOwed) f.req.length (t.tap i) sb.binding ∧ s.passes t i sb.binding skipped
      (t.tap i).state = .run ∧ (t.tap i).underrunRun = 0 ∧ (t.tap i).stalled = false ∧
      (d = x.dt →
        (t.tap i).mode = .steady ∧ binds c false passed ∧ (t.tap i).acc = 0 ∧ (t.tap i).sinceLast = min (x.sinceLast + 1) 255 ∧
          (t.tap i).shed = x.shed) ∧
      (d < x.dt → (t.tap i).mode = .build) ∧ (x.dt < d → (t.tap i).mode = .shed) ∧
      (d < x.dt → ready → ∀ r, x.repeatSource = some r →
        x.repeatsAs { ServedFlags.none with adjust := true, outOfStep := x.stepErrorOwed } sb.binding ∧
          (t.tap i).bound = x.bound ∧ (t.tap i).acc = sum - w.p ∧ (t.tap i).sinceLast = 0 ∧ (t.tap i).shed = x.shed ∧
          (t.tap i).repeats = min (x.repeats + 1) 65535 ∧ (t.tap i).repeatSource = some r ∧
          (t.tap i).spliceOwed = x.spliceOwed ∧ s.passes t i sb.binding passed) ∧
      (x.dt < d → ready → ∀ between c2, shedTo between c2 →
        binds c2 true (passed ++ between) ∧ (t.tap i).acc = sum - w.p ∧ (t.tap i).sinceLast = 0 ∧
          (t.tap i).shed = min (x.shed + 1) 65535) ∧
      (((d < x.dt ∧ ¬ (ready ∧ x.repeatSource ≠ none)) ∨ (x.dt < d ∧ ¬ (ready ∧ ∃ between c2, shedTo between c2))) →
        binds c false passed ∧ (t.tap i).acc = min sum w.p ∧ (t.tap i).sinceLast = min (x.sinceLast + 1) 255 ∧
          (t.tap i).shed = x.shed)

/-- The M-side READs of a fill plan are at most five, each legal on the link, and when all of them have answered, in whatever order, every
byte of the burst is the one its source names: the header's, the segment's, the mask image's or zero (R12, R13, R14). -/
def Obligations.SplitReadsReturnTheNamedBytes : Prop :=
  ∀ (f : FillPlan),
    (f.offset % 64 = 0 → f.length % 64 = 0 → f.offset % 1024 + f.length ≤ 1024 →
      (∀ r, f.segment = some r → f.offset ≤ r.lo ∧ r.lo < r.hi ∧ r.hi ≤ f.offset + f.length) →
      (∀ m, f.mask = some m → f.offset ≤ m.lo ∧ m.lo < m.hi ∧ m.hi ≤ f.offset + f.length ∧ 64 ≤ m.lo ∧ 0 < m.lmask) →
      f.reads.length ≤ 5 ∧
        ∀ r ∈ f.reads, r.base % 64 = 0 ∧ r.length % 64 = 0 ∧ 0 < r.length ∧ r.base % 1024 + r.length ≤ 1024) ∧
    ∀ (mem : Nat → Nat → Byte) (received : List PartData),
      (∀ r, f.segment = some r → r.lo < r.hi) → (∀ m, f.mask = some m → 64 ≤ m.lo ∧ m.lo < m.hi ∧ 0 < m.lmask) →
      let bytes (p lo n : Nat) : List Byte := (List.range n).map fun k => mem p (lo + k)
      let part (r : PartRead) : PartData :=
        if r.isMask then ⟨true, r.lo, bytes r.phys r.lo (r.hi - r.lo)⟩ else ⟨false, r.base, bytes r.phys r.base r.length⟩
      (∀ d ∈ received, ∃ r ∈ f.reads, d = part r) → (∀ r ∈ f.reads, part r ∈ received) →
      ∀ n, f.offset ≤ n → n < f.offset + f.length →
        f.byteAt received n =
          match f.source n with
          | .header k => byteOf (f.header.getD []) k
          | .segment p k => mem p k
          | .mask p k => mem p k
          | .zero => 0#8

/-- A review read of a slot that holds no record is answered at once with the empty header and zeros; one of a record is planned from the
record's segment with the record's header, by at most one M-side READ. Neither changes a record, the lock, a latch or a report
(R22, R152, R153, R154; the READ takes the first reserved tag: log entry 7). -/
def Obligations.ReviewReadsShowTheRecord : Prop :=
  ∀ (s : State) (tag : Fin 64) (g : Geometry) (f : InFlight) (j o : Nat),
    s.link.geometry = some g → s.arriving tag .review = some f → windowOf (g.slotOf f.req.addr) = .review j →
    g.offsetOf f.req.addr = o →
    let len := f.req.length
    (s.quarantine.records[j]? = none →
      let header : List Byte :=
        [0x51#8, 0x4F#8, 0x55#8, 0x54#8] ++ zeros 15 ++ [0xFF#8] ++ zeros 12 ++ toLE 4 j ++ zeros 28
      exec (.reviewReadArrival tag) s =
        .next { s with link :=
          { s.link with inflight := s.link.inflight.map fun y =>
              if y.req.tag = tag then
                { y with
                  reserved := []
                  parts := 0
                  targets := []
                  plan := some (headerPlan header o len)
                  phase := .ready
                  reply := some ⟨.ok, (List.range len).map fun n => if o + n < 64 then byteOf header (o + n) else 0#8⟩ }
              else y } }) ∧
    (∀ r, s.quarantine.records[j]? = some r →
      let header : List Byte :=
        [0x51#8, 0x4F#8, 0x55#8, 0x54#8] ++ zeros 4 ++ toLE 4 r.seq.toNat ++ toLE 4 r.pi.toNat ++ [3#8, 0#8, 0#8, 0xFF#8] ++
          toLE 4 r.la ++ toLE 4 r.lv ++ toLE 4 r.check.toNat ++ toLE 4 j ++
          toLE 4 (r.withheld.toNat + if r.origin = some .inband then 256 else 0) ++ zeros 24
      ∃ (t : State) (plan : FillPlan), exec (.reviewReadArrival tag) s = .next t ∧
        (∀ n, o ≤ n → n < o + len → plan.source n =
          if n < 64 then .header n else if n < 64 + r.la + r.lv then .segment r.phys n else .zero) ∧
        (o < 64 → plan.header = some header) ∧ plan.reads.length ≤ 1 ∧
        t = { s with link := t.link, pool := t.pool } ∧
        t.link =
          { s.link with
            planned := s.link.planned ++
              List.zipWith (partRequest g fun q => .reviewPart tag q.phys q.base) plan.reads f.reserved
            inflight := t.link.inflight } ∧
        (∃ f', t.entry tag = some f' ∧ f'.plan = some plan ∧ f'.parts = plan.reads.length ∧ f'.reserved = [] ∧
          (plan.reads = [] → f'.phase = .ready ∧ f'.reply = some ⟨.ok, plan.compose []⟩)) ∧
        t.pool =
          { s.pool with segs := s.pool.segs.modify r.phys fun q =>
              { q with outstanding := q.outstanding + plan.reads.length } })

/-- The answer of a part is taken into its read: the last one composes the response, OK from the plan, or FAULT with zeros when any part
faulted. A FAULT counts at most one fault on the segment, and on a segment part of a tap read latches READBACK_FAIL in that tap and breaks
the check of a binding that awaits it. Data that a binding's readback check awaits is taken in, in the order in which its reads arrived;
when the last of the payload is in, the check is COMPLETE and a word other than CHECK latches READBACK_FAIL; data that no check awaits
leaves the tap as it is. The model's own: the offset and word of a BROKEN or COMPLETE check (log entry 40) (R13, R14, R16, R49, R123,
R125, R126, R127, R153). -/
def Obligations.PartAnswersComposeTheResponse : Prop :=
  ∀ (s : State) (a : LinkResponse) (m : MRequest) (tag : Fin 64) (f : InFlight) (plan : FillPlan) (seg : Nat) (part : PartData)
    (tap : Option (Fin 4)) (cmd : Instr),
    s.link.outstanding.find? (fun x => x.tag == a.tag) = some m → m.draining = false → m.op = .read → a.data.length = m.length →
    s.entry tag = some f → f.plan = some plan → 0 < f.parts →
    ((∃ i base, m.use = .tapSegment tag i seg base ∧ cmd = .tapSegmentPartResponse a ∧ part = ⟨false, base, a.data⟩ ∧
        tap = some i) ∨
      (∃ base lo hi, m.use = .maskPart tag seg base lo hi ∧ cmd = .maskPartResponse a ∧
        part = ⟨true, lo, (a.data.drop (lo - base)).take (hi - lo)⟩ ∧ tap = none) ∨
      (∃ base, m.use = .reviewPart tag seg base ∧ cmd = .reviewPartResponse a ∧ part = ⟨false, base, a.data⟩ ∧ tap = none)) →
    let faulted : Bool := f.faultSeen || a.status == .fault
    ∃ (t : State) (f' : InFlight), exec cmd s = .next t ∧ t.entry tag = some f' ∧
      f'.parts = f.parts - 1 ∧ f'.faultSeen = faulted ∧ f'.received = f.received ++ [part] ∧ f'.req = f.req ∧
      (f.parts = 1 → f'.phase = .ready ∧
        f'.reply = some (if faulted then ⟨.fault, zeroData f.req⟩ else ⟨.ok, plan.compose (f.received ++ [part])⟩)) ∧
      (1 < f.parts → f'.phase = f.phase ∧ f'.reply = f.reply) ∧ (∀ u, u ≠ tag → t.entry u = s.entry u) ∧
      t.link.outstanding = s.link.outstanding.filter (fun x => x.tag != m.tag) ∧ t.link.planned = s.link.planned ∧
      t.link.lastReturned = s.link.lastReturned ∧ t.capture = s.capture ∧ t.guardStep = s.guardStep ∧
      (a.status = .ok →
        t.pool = { s.pool with segs := s.pool.segs.modify seg fun q => { q with outstanding := q.outstanding - 1 } } ∧
          t.timeline = s.timeline ∧ t.edits = s.edits ∧ t.quarantine = s.quarantine ∧
          (∀ u, tap ≠ some u → t.tap u = s.tap u) ∧
          ∀ i, t.tap i =
            { s.tap i with current := (t.tap i).current, previous := (t.tap i).previous, latch := (t.tap i).latch }) ∧
      (∀ i base, tap = some i → m.use = .tapSegment tag i seg base → ∀ previous : Bool,
        let served (x : Tap) : Option SlotBinding := if previous then x.previous else x.current
        let other (x : Tap) : Option SlotBinding := if previous then x.current else x.previous
        let awaits (sb : SlotBinding) : Prop :=
          sb.binding.readback.state = .expecting ∧ ∃ c ∈ sb.binding.readback.chunks, c.tag = tag ∧ c.bytes = none
        ((∀ sb, served (s.tap i) = some sb → ¬ awaits sb) → served (t.tap i) = served (s.tap i)) ∧
        ((∀ sb, served (s.tap i) = some sb ∨ other (s.tap i) = some sb → ¬ awaits sb) → a.status = .ok → t.tap i = s.tap i) ∧
        ∀ sb, served (s.tap i) = some sb → awaits sb →
          let b := sb.binding
          let put (r : Readback) : Option SlotBinding := some { sb with binding := { b with readback := r } }
          let filled (c : ReadbackChunk) : Option (List Byte) :=
            if c.tag = tag ∧ c.bytes = none then some ((a.data.drop (c.lo - base)).take (c.hi - c.lo)) else c.bytes
          (a.status = .fault → served (t.tap i) = put { state := .broken, next := 0, running := 0#32, chunks := [] }) ∧
          (a.status = .ok → ∀ datas : List (List Byte), b.readback.chunks.map filled = datas.map some →
            let word := crcRun b.readback.running datas.flatten
            let complete := b.readback.next = 64 + b.la + b.lv
            served (t.tap i) =
                put { state := if complete then .complete else .expecting, next := b.readback.next, running := word, chunks := [] } ∧
              ((∀ sb', other (s.tap i) = some sb' → ¬ awaits sb') →
                (t.tap i).latch = (s.tap i).latch ||| if complete ∧ ~~~ word ≠ b.check then 0x20#32 else 0#32))) ∧
      (a.status = .fault →
        (∀ i, tap = some i → (t.tap i).latch.getLsbD 5 = true) ∧
          ∀ q, s.seg? seg = some q → ∃ q', t.seg? seg = some q' ∧ q'.counted = true ∧ q'.outstanding = q.outstanding - 1 ∧
            q'.faults = if q.counted then q.faults else min (q.faults + 1) 7)

/-! ### The pattern test -/

/-- PATTERN TEST is refused while a run is on and when its range is empty or begins past the pool; else the run starts on the first
allocatable segment of its range, cut at N with CLAMPED, or ends at once with PATTERN_DONE. The run issues its next write, and when every
write has answered its next read, of 1024 bytes in ascending offset, while the M-side accepts, the pattern test holds fewer than eight
tags, an aborted run's among them, and six are free; otherwise, and after a failure, it waits (R4, R15, R16, R44, R56, R57, R58). -/
def Obligations.PatternRunIssuesWithinItsTags : Prop :=
  (∀ (s : State) (q : Word) (e : ControlEntry), e.code = 0x1C#8 →
    let t := State.executeEntry q s e
    let n := s.pool.segs.length
    let stop := min (e.argB.toNat + e.argA.toNat) n
    let result : CmdResult := if n < e.argB.toNat + e.argA.toNat then .clamped else .accepted
    let testable (p : Nat) : Prop := e.argB.toNat ≤ p ∧ p < stop ∧ ∃ sp, s.seg? p = some sp ∧ sp.state = .free ∧ sp.outstanding = 0
    (s.pool.pattern ≠ none → t = s.resulted e q .refusedBusy) ∧
    (s.pool.pattern = none →
      ((n ≤ e.argB.toNat ∨ e.argA = 0#16) → t = s.resulted e q .refusedRange) ∧
      (e.argB.toNat < n → e.argA ≠ 0#16 →
        (∀ p, testable p → (∀ p', p' < p → ¬ testable p') →
          t =
            State.resulted { s with
              pool :=
                { s.pool with
                  pattern := some
                    { cursor := p, stop := stop, writesIssued := 0, writesAnswered := 0, readsIssued := 0, readsAnswered := 0,
                      failed := false }
                  segs := s.pool.segs.modify p fun sp => { sp with state := .testing, counted := false } } } e q result) ∧
        ((∀ p, ¬ testable p) → t = State.resulted { s with taps := s.latching fun _ => 0x4000000#32 } e q result)))) ∧
  ∀ (s : State) (r : PatternRun) (g : Geometry), s.pool.pattern = some r → s.link.geometry = some g →
    let blocks := g.segSize / 1024
    let held := s.link.outstanding.filter fun m =>
      match m.use with
      | .patternWrite _ => true
      | .patternRead _ _ => true
      | _ => false
    let free := s.link.mHoldOff = false ∧ held.length < 8 ∧ 6 ≤ s.freeTags.length
    let issued (m : MRequest) (r1 : PatternRun) : State :=
      { s with
        link := { s.link with outstanding := s.link.outstanding ++ [m] }
        pool :=
          { s.pool with
            pattern := some r1
            segs := s.pool.segs.modify r.cursor fun q => { q with outstanding := q.outstanding + 1 } } }
    (free → r.failed = false → ∃ tag : Fin 128, 64 ≤ tag.val ∧ s.tagFree tag = true ∧
      (r.writesIssued < blocks →
        exec .patternRequestIssue s =
          .next (issued
            { tag := tag, op := .write,
              addr := BitVec.ofNat 40 (g.backingBase.toNat + r.cursor * g.segSize + 1024 * r.writesIssued), length := 1024,
              data := patternBytes r.cursor (1024 * r.writesIssued) 1024, use := .patternWrite r.cursor, draining := false }
            { r with writesIssued := r.writesIssued + 1 })) ∧
      (r.writesIssued = blocks → r.writesAnswered = r.writesIssued → r.readsIssued < blocks →
        exec .patternRequestIssue s =
          .next (issued
            { tag := tag, op := .read,
              addr := BitVec.ofNat 40 (g.backingBase.toNat + r.cursor * g.segSize + 1024 * r.readsIssued), length := 1024,
              data := [], use := .patternRead r.cursor (1024 * r.readsIssued), draining := false }
            { r with readsIssued := r.readsIssued + 1 }))) ∧
    ((¬ free ∨ r.failed = true ∨ (r.writesIssued = blocks ∧ (r.writesAnswered ≠ r.writesIssued ∨ r.readsIssued = blocks))) →
      exec .patternRequestIssue s = .next s)

/-- An answer to the pattern run: a FAULT or differing data fails the segment. Once every issued request has answered, a failed segment is
RETIRED with its fault count at the threshold, RETIRED latched and the failure count raised, and one whose reads are all in is FREE again;
the run then goes on to the next allocatable segment of its range or ends with PATTERN_DONE. The cursor moves on, or the run ends, before the
departures that a failing verdict's lower Dmax brings (log entry 21) (R57, R58). -/
def Obligations.PatternAnswersDecideTheSegment : Prop :=
  ∀ (s : State) (a : LinkResponse) (m : MRequest) (r : PatternRun) (g : Geometry) (sp : Segment),
    s.link.outstanding.find? (fun x => x.tag == a.tag) = some m → m.draining = false → s.pool.pattern = some r →
    s.link.geometry = some g → s.seg? r.cursor = some sp → sp.retirePending = false →
    ((m.op = .write ∧ m.use = .patternWrite r.cursor) ∨
      (m.op = .read ∧ a.data.length = m.length ∧ ∃ base, m.use = .patternRead r.cursor base)) →
    (∀ e ∈ s.timeline.entries, e.phys ≠ some r.cursor) → (∀ q ∈ s.quarantine.records, q.phys ≠ r.cursor) →
    let differs : Bool :=
      match m.use with
      | .patternRead _ base => a.data != patternBytes r.cursor base m.length
      | _ => false
    let failed : Bool := r.failed || a.status == .fault || differs
    let r1 : PatternRun :=
      { r with
        writesAnswered := r.writesAnswered + if m.op = .write then 1 else 0
        readsAnswered := r.readsAnswered + if m.op = .read then 1 else 0
        failed := failed }
    let decided := r1.writesAnswered = r.writesIssued ∧ r1.readsAnswered = r.readsIssued ∧
      (failed = true ∨ r1.readsAnswered = g.segSize / 1024)
    let link : Interposer := { s.link with outstanding := s.link.outstanding.filter fun x => x.tag != m.tag }
    (¬ decided →
      exec (.patternResponse a) s =
        .next (State.refreshTally { s with
          link := link
          pool :=
            { s.pool with
              pattern := some r1
              segs := s.pool.segs.modify r.cursor fun q => { q with outstanding := q.outstanding - 1 } } })) ∧
    (decided → ∃ t, exec (.patternResponse a) s = .next t ∧ t.link = link ∧ t.capture = s.capture ∧
      (failed = true →
        t.pool.patternFailures = min (s.pool.patternFailures + 1) 255 ∧ (∀ i, (t.tap i).latch.getLsbD 30 = true) ∧
          ∃ q, t.seg? r.cursor = some q ∧ q.state = .retired ∧ q.faults = s.store.config.faultThreshold) ∧
      (failed = false →
        t.pool.patternFailures = s.pool.patternFailures ∧
          ∃ q, t.seg? r.cursor = some q ∧ q.state = .free ∧ q.faults = sp.faults ∧ q.outstanding = sp.outstanding - 1) ∧
      (∀ p q, r.cursor < p → p < r.stop → s.seg? p = some q → q.state = .free → q.outstanding = 0 →
        (∀ p' q', r.cursor < p' → p' < p → s.seg? p' = some q' → ¬ (q'.state = .free ∧ q'.outstanding = 0)) →
        t.pool.pattern = some (PatternRun.start p r.stop)) ∧
      ((∀ p q, r.cursor < p → p < r.stop → s.seg? p = some q → ¬ (q.state = .free ∧ q.outstanding = 0)) →
        t.pool.pattern = none ∧ ∀ i, (t.tap i).latch.getLsbD 26 = true))

/-! ### The panel -/

/-- A change of a panel line's level begins or restarts its debounce interval once start-up has ended; the first debounced state is
adopted without an event; and a release of DUMP, ENTER or EXIT is taken and has no effect (R176; log entry 27 for a change to the level
the line has). An ENTER press sets Dt to De, and an EXIT press sets Dt to 0, for each panel tap, and neither changes anything else (R131).
BUILD_BLINK_TOGGLE turns the phase of the timer that a lit BUILD line follows (R179). -/
def Obligations.PanelLinesDebounce : Prop :=
  (∀ (s : State) (l : PanelLine),
    (∀ pressed, (s.line l).raw ≠ pressed →
      ∃ t, exec (.panelLineChange l pressed) s = .next t ∧
        t.line l = { raw := pressed, debounced := (s.line l).debounced, interval := decide (s.startUp.phase = .running) } ∧
        (∀ k, k ≠ l → t.line k = s.line k) ∧
        t = { s with panel := { t.panel with tallies := s.panel.tallies, blink := s.panel.blink } }) ∧
    (∀ pressed, (s.line l).raw = pressed → exec (.panelLineChange l pressed) s = .next s) ∧
    (s.startUp.phase = .running → (s.line l).interval = true →
      ((s.line l).debounced = none →
        ∃ t, exec (.panelInitialState l) s = .next t ∧
          t.line l = { raw := (s.line l).raw, debounced := some (s.line l).raw, interval := false } ∧
          (∀ k, k ≠ l → t.line k = s.line k) ∧
          t = { s with panel := { t.panel with tallies := s.panel.tallies, blink := s.panel.blink } }) ∧
      (l ≠ .mask → (s.line l).raw = false → (s.line l).debounced = some true →
        ∃ t, exec (.panelRelease l) s = .next t ∧
          t.line l = { raw := false, debounced := some false, interval := false } ∧
          (∀ k, k ≠ l → t.line k = s.line k) ∧
          t = { s with panel := { t.panel with tallies := s.panel.tallies, blink := s.panel.blink } }))) ∧
  (∀ s : State, s.startUp.phase = .running →
    let aim (dt : Fin 4 → Nat) : PerTap Tap :=
      let one (i : Fin 4) : Tap := if hasTap s.store.config.panelTaps i then { s.tap i with dt := dt i } else s.tap i
      ⟨one 0, one 1, one 2, one 3⟩
    let pressed : LineState := { raw := true, debounced := some false, interval := true }
    let taken : LineState := { raw := true, debounced := some true, interval := false }
    (s.panel.enterLine = pressed →
      exec .enterPress s =
        .next (State.refreshTally { s with
          panel := { s.panel with enterLine := taken }, taps := aim fun i => (s.settings i).de })) ∧
    (s.panel.exitLine = pressed →
      exec .exitPress s =
        .next (State.refreshTally { s with panel := { s.panel with exitLine := taken }, taps := aim fun _ => 0 }))) ∧
  ∀ s : State, ∃ t, exec .buildBlinkToggle s = .next t ∧ t = { s with panel := { s.panel with blink := !s.panel.blink } } ∧
    ((s.panel.tallies.build = true → t.tallyPins[1]? ≠ s.tallyPins[1]?) ∧
      (s.panel.tallies.build = false → t.tallyPins = s.tallyPins))

/-- A DUMP press: DUMP_EMPTY when the panel taps are none or everything above the panel floor is already dropped for all of them; else a
DROP for the panel taps that reaches back over the last dump-length entries above the floor not yet dropped for all of them, TRAILING
from the live edge on, or CLOSED there with its cut check pending when the snap reach is 0. It is added, or merged with an entry that it
meets; on a list that is full for it, the newest DROP, else the newest MASK in the form of a DROP (an OPEN one ends at its reach or the
live edge: log entry 25), is widened with it and EDIT_WIDENED is latched. It is late for the taps bound in it, and spent entries leave
(R83 to R87, R98, R101). -/
def Obligations.DumpPressesDropBehindTheLiveEdge : Prop :=
  ∀ (s : State) (floor : Word), s.startUp.phase = .running →
    s.panel.dumpLine = { raw := true, debounced := some false, interval := true } →
    1 ≤ s.store.config.dumpLength → s.panelFloorIs floor →
    let s1 : State :=
      { s with panel := { s.panel with dumpLine := { raw := true, debounced := some true, interval := false } } }
    let mask := s.store.config.panelTaps
    let ahead := s.above floor
    let undropped := ahead.filter fun e => !((tapsOf mask).all fun i => s.droppedFor i e.pi)
    let trailing : Bool := decide (0 < s.store.config.snapReach)
    ((mask = 0#4 ∨ ∀ e ∈ ahead, ∀ i, hasTap mask i = true → s.droppedFor i e.pi = true) →
      exec .dumpPress s =
        .next (State.refreshTally { s1 with taps := s.taps.map fun x => { x with latch := x.latch ||| 0x100000#32 } })) ∧
    (mask ≠ 0#4 → ∀ first, undropped[undropped.length - min s.store.config.dumpLength undropped.length]? = some first →
      let new : Edit :=
        { id := 0, kind := .drop, state := if trailing then .trailing else .closed, start := first.pi,
          stop := if trailing then none else some s.liveEdge, reach := if trailing then some s.liveEdge else none,
          limitBase := none, taps := mask, origin := .panel, rough := false, extension := 0, cutPending := !trailing }
      let full := 32 ≤ s.edits.length ∧ ∀ x ∈ s.edits, ¬ new.touches x
      ∀ wide : Bool, (wide = true ↔ full) → ∃ t, exec .dumpPress s = .next t ∧
        t = State.refreshTally { s1 with
          edits := t.edits
          taps := s.latching fun i => s.lateBit new i ||| if wide then 0x200000#32 else 0#32 } ∧
        (∀ x ∈ t.edits, s.spent x = false) ∧ s.takesRange new t.edits ∧
        (s.edits = [] → trailing = true → t.edits = [new]) ∧
        (full → t.edits.length ≤ s.edits.length ∧
          (∀ w, s.newestIs w → w.kind = .drop → s.widensTo new w w t.edits) ∧
          ∀ w, s.newestIs w → (∀ x ∈ s.edits, x.kind = .mask) →
            let stop := if w.state = .opened then some (w.reach.getD s.liveEdge) else w.stop
            s.widensTo new w { w with kind := .drop, state := .closed, stop := stop, reach := none, limitBase := none } t.edits))

/-- A MASK press opens one OPEN MASK range from the lead, or from just above the panel floor where that is higher; while an entry is OPEN,
or with no panel taps, it makes none. The range is added, or merged with a MASK that it meets; on a list that is full for it, the newest
MASK becomes the OPEN entry, or, with no MASK, the newest DROP is widened as a TRAILING one to the live edge, and EDIT_WIDENED is latched.
It is late for the taps bound in it. A MASK release closes the OPEN entry at the live edge or its reach, or removes it when it covers
nothing, and MASK goes dark; with no OPEN entry it changes nothing. Spent entries leave (R83 to R85, R91, R92, R99, R101, R177). -/
def Obligations.MaskPressesOpenAndReleasesClose : Prop :=
  ∀ s : State, s.startUp.phase = .running → s.panel.maskLine.interval = true →
    let taken (level : Bool) : State :=
      { s with panel := { s.panel with maskLine := { raw := level, debounced := some level, interval := false } } }
    (s.panel.maskLine.raw = true → s.panel.maskLine.debounced = some false →
      (((∃ e ∈ s.edits, e.state = .opened) ∨ s.store.config.panelTaps = 0#4) →
        exec .maskPress s = .next (taken true).refreshTally) ∧
      (s.store.config.panelTaps ≠ 0#4 → (∀ e ∈ s.edits, e.state ≠ .opened) → ∀ floor, s.panelFloorIs floor →
        let start := serialMax (s.liveEdge - BitVec.ofNat 32 s.store.config.maskLead + 1#32) (floor + 1#32)
        let new : Edit :=
          { id := 0, kind := .mask, state := .opened, start := start, stop := none, reach := none, limitBase := some start,
            taps := s.store.config.panelTaps, origin := .panel, rough := false, extension := 0, cutPending := false }
        let full := 32 ≤ s.edits.length ∧ ∀ x ∈ s.edits, ¬ new.touches x
        let drop : Edit := { new with kind := .drop, state := .trailing, reach := some s.liveEdge, limitBase := none }
        ∀ wide : Bool, (wide = true ↔ full) → ∃ t, exec .maskPress s = .next t ∧
          t = State.refreshTally { taken true with
            edits := t.edits
            taps := s.latching fun i => s.lateBit new i ||| if wide then 0x200000#32 else 0#32 } ∧
          (∀ x ∈ t.edits, s.spent x = false) ∧ s.takesRange new t.edits ∧
          (s.edits = [] → t.edits = [new] ∧ t.panel.tallies.mask = true) ∧
          (full → t.edits.length ≤ s.edits.length ∧
            (∀ w, s.newestIs w → w.kind = .mask → s.widensTo new w { w with limitBase := none } t.edits) ∧
            ∀ w, s.newestIs w → (∀ x ∈ s.edits, x.kind = .drop) → s.widensTo drop w w t.edits))) ∧
    (s.panel.maskLine.raw = false → s.panel.maskLine.debounced = some true →
      ((∀ e ∈ s.edits, e.state ≠ .opened ∧ s.spent e = false) → exec .maskRelease s = .next (taken false).refreshTally) ∧
      (∀ pre e post, s.edits = pre ++ e :: post → e.state = .opened → (∀ x ∈ pre ++ post, x.state ≠ .opened) →
        let z := match e.reach with
          | none => s.liveEdge
          | some r => serialMax s.liveEdge r
        let closed : Edit := { e with state := .closed, stop := some z, reach := none, limitBase := none }
        ∃ t, exec .maskRelease s = .next t ∧ t.panel.tallies.mask = false ∧
          t = State.refreshTally { taken false with edits := t.edits } ∧
          (serialLt z e.start = true → t.edits = (pre ++ post).filter fun x => !s.spent x) ∧
          (serialLt z e.start = false → t.edits = (pre ++ closed :: post).filter fun x => !s.spent x)))

/-! ### The store -/

/-- SAVE CONFIG and COMMIT RETIRE are refused with REFUSED_BUSY while a write is in progress and with REFUSED_STATE when STORE_EN is 0;
else they start a write whose record is fixed then: the pending geometry, the working configuration and the kept hard list, which COMMIT
RETIRE first sets to the lowest 64 RETIRED indexes, CLAMPED when there are more. SET GEOMETRY replaces one item of the pending geometry
within its range. Each acknowledged page puts its 16 bytes into the serial memory; after the sixteenth the controller is no longer busy
and STORE_DONE is latched in every tap. A timeout ends the write with STORE_TIMEOUT and keeps the hard list and the pages written
(R52, R161, R169, R170, R183, R184; log entry 15). -/
def Obligations.StoreWritesRunInOrder : Prop :=
  (∀ (s : State) (w : StoreWrite), s.store.write = some w → s.store.contents.length = 256 → w.record.length = 256 → w.page < 16 →
    (∃ t, exec .storePageComplete s = .next t ∧
      (∀ n, t.store.contents[n]? = if 16 * w.page ≤ n ∧ n < 16 * w.page + 16 then w.record[n]? else s.store.contents[n]?) ∧
      (w.page < 15 →
        t = { s with store := { s.store with contents := t.store.contents, write := some { w with page := w.page + 1 } } }) ∧
      (w.page = 15 →
        t =
          { s with
            store := { s.store with contents := t.store.contents, write := none }
            taps := s.taps.map fun x => { x with latch := x.latch ||| 0x2000000#32 } })) ∧
    exec .storeTimeout s =
      .next { s with
        store := { s.store with write := none }
        taps := s.taps.map fun x => { x with latch := x.latch ||| 0x1000000#32 } }) ∧
  ∀ (s : State) (q : Word) (e : ControlEntry),
    let t := State.executeEntry q s e
    let writing (hard : List Nat) : State :=
      { s with store :=
        { s.store with
          keptHard := hard
          write := some { record := buildRecord s.store.pendingGeometry s.store.config hard, page := 0 } } }
    let retired := (List.range s.pool.segs.length).filter fun p => (s.seg? p).any fun g => g.state == .retired
    let v := e.argB.toNat
    ((e.code = 0x1A#8 ∨ (e.code = 0x19#8 ∧ s.guardStep = 4)) →
      (s.store.write ≠ none → t = s.resulted e q .refusedBusy) ∧
      (s.store.write = none → s.startUp.straps.storeEn = false → t = s.resulted e q .refusedState) ∧
      (s.store.write = none → s.startUp.straps.storeEn = true →
        (e.code = 0x1A#8 → t = (writing s.store.keptHard).resulted e q .accepted) ∧
        (e.code = 0x19#8 → t = (writing (retired.take 64)).resulted e q (if 64 < retired.length then .clamped else .accepted)))) ∧
    (e.code = 0x1B#8 →
      let g := s.store.pendingGeometry
      let set (g' : Geometry) : State := State.resulted { s with store := { s.store with pendingGeometry := g' } } e q .accepted
      (e.argA = 0#16 → v ≤ 16383 → t = set { g with apertureBase := BitVec.ofNat 40 (v * 2 ^ 26) }) ∧
      (e.argA = 1#16 → v ≤ 16777215 → t = set { g with backingBase := BitVec.ofNat 40 (v * 2 ^ 16) }) ∧
      (e.argA = 2#16 → ∀ c : Fin 4, v = c.val → t = set { g with sCode := c }) ∧
      (e.argA = 3#16 → 64 ≤ v → v ≤ 4096 → t = set { g with n := v }) ∧
      (e.argA = 4#16 → v ≤ 256 → t = set { g with q := v }) ∧
      ((4 < e.argA.toNat ∨ (e.argA = 0#16 ∧ 16383 < v) ∨ (e.argA = 1#16 ∧ 16777215 < v) ∨ (e.argA = 2#16 ∧ 3 < v) ∨
          (e.argA = 3#16 ∧ (v < 64 ∨ 4096 < v)) ∨ (e.argA = 4#16 ∧ 256 < v)) → t = s.resulted e q .refusedRange))

/-! ### In-band control -/

/-- The guard step moves as Table 56 gives: an empty entry leaves it, the four GUARD values raise it in their order, and any other entry
returns it to 0. A GUARD entry is always ACCEPTED; a guarded command at any step but 4 is refused with REFUSED_GUARD and reaches no owner;
entries that never execute leave the step (R161). -/
def Obligations.GuardFollowsItsTable : Prop :=
  ∀ (s : State) (q : Word) (e : ControlEntry),
    let t := State.executeEntry q s e
    (e.code = 0#8 → t = s) ∧
    (e.code ≠ 0#8 →
      t.guardStep =
        if e.code = 0x18#8 ∧
          ((s.guardStep = 0 ∧ e.argA = 0x5A01#16) ∨ (s.guardStep = 1 ∧ e.argA = 0x5A02#16) ∨
            (s.guardStep = 2 ∧ e.argA = 0x5A03#16) ∨ (s.guardStep = 3 ∧ e.argA = 0x5A04#16)) then s.guardStep + 1 else 0) ∧
    (e.code = 0x18#8 →
      t = { s with
        guardStep := t.guardStep
        taps := s.taps.map fun x => { x with executed := min (x.executed + 1) 255 } }) ∧
    ((e.code = 0x12#8 ∨ e.code = 0x13#8 ∨ e.code = 0x19#8) → s.guardStep ≠ 4 →
      t = { s with
        guardStep := 0
        taps := s.taps.map fun x =>
          { x with executed := min (x.executed + 1) 255, report := x.report.or (some ⟨e.code, .refusedGuard, q⟩) } }) ∧
    ∀ k, (s.makeRoom k).guardStep = s.guardStep

/-- CLEAR COUNTERS sets DROPPED, REPEATS, SHED and STEP_ERRORS to 0 for each tap in TAPS, whatever its state, and is ACCEPTED; it keeps
the latch, the report, the pattern failure count and every mark in the timeline, and is itself counted. SET TARGET sets Dt and De, at most
Dmax, and ends the clamp flag; SET PACER sets P, K and G in their ranges and empties A. TAP ON starts each tap from the live edge with Dt
at De and its pacer, counters and references emptied, TAP OFF stops each active one and keeps the rest of it; both note enabled-at-start,
and then the floor is tested. Each of these commands is refused with REFUSED_RANGE when TAPS is empty. SET DUMP, SET MASK TIMING, SET
SNAP, SET PANEL and SET POLICY set their settings. A value brought into its range gives CLAMPED. De and the pacer settings stand in the
working configuration (log entry 14) (R107, R108, R163 to R168). -/
def Obligations.TapAndSettingCommandsSetTheirValues : Prop :=
  (∀ (s : State) (q : Word) (e : ControlEntry), e.code = 0x0D#8 → e.taps ≠ 0#4 →
    let one (i : Fin 4) : Tap :=
      let x := { s.tap i with executed := min ((s.tap i).executed + 1) 255 }
      if hasTap e.taps i then { x with dropped := 0, repeats := 0, shed := 0, stepErrors := 0 } else x
    State.executeEntry q s e = { s with guardStep := 0, taps := ⟨one 0, one 1, one 2, one 3⟩ }) ∧
  ∀ (s : State) (q : Word) (e : ControlEntry),
    let t := State.executeEntry q s e
    let a := e.argA.toNat
    let b := e.argB.toNat
    let onTaps (f : Fin 4 → Tap) : PerTap Tap :=
      let one (i : Fin 4) : Tap := if hasTap e.taps i then f i else s.tap i
      ⟨one 0, one 1, one 2, one 3⟩
    let onSettings (f : Fin 4 → TapSettings) : PerTap TapSettings :=
      let one (i : Fin 4) : TapSettings := if hasTap e.taps i then f i else s.settings i
      ⟨one 0, one 1, one 2, one 3⟩
    let config (c : WorkingConfig) : State := { s with store := { s.store with config := c } }
    let c := s.store.config
    let clampedIf (p : Bool) : CmdResult := if p then .clamped else .accepted
    ((e.code = 0x01#8 ∨ e.code = 0x02#8 ∨ e.code = 0x03#8 ∨ e.code = 0x04#8 ∨ e.code = 0x0D#8) → e.taps = 0#4 →
      t = s.resulted e q .refusedRange) ∧
    (e.code = 0x03#8 → e.taps ≠ 0#4 →
      let d := min a s.dmax
      t =
        State.resulted { config { c with taps := onSettings fun i => { s.settings i with de := d } } with
          taps := onTaps fun i => { s.tap i with dt := d, clampFlag := false } } e q (clampedIf (decide (s.dmax < a)))) ∧
    (e.code = 0x04#8 → e.taps ≠ 0#4 →
      let p := if a < 2 then 2 else if 4095 < a then 4095 else a
      let k := min (b % 65536) (p / 2)
      t =
        State.resulted { config { c with taps := onSettings fun i => { s.settings i with p := p, k := k, g := b / 65536 % 256 } } with
          taps := onTaps fun i => { s.tap i with acc := 0 } } e q (clampedIf (decide (p ≠ a ∨ k ≠ b % 65536)))) ∧
    ((e.code = 0x01#8 ∨ e.code = 0x02#8) → e.taps ≠ 0#4 →
      let wait := e.argA.getLsbD 0
      let now (i : Fin 4) (x : Tap) : Tap :=
        { x with
          dt := (t.tap i).dt
          latch := (t.tap i).latch
          clampFlag := (t.tap i).clampFlag
          executed := min ((s.tap i).executed + 1) 255 }
      (∃ u : State, u.timeline = s.timeline ∧ u.edits = s.edits ∧ t = u.settle.resulted e q .accepted) ∧
      (∀ i, hasTap e.taps i = true → e.code = 0x01#8 →
        t.settings i =
          { s.settings i with enabled := true, policy := if wait then .wait else .build, de := (t.settings i).de } ∧
        (t.tap i).dt = (t.settings i).de ∧
        t.tap i = now i
          { s.tap i with
            state := if wait then .priming else .run, op := 0xFFFFFFFF#32, bound := s.liveEdge, current := none,
            previous := none, repeatSource := none, mode := .steady, acc := 0, sinceLast := 255, underrunRun := 0,
            stalled := false, spliceOwed := false, stepErrorOwed := false, dropped := 0, repeats := 0, shed := 0,
            stepErrors := 0 }) ∧
      (∀ i, hasTap e.taps i = true → e.code = 0x02#8 →
        t.settings i = { s.settings i with enabled := false, de := (t.settings i).de } ∧
        t.tap i = now i
          (if (s.tap i).active then { s.tap i with state := .off, current := none, previous := none, repeatSource := none }
           else s.tap i)) ∧
      (∀ i, hasTap e.taps i = false →
        t.settings i = { s.settings i with de := (t.settings i).de } ∧ t.tap i = now i (s.tap i)) ∧
      ((∀ g ∈ s.pool.segs, g.retirePending = false) → ∀ i,
        (t.settings i).de = (s.settings i).de ∧ (t.tap i).clampFlag = (s.tap i).clampFlag ∧
          (¬ (hasTap e.taps i = true ∧ e.code = 0x01#8) → (t.tap i).dt = (s.tap i).dt))) ∧
    (e.code = 0x08#8 →
      let v := if a < 1 then 1 else if 1024 < a then 1024 else a
      t = (config { c with dumpLength := v }).resulted e q (clampedIf (decide (v ≠ a)))) ∧
    (e.code = 0x09#8 →
      let lead := if a < 1 then 1 else if 64 < a then 64 else a
      let limit := if b < 1 then 1 else if 4096 < b then 4096 else b
      t = (config { c with maskLead := lead, maskLimit := limit }).resulted e q (clampedIf (decide (lead ≠ a ∨ limit ≠ b)))) ∧
    (e.code = 0x0A#8 → t = (config { c with snapReach := min a 255 }).resulted e q (clampedIf (decide (255 < a)))) ∧
    (e.code = 0x0B#8 → ∀ i : Fin 4, i.val = b / 16 % 4 →
      t = (config { c with panelTaps := BitVec.ofNat 4 b, tallyTap := i }).resulted e q .accepted) ∧
    (e.code = 0x0C#8 →
      let threshold := a / 16 % 8
      let stall := if b < 1 then 1 else if 255 < b then 255 else b
      t =
        (config { c with
          checkPolicy := if e.argA.getLsbD 0 then .repeatSource else .serve
          faultThreshold := if threshold = 0 then 1 else threshold
          stallLimit := stall }).resulted e q (clampedIf (decide (threshold = 0 ∨ stall ≠ b))))

/-- QUARANTINE UNLOCK at the end of the guard sequence makes a LOCKED list UNLOCKED and leaves an UNLOCKED one so, with the result ACCEPTED,
and sets lock-at-start to no; a FROZEN one refuses it with REFUSED_STATE. It frees no record; the first newcomer to a full list after it
overwrites the oldest record, and capacity pressure may take the oldest. QUARANTINE LOCK makes an UNLOCKED list LOCKED and is refused by a
FROZEN one, QUARANTINE FREEZE makes it FROZEN; both set lock-at-start to yes. QUARANTINE RELEASE at the end of the guard sequence takes the
oldest records of an UNLOCKED list, as many as it names, frees their segments, and is CLAMPED when there are fewer; a LOCKED or FROZEN list
refuses it (R46, R148, R149, R150, R169). -/
def Obligations.QuarantineCommandsMoveTheLock : Prop :=
  (∀ (s : State) (q : Word) (e : ControlEntry), e.code = 0x12#8 → s.guardStep = 4 →
    let t := State.executeEntry q s e
    (s.quarantine.lock ≠ .frozen →
      t =
          { s with
            guardStep := 0
            quarantine := { s.quarantine with lock := .unlocked }
            store := { s.store with config := { s.store.config with lockAtStart := false } }
            taps := s.taps.map fun x => { x with executed := min (x.executed + 1) 255 } } ∧
        (∀ old rest r, s.quarantine.records = old :: rest → s.quarantine.records.length = s.quarCap →
          (t.offer false r).quarantine.records = rest ++ [r]) ∧
        (∀ old rest, s.quarantine.records = old :: rest →
          (∀ p g, s.seg? p = some g → ¬ (g.state = .free ∧ g.outstanding = 0)) →
          (∃ g, s.seg? old.phys = some g ∧ g.outstanding = 0 ∧ g.retirePending = false) → t.allocate.2 = some old.phys)) ∧
    (s.quarantine.lock = .frozen →
      t = { s with
        guardStep := 0
        taps := s.taps.map fun x =>
          { x with executed := min (x.executed + 1) 255, report := x.report.or (some ⟨e.code, .refusedState, q⟩) } })) ∧
  ∀ (s : State) (q : Word) (e : ControlEntry),
    let t := State.executeEntry q s e
    let locked (l : LockState) : State :=
      { s with
        quarantine := { s.quarantine with lock := l }
        store := { s.store with config := { s.store.config with lockAtStart := true } } }
    (e.code = 0x10#8 →
      (s.quarantine.lock ≠ .frozen → t = (locked .locked).resulted e q .accepted) ∧
      (s.quarantine.lock = .frozen → t = s.resulted e q .refusedState)) ∧
    (e.code = 0x11#8 → t = (locked .frozen).resulted e q .accepted) ∧
    (e.code = 0x13#8 → s.guardStep = 4 →
      (s.quarantine.lock ≠ .unlocked → t = s.resulted e q .refusedState) ∧
      (s.quarantine.lock = .unlocked →
        let n := e.argA.toNat
        let result : CmdResult := if s.quarantine.records.length < n then .clamped else .accepted
        (∃ u : State, u.timeline = s.timeline ∧ u.edits = s.edits ∧
          u.quarantine = { s.quarantine with records := s.quarantine.records.drop n } ∧ t = u.settle.resulted e q result) ∧
        (s.segmentsOwned → (∀ r ∈ s.quarantine.records.take n, ∀ g, s.seg? r.phys = some g → g.retirePending = false) →
          (∀ x rest, s.timeline.entries = x :: rest → serialLt x.pi s.floor = false) →
          t.quarantine = { s.quarantine with records := s.quarantine.records.drop n } ∧ t.timeline = s.timeline ∧
          t.edits = s.edits.filter (fun x => !s.spent x) ∧
          ∀ p, t.seg? p =
            if ∃ r ∈ s.quarantine.records.take n, r.phys = p then
              (s.seg? p).map fun g => { g with state := .free, departure := none }
            else s.seg? p)))
end

