-- ==== Sys2Proof/Laws/State.lean ====
section
/-! SUPPORT. What each primitive update of the state leaves in each field: one lemma per field per update, true by definition. -/

namespace Sys2Proof.Machine

variable (s : State)

/-! ### `setTap` -/

@[simp] theorem State.setTap_startUp (t : Fin 4) (x : Tap) : (s.setTap t x).startUp = s.startUp := rfl
@[simp] theorem State.setTap_link (t : Fin 4) (x : Tap) : (s.setTap t x).link = s.link := rfl
@[simp] theorem State.setTap_capture (t : Fin 4) (x : Tap) : (s.setTap t x).capture = s.capture := rfl
@[simp] theorem State.setTap_pool (t : Fin 4) (x : Tap) : (s.setTap t x).pool = s.pool := rfl
@[simp] theorem State.setTap_timeline (t : Fin 4) (x : Tap) : (s.setTap t x).timeline = s.timeline := rfl
@[simp] theorem State.setTap_edits (t : Fin 4) (x : Tap) : (s.setTap t x).edits = s.edits := rfl
@[simp] theorem State.setTap_taps (t : Fin 4) (x : Tap) : (s.setTap t x).taps = s.taps.set t x := rfl
@[simp] theorem State.setTap_quarantine (t : Fin 4) (x : Tap) : (s.setTap t x).quarantine = s.quarantine := rfl
@[simp] theorem State.setTap_guardStep (t : Fin 4) (x : Tap) : (s.setTap t x).guardStep = s.guardStep := rfl
@[simp] theorem State.setTap_panel (t : Fin 4) (x : Tap) : (s.setTap t x).panel = s.panel := rfl
@[simp] theorem State.setTap_store (t : Fin 4) (x : Tap) : (s.setTap t x).store = s.store := rfl
@[simp] theorem State.setTap_pending (t : Fin 4) (x : Tap) : (s.setTap t x).pending = s.pending := rfl

/-! ### `modifyTap` -/

@[simp] theorem State.modifyTap_startUp (t : Fin 4) (f : Tap → Tap) : (s.modifyTap t f).startUp = s.startUp := rfl
@[simp] theorem State.modifyTap_link (t : Fin 4) (f : Tap → Tap) : (s.modifyTap t f).link = s.link := rfl
@[simp] theorem State.modifyTap_capture (t : Fin 4) (f : Tap → Tap) : (s.modifyTap t f).capture = s.capture := rfl
@[simp] theorem State.modifyTap_pool (t : Fin 4) (f : Tap → Tap) : (s.modifyTap t f).pool = s.pool := rfl
@[simp] theorem State.modifyTap_timeline (t : Fin 4) (f : Tap → Tap) : (s.modifyTap t f).timeline = s.timeline := rfl
@[simp] theorem State.modifyTap_edits (t : Fin 4) (f : Tap → Tap) : (s.modifyTap t f).edits = s.edits := rfl
@[simp] theorem State.modifyTap_taps (t : Fin 4) (f : Tap → Tap) : (s.modifyTap t f).taps = s.taps.set t (f (s.taps.get t)) := rfl
@[simp] theorem State.modifyTap_quarantine (t : Fin 4) (f : Tap → Tap) : (s.modifyTap t f).quarantine = s.quarantine := rfl
@[simp] theorem State.modifyTap_guardStep (t : Fin 4) (f : Tap → Tap) : (s.modifyTap t f).guardStep = s.guardStep := rfl
@[simp] theorem State.modifyTap_panel (t : Fin 4) (f : Tap → Tap) : (s.modifyTap t f).panel = s.panel := rfl
@[simp] theorem State.modifyTap_store (t : Fin 4) (f : Tap → Tap) : (s.modifyTap t f).store = s.store := rfl
@[simp] theorem State.modifyTap_pending (t : Fin 4) (f : Tap → Tap) : (s.modifyTap t f).pending = s.pending := rfl

/-! ### `modifyConfig` -/

@[simp] theorem State.modifyConfig_startUp (f : WorkingConfig → WorkingConfig) : (s.modifyConfig f).startUp = s.startUp := rfl
@[simp] theorem State.modifyConfig_link (f : WorkingConfig → WorkingConfig) : (s.modifyConfig f).link = s.link := rfl
@[simp] theorem State.modifyConfig_capture (f : WorkingConfig → WorkingConfig) : (s.modifyConfig f).capture = s.capture := rfl
@[simp] theorem State.modifyConfig_pool (f : WorkingConfig → WorkingConfig) : (s.modifyConfig f).pool = s.pool := rfl
@[simp] theorem State.modifyConfig_timeline (f : WorkingConfig → WorkingConfig) : (s.modifyConfig f).timeline = s.timeline := rfl
@[simp] theorem State.modifyConfig_edits (f : WorkingConfig → WorkingConfig) : (s.modifyConfig f).edits = s.edits := rfl
@[simp] theorem State.modifyConfig_taps (f : WorkingConfig → WorkingConfig) : (s.modifyConfig f).taps = s.taps := rfl
@[simp] theorem State.modifyConfig_quarantine (f : WorkingConfig → WorkingConfig) : (s.modifyConfig f).quarantine = s.quarantine := rfl
@[simp] theorem State.modifyConfig_guardStep (f : WorkingConfig → WorkingConfig) : (s.modifyConfig f).guardStep = s.guardStep := rfl
@[simp] theorem State.modifyConfig_panel (f : WorkingConfig → WorkingConfig) : (s.modifyConfig f).panel = s.panel := rfl
@[simp] theorem State.modifyConfig_store (f : WorkingConfig → WorkingConfig) : (s.modifyConfig f).store = { s.store with config := f s.store.config } := rfl
@[simp] theorem State.modifyConfig_pending (f : WorkingConfig → WorkingConfig) : (s.modifyConfig f).pending = s.pending := rfl

/-! ### `setSettings` -/

@[simp] theorem State.setSettings_startUp (t : Fin 4) (x : TapSettings) : (s.setSettings t x).startUp = s.startUp := rfl
@[simp] theorem State.setSettings_link (t : Fin 4) (x : TapSettings) : (s.setSettings t x).link = s.link := rfl
@[simp] theorem State.setSettings_capture (t : Fin 4) (x : TapSettings) : (s.setSettings t x).capture = s.capture := rfl
@[simp] theorem State.setSettings_pool (t : Fin 4) (x : TapSettings) : (s.setSettings t x).pool = s.pool := rfl
@[simp] theorem State.setSettings_timeline (t : Fin 4) (x : TapSettings) : (s.setSettings t x).timeline = s.timeline := rfl
@[simp] theorem State.setSettings_edits (t : Fin 4) (x : TapSettings) : (s.setSettings t x).edits = s.edits := rfl
@[simp] theorem State.setSettings_taps (t : Fin 4) (x : TapSettings) : (s.setSettings t x).taps = s.taps := rfl
@[simp] theorem State.setSettings_quarantine (t : Fin 4) (x : TapSettings) : (s.setSettings t x).quarantine = s.quarantine := rfl
@[simp] theorem State.setSettings_guardStep (t : Fin 4) (x : TapSettings) : (s.setSettings t x).guardStep = s.guardStep := rfl
@[simp] theorem State.setSettings_panel (t : Fin 4) (x : TapSettings) : (s.setSettings t x).panel = s.panel := rfl
@[simp] theorem State.setSettings_store (t : Fin 4) (x : TapSettings) : (s.setSettings t x).store = { s.store with config := { s.store.config with taps := s.store.config.taps.set t x } } := rfl
@[simp] theorem State.setSettings_pending (t : Fin 4) (x : TapSettings) : (s.setSettings t x).pending = s.pending := rfl

/-! ### `modifySeg` -/

@[simp] theorem State.modifySeg_startUp (p : Nat) (f : Segment → Segment) : (s.modifySeg p f).startUp = s.startUp := rfl
@[simp] theorem State.modifySeg_link (p : Nat) (f : Segment → Segment) : (s.modifySeg p f).link = s.link := rfl
@[simp] theorem State.modifySeg_capture (p : Nat) (f : Segment → Segment) : (s.modifySeg p f).capture = s.capture := rfl
@[simp] theorem State.modifySeg_pool (p : Nat) (f : Segment → Segment) : (s.modifySeg p f).pool = { s.pool with segs := s.pool.segs.modify p f } := rfl
@[simp] theorem State.modifySeg_timeline (p : Nat) (f : Segment → Segment) : (s.modifySeg p f).timeline = s.timeline := rfl
@[simp] theorem State.modifySeg_edits (p : Nat) (f : Segment → Segment) : (s.modifySeg p f).edits = s.edits := rfl
@[simp] theorem State.modifySeg_taps (p : Nat) (f : Segment → Segment) : (s.modifySeg p f).taps = s.taps := rfl
@[simp] theorem State.modifySeg_quarantine (p : Nat) (f : Segment → Segment) : (s.modifySeg p f).quarantine = s.quarantine := rfl
@[simp] theorem State.modifySeg_guardStep (p : Nat) (f : Segment → Segment) : (s.modifySeg p f).guardStep = s.guardStep := rfl
@[simp] theorem State.modifySeg_panel (p : Nat) (f : Segment → Segment) : (s.modifySeg p f).panel = s.panel := rfl
@[simp] theorem State.modifySeg_store (p : Nat) (f : Segment → Segment) : (s.modifySeg p f).store = s.store := rfl
@[simp] theorem State.modifySeg_pending (p : Nat) (f : Segment → Segment) : (s.modifySeg p f).pending = s.pending := rfl

/-! ### `pin` -/

@[simp] theorem State.pin_startUp (p : Nat) : (s.pin p).startUp = s.startUp := rfl
@[simp] theorem State.pin_link (p : Nat) : (s.pin p).link = s.link := rfl
@[simp] theorem State.pin_capture (p : Nat) : (s.pin p).capture = s.capture := rfl
@[simp] theorem State.pin_pool (p : Nat) : (s.pin p).pool = { s.pool with segs := s.pool.segs.modify p fun g => { g with pins := g.pins + 1 } } := rfl
@[simp] theorem State.pin_timeline (p : Nat) : (s.pin p).timeline = s.timeline := rfl
@[simp] theorem State.pin_edits (p : Nat) : (s.pin p).edits = s.edits := rfl
@[simp] theorem State.pin_taps (p : Nat) : (s.pin p).taps = s.taps := rfl
@[simp] theorem State.pin_quarantine (p : Nat) : (s.pin p).quarantine = s.quarantine := rfl
@[simp] theorem State.pin_guardStep (p : Nat) : (s.pin p).guardStep = s.guardStep := rfl
@[simp] theorem State.pin_panel (p : Nat) : (s.pin p).panel = s.panel := rfl
@[simp] theorem State.pin_store (p : Nat) : (s.pin p).store = s.store := rfl
@[simp] theorem State.pin_pending (p : Nat) : (s.pin p).pending = s.pending := rfl

/-! ### `raiseOutstanding` -/

@[simp] theorem State.raiseOutstanding_startUp (p : Nat) : (s.raiseOutstanding p).startUp = s.startUp := rfl
@[simp] theorem State.raiseOutstanding_link (p : Nat) : (s.raiseOutstanding p).link = s.link := rfl
@[simp] theorem State.raiseOutstanding_capture (p : Nat) : (s.raiseOutstanding p).capture = s.capture := rfl
@[simp] theorem State.raiseOutstanding_pool (p : Nat) : (s.raiseOutstanding p).pool = { s.pool with segs := s.pool.segs.modify p fun g => { g with outstanding := g.outstanding + 1 } } := rfl
@[simp] theorem State.raiseOutstanding_timeline (p : Nat) : (s.raiseOutstanding p).timeline = s.timeline := rfl
@[simp] theorem State.raiseOutstanding_edits (p : Nat) : (s.raiseOutstanding p).edits = s.edits := rfl
@[simp] theorem State.raiseOutstanding_taps (p : Nat) : (s.raiseOutstanding p).taps = s.taps := rfl
@[simp] theorem State.raiseOutstanding_quarantine (p : Nat) : (s.raiseOutstanding p).quarantine = s.quarantine := rfl
@[simp] theorem State.raiseOutstanding_guardStep (p : Nat) : (s.raiseOutstanding p).guardStep = s.guardStep := rfl
@[simp] theorem State.raiseOutstanding_panel (p : Nat) : (s.raiseOutstanding p).panel = s.panel := rfl
@[simp] theorem State.raiseOutstanding_store (p : Nat) : (s.raiseOutstanding p).store = s.store := rfl
@[simp] theorem State.raiseOutstanding_pending (p : Nat) : (s.raiseOutstanding p).pending = s.pending := rfl

/-! ### `lowerOutstanding` -/

@[simp] theorem State.lowerOutstanding_startUp (p : Nat) : (s.lowerOutstanding p).startUp = s.startUp := rfl
@[simp] theorem State.lowerOutstanding_link (p : Nat) : (s.lowerOutstanding p).link = s.link := rfl
@[simp] theorem State.lowerOutstanding_capture (p : Nat) : (s.lowerOutstanding p).capture = s.capture := rfl
@[simp] theorem State.lowerOutstanding_pool (p : Nat) : (s.lowerOutstanding p).pool = { s.pool with segs := s.pool.segs.modify p fun g => { g with outstanding := g.outstanding - 1 } } := rfl
@[simp] theorem State.lowerOutstanding_timeline (p : Nat) : (s.lowerOutstanding p).timeline = s.timeline := rfl
@[simp] theorem State.lowerOutstanding_edits (p : Nat) : (s.lowerOutstanding p).edits = s.edits := rfl
@[simp] theorem State.lowerOutstanding_taps (p : Nat) : (s.lowerOutstanding p).taps = s.taps := rfl
@[simp] theorem State.lowerOutstanding_quarantine (p : Nat) : (s.lowerOutstanding p).quarantine = s.quarantine := rfl
@[simp] theorem State.lowerOutstanding_guardStep (p : Nat) : (s.lowerOutstanding p).guardStep = s.guardStep := rfl
@[simp] theorem State.lowerOutstanding_panel (p : Nat) : (s.lowerOutstanding p).panel = s.panel := rfl
@[simp] theorem State.lowerOutstanding_store (p : Nat) : (s.lowerOutstanding p).store = s.store := rfl
@[simp] theorem State.lowerOutstanding_pending (p : Nat) : (s.lowerOutstanding p).pending = s.pending := rfl

/-! ### `takeSegment` -/

@[simp] theorem State.takeSegment_startUp (p : Nat) : (s.takeSegment p).startUp = s.startUp := rfl
@[simp] theorem State.takeSegment_link (p : Nat) : (s.takeSegment p).link = s.link := rfl
@[simp] theorem State.takeSegment_capture (p : Nat) : (s.takeSegment p).capture = s.capture := rfl
@[simp] theorem State.takeSegment_pool (p : Nat) : (s.takeSegment p).pool = { s.pool with segs := s.pool.segs.modify p fun g => { g with state := .filling, counted := false } } := rfl
@[simp] theorem State.takeSegment_timeline (p : Nat) : (s.takeSegment p).timeline = s.timeline := rfl
@[simp] theorem State.takeSegment_edits (p : Nat) : (s.takeSegment p).edits = s.edits := rfl
@[simp] theorem State.takeSegment_taps (p : Nat) : (s.takeSegment p).taps = s.taps := rfl
@[simp] theorem State.takeSegment_quarantine (p : Nat) : (s.takeSegment p).quarantine = s.quarantine := rfl
@[simp] theorem State.takeSegment_guardStep (p : Nat) : (s.takeSegment p).guardStep = s.guardStep := rfl
@[simp] theorem State.takeSegment_panel (p : Nat) : (s.takeSegment p).panel = s.panel := rfl
@[simp] theorem State.takeSegment_store (p : Nat) : (s.takeSegment p).store = s.store := rfl
@[simp] theorem State.takeSegment_pending (p : Nat) : (s.takeSegment p).pending = s.pending := rfl

/-! ### `raiseTap` -/

@[simp] theorem State.raiseTap_startUp (t : Fin 4) (e : Event) : (s.raiseTap t e).startUp = s.startUp := rfl
@[simp] theorem State.raiseTap_link (t : Fin 4) (e : Event) : (s.raiseTap t e).link = s.link := rfl
@[simp] theorem State.raiseTap_capture (t : Fin 4) (e : Event) : (s.raiseTap t e).capture = s.capture := rfl
@[simp] theorem State.raiseTap_pool (t : Fin 4) (e : Event) : (s.raiseTap t e).pool = s.pool := rfl
@[simp] theorem State.raiseTap_timeline (t : Fin 4) (e : Event) : (s.raiseTap t e).timeline = s.timeline := rfl
@[simp] theorem State.raiseTap_edits (t : Fin 4) (e : Event) : (s.raiseTap t e).edits = s.edits := rfl
@[simp] theorem State.raiseTap_taps (t : Fin 4) (e : Event) : (s.raiseTap t e).taps = s.taps.set t ((s.taps.get t).raise e) := rfl
@[simp] theorem State.raiseTap_quarantine (t : Fin 4) (e : Event) : (s.raiseTap t e).quarantine = s.quarantine := rfl
@[simp] theorem State.raiseTap_guardStep (t : Fin 4) (e : Event) : (s.raiseTap t e).guardStep = s.guardStep := rfl
@[simp] theorem State.raiseTap_panel (t : Fin 4) (e : Event) : (s.raiseTap t e).panel = s.panel := rfl
@[simp] theorem State.raiseTap_store (t : Fin 4) (e : Event) : (s.raiseTap t e).store = s.store := rfl
@[simp] theorem State.raiseTap_pending (t : Fin 4) (e : Event) : (s.raiseTap t e).pending = s.pending := rfl

/-! ### `raiseAll` -/

@[simp] theorem State.raiseAll_startUp (e : Event) : (s.raiseAll e).startUp = s.startUp := rfl
@[simp] theorem State.raiseAll_link (e : Event) : (s.raiseAll e).link = s.link := rfl
@[simp] theorem State.raiseAll_capture (e : Event) : (s.raiseAll e).capture = s.capture := rfl
@[simp] theorem State.raiseAll_pool (e : Event) : (s.raiseAll e).pool = s.pool := rfl
@[simp] theorem State.raiseAll_timeline (e : Event) : (s.raiseAll e).timeline = s.timeline := rfl
@[simp] theorem State.raiseAll_edits (e : Event) : (s.raiseAll e).edits = s.edits := rfl
@[simp] theorem State.raiseAll_taps (e : Event) : (s.raiseAll e).taps = s.taps.map (·.raise e) := rfl
@[simp] theorem State.raiseAll_quarantine (e : Event) : (s.raiseAll e).quarantine = s.quarantine := rfl
@[simp] theorem State.raiseAll_guardStep (e : Event) : (s.raiseAll e).guardStep = s.guardStep := rfl
@[simp] theorem State.raiseAll_panel (e : Event) : (s.raiseAll e).panel = s.panel := rfl
@[simp] theorem State.raiseAll_store (e : Event) : (s.raiseAll e).store = s.store := rfl
@[simp] theorem State.raiseAll_pending (e : Event) : (s.raiseAll e).pending = s.pending := rfl

/-! ### `refreshTally` -/

@[simp] theorem State.refreshTally_startUp : s.refreshTally.startUp = s.startUp := rfl
@[simp] theorem State.refreshTally_link : s.refreshTally.link = s.link := rfl
@[simp] theorem State.refreshTally_capture : s.refreshTally.capture = s.capture := rfl
@[simp] theorem State.refreshTally_pool : s.refreshTally.pool = s.pool := rfl
@[simp] theorem State.refreshTally_timeline : s.refreshTally.timeline = s.timeline := rfl
@[simp] theorem State.refreshTally_edits : s.refreshTally.edits = s.edits := rfl
@[simp] theorem State.refreshTally_taps : s.refreshTally.taps = s.taps := rfl
@[simp] theorem State.refreshTally_quarantine : s.refreshTally.quarantine = s.quarantine := rfl
@[simp] theorem State.refreshTally_guardStep : s.refreshTally.guardStep = s.guardStep := rfl
@[simp] theorem State.refreshTally_panel : s.refreshTally.panel = { s.panel with tallies := s.tallyConditions } := rfl
@[simp] theorem State.refreshTally_store : s.refreshTally.store = s.store := rfl
@[simp] theorem State.refreshTally_pending : s.refreshTally.pending = s.pending := rfl

/-! ### `pruneSpent` -/

@[simp] theorem State.pruneSpent_startUp : s.pruneSpent.startUp = s.startUp := rfl
@[simp] theorem State.pruneSpent_link : s.pruneSpent.link = s.link := rfl
@[simp] theorem State.pruneSpent_capture : s.pruneSpent.capture = s.capture := rfl
@[simp] theorem State.pruneSpent_pool : s.pruneSpent.pool = s.pool := rfl
@[simp] theorem State.pruneSpent_timeline : s.pruneSpent.timeline = s.timeline := rfl
@[simp] theorem State.pruneSpent_edits : s.pruneSpent.edits = s.edits.filter fun e => !s.spent e := rfl
@[simp] theorem State.pruneSpent_taps : s.pruneSpent.taps = s.taps := rfl
@[simp] theorem State.pruneSpent_quarantine : s.pruneSpent.quarantine = s.quarantine := rfl
@[simp] theorem State.pruneSpent_guardStep : s.pruneSpent.guardStep = s.guardStep := rfl
@[simp] theorem State.pruneSpent_panel : s.pruneSpent.panel = s.panel := rfl
@[simp] theorem State.pruneSpent_store : s.pruneSpent.store = s.store := rfl
@[simp] theorem State.pruneSpent_pending : s.pruneSpent.pending = s.pending := rfl

/-! ### `modifyEntry` -/

@[simp] theorem State.modifyEntry_startUp (x : Word) (f : TimelineEntry → TimelineEntry) : (s.modifyEntry x f).startUp = s.startUp := rfl
@[simp] theorem State.modifyEntry_link (x : Word) (f : TimelineEntry → TimelineEntry) : (s.modifyEntry x f).link = s.link := rfl
@[simp] theorem State.modifyEntry_capture (x : Word) (f : TimelineEntry → TimelineEntry) : (s.modifyEntry x f).capture = s.capture := rfl
@[simp] theorem State.modifyEntry_pool (x : Word) (f : TimelineEntry → TimelineEntry) : (s.modifyEntry x f).pool = s.pool := rfl
@[simp] theorem State.modifyEntry_timeline (x : Word) (f : TimelineEntry → TimelineEntry) : (s.modifyEntry x f).timeline = { s.timeline with entries := s.timeline.entries.map fun e => if e.pi == x then f e else e } := rfl
@[simp] theorem State.modifyEntry_edits (x : Word) (f : TimelineEntry → TimelineEntry) : (s.modifyEntry x f).edits = s.edits := rfl
@[simp] theorem State.modifyEntry_taps (x : Word) (f : TimelineEntry → TimelineEntry) : (s.modifyEntry x f).taps = s.taps := rfl
@[simp] theorem State.modifyEntry_quarantine (x : Word) (f : TimelineEntry → TimelineEntry) : (s.modifyEntry x f).quarantine = s.quarantine := rfl
@[simp] theorem State.modifyEntry_guardStep (x : Word) (f : TimelineEntry → TimelineEntry) : (s.modifyEntry x f).guardStep = s.guardStep := rfl
@[simp] theorem State.modifyEntry_panel (x : Word) (f : TimelineEntry → TimelineEntry) : (s.modifyEntry x f).panel = s.panel := rfl
@[simp] theorem State.modifyEntry_store (x : Word) (f : TimelineEntry → TimelineEntry) : (s.modifyEntry x f).store = s.store := rfl
@[simp] theorem State.modifyEntry_pending (x : Word) (f : TimelineEntry → TimelineEntry) : (s.modifyEntry x f).pending = s.pending := rfl

/-! ### `pushEntry` -/

@[simp] theorem State.pushEntry_startUp (e : TimelineEntry) : (s.pushEntry e).startUp = s.startUp := rfl
@[simp] theorem State.pushEntry_link (e : TimelineEntry) : (s.pushEntry e).link = s.link := rfl
@[simp] theorem State.pushEntry_capture (e : TimelineEntry) : (s.pushEntry e).capture = s.capture := rfl
@[simp] theorem State.pushEntry_pool (e : TimelineEntry) : (s.pushEntry e).pool = s.pool := rfl
@[simp] theorem State.pushEntry_timeline (e : TimelineEntry) : (s.pushEntry e).timeline = { entries := s.timeline.entries ++ [{ e with pi := s.timeline.nextPi }], nextPi := s.timeline.nextPi + 1#32 } := rfl
@[simp] theorem State.pushEntry_edits (e : TimelineEntry) : (s.pushEntry e).edits = s.edits := rfl
@[simp] theorem State.pushEntry_taps (e : TimelineEntry) : (s.pushEntry e).taps = s.taps := rfl
@[simp] theorem State.pushEntry_quarantine (e : TimelineEntry) : (s.pushEntry e).quarantine = s.quarantine := rfl
@[simp] theorem State.pushEntry_guardStep (e : TimelineEntry) : (s.pushEntry e).guardStep = s.guardStep := rfl
@[simp] theorem State.pushEntry_panel (e : TimelineEntry) : (s.pushEntry e).panel = s.panel := rfl
@[simp] theorem State.pushEntry_store (e : TimelineEntry) : (s.pushEntry e).store = s.store := rfl
@[simp] theorem State.pushEntry_pending (e : TimelineEntry) : (s.pushEntry e).pending = s.pending := rfl

/-! ### `setPattern` -/

@[simp] theorem State.setPattern_startUp (r : Option PatternRun) : (s.setPattern r).startUp = s.startUp := rfl
@[simp] theorem State.setPattern_link (r : Option PatternRun) : (s.setPattern r).link = s.link := rfl
@[simp] theorem State.setPattern_capture (r : Option PatternRun) : (s.setPattern r).capture = s.capture := rfl
@[simp] theorem State.setPattern_pool (r : Option PatternRun) : (s.setPattern r).pool = { s.pool with pattern := r } := rfl
@[simp] theorem State.setPattern_timeline (r : Option PatternRun) : (s.setPattern r).timeline = s.timeline := rfl
@[simp] theorem State.setPattern_edits (r : Option PatternRun) : (s.setPattern r).edits = s.edits := rfl
@[simp] theorem State.setPattern_taps (r : Option PatternRun) : (s.setPattern r).taps = s.taps := rfl
@[simp] theorem State.setPattern_quarantine (r : Option PatternRun) : (s.setPattern r).quarantine = s.quarantine := rfl
@[simp] theorem State.setPattern_guardStep (r : Option PatternRun) : (s.setPattern r).guardStep = s.guardStep := rfl
@[simp] theorem State.setPattern_panel (r : Option PatternRun) : (s.setPattern r).panel = s.panel := rfl
@[simp] theorem State.setPattern_store (r : Option PatternRun) : (s.setPattern r).store = s.store := rfl
@[simp] theorem State.setPattern_pending (r : Option PatternRun) : (s.setPattern r).pending = s.pending := rfl

/-! ### `takeSnapshot` -/

@[simp] theorem State.takeSnapshot_startUp (t : Fin 4) (j : Nat) (b : Binding) : (s.takeSnapshot t j b).startUp = s.startUp := rfl
@[simp] theorem State.takeSnapshot_link (t : Fin 4) (j : Nat) (b : Binding) : (s.takeSnapshot t j b).link = s.link := rfl
@[simp] theorem State.takeSnapshot_capture (t : Fin 4) (j : Nat) (b : Binding) : (s.takeSnapshot t j b).capture = s.capture := rfl
@[simp] theorem State.takeSnapshot_pool (t : Fin 4) (j : Nat) (b : Binding) : (s.takeSnapshot t j b).pool = s.pool := rfl
@[simp] theorem State.takeSnapshot_timeline (t : Fin 4) (j : Nat) (b : Binding) : (s.takeSnapshot t j b).timeline = s.timeline := rfl
@[simp] theorem State.takeSnapshot_edits (t : Fin 4) (j : Nat) (b : Binding) : (s.takeSnapshot t j b).edits = s.edits := rfl
@[simp] theorem State.takeSnapshot_taps (t : Fin 4) (j : Nat) (b : Binding) : (s.takeSnapshot t j b).taps = s.taps.set t { s.taps.get t with current := some ⟨j, { b with header := s.servedHeader t b }⟩, latch := 0#32, report := none } := rfl
@[simp] theorem State.takeSnapshot_quarantine (t : Fin 4) (j : Nat) (b : Binding) : (s.takeSnapshot t j b).quarantine = s.quarantine := rfl
@[simp] theorem State.takeSnapshot_guardStep (t : Fin 4) (j : Nat) (b : Binding) : (s.takeSnapshot t j b).guardStep = s.guardStep := rfl
@[simp] theorem State.takeSnapshot_panel (t : Fin 4) (j : Nat) (b : Binding) : (s.takeSnapshot t j b).panel = s.panel := rfl
@[simp] theorem State.takeSnapshot_store (t : Fin 4) (j : Nat) (b : Binding) : (s.takeSnapshot t j b).store = s.store := rfl
@[simp] theorem State.takeSnapshot_pending (t : Fin 4) (j : Nat) (b : Binding) : (s.takeSnapshot t j b).pending = s.pending := rfl

/-! ### `setLock` -/

@[simp] theorem State.setLock_startUp (l : LockState) (a : Bool) : (s.setLock l a).startUp = s.startUp := rfl
@[simp] theorem State.setLock_link (l : LockState) (a : Bool) : (s.setLock l a).link = s.link := rfl
@[simp] theorem State.setLock_capture (l : LockState) (a : Bool) : (s.setLock l a).capture = s.capture := rfl
@[simp] theorem State.setLock_pool (l : LockState) (a : Bool) : (s.setLock l a).pool = s.pool := rfl
@[simp] theorem State.setLock_timeline (l : LockState) (a : Bool) : (s.setLock l a).timeline = s.timeline := rfl
@[simp] theorem State.setLock_edits (l : LockState) (a : Bool) : (s.setLock l a).edits = s.edits := rfl
@[simp] theorem State.setLock_taps (l : LockState) (a : Bool) : (s.setLock l a).taps = s.taps := rfl
@[simp] theorem State.setLock_quarantine (l : LockState) (a : Bool) : (s.setLock l a).quarantine = { s.quarantine with lock := l } := rfl
@[simp] theorem State.setLock_guardStep (l : LockState) (a : Bool) : (s.setLock l a).guardStep = s.guardStep := rfl
@[simp] theorem State.setLock_panel (l : LockState) (a : Bool) : (s.setLock l a).panel = s.panel := rfl
@[simp] theorem State.setLock_store (l : LockState) (a : Bool) : (s.setLock l a).store = { s.store with config := { s.store.config with lockAtStart := a } } := rfl
@[simp] theorem State.setLock_pending (l : LockState) (a : Bool) : (s.setLock l a).pending = s.pending := rfl

/-! ### `startWrite` -/

@[simp] theorem State.startWrite_startUp : s.startWrite.startUp = s.startUp := rfl
@[simp] theorem State.startWrite_link : s.startWrite.link = s.link := rfl
@[simp] theorem State.startWrite_capture : s.startWrite.capture = s.capture := rfl
@[simp] theorem State.startWrite_pool : s.startWrite.pool = s.pool := rfl
@[simp] theorem State.startWrite_timeline : s.startWrite.timeline = s.timeline := rfl
@[simp] theorem State.startWrite_edits : s.startWrite.edits = s.edits := rfl
@[simp] theorem State.startWrite_taps : s.startWrite.taps = s.taps := rfl
@[simp] theorem State.startWrite_quarantine : s.startWrite.quarantine = s.quarantine := rfl
@[simp] theorem State.startWrite_guardStep : s.startWrite.guardStep = s.guardStep := rfl
@[simp] theorem State.startWrite_panel : s.startWrite.panel = s.panel := rfl
@[simp] theorem State.startWrite_store : s.startWrite.store = { s.store with write := some ⟨buildRecord s.store.pendingGeometry s.store.config s.store.keptHard, 0⟩ } := rfl
@[simp] theorem State.startWrite_pending : s.startWrite.pending = s.pending := rfl

/-! ### `report` -/

@[simp] theorem State.report_startUp (c : Byte) (q : Word) (r : CmdResult) : (s.report c q r).startUp = s.startUp := rfl
@[simp] theorem State.report_link (c : Byte) (q : Word) (r : CmdResult) : (s.report c q r).link = s.link := rfl
@[simp] theorem State.report_capture (c : Byte) (q : Word) (r : CmdResult) : (s.report c q r).capture = s.capture := rfl
@[simp] theorem State.report_pool (c : Byte) (q : Word) (r : CmdResult) : (s.report c q r).pool = s.pool := rfl
@[simp] theorem State.report_timeline (c : Byte) (q : Word) (r : CmdResult) : (s.report c q r).timeline = s.timeline := rfl
@[simp] theorem State.report_edits (c : Byte) (q : Word) (r : CmdResult) : (s.report c q r).edits = s.edits := rfl
@[simp] theorem State.report_taps (c : Byte) (q : Word) (r : CmdResult) : (s.report c q r).taps = s.taps.map (Tap.takeResult c q r) := rfl
@[simp] theorem State.report_quarantine (c : Byte) (q : Word) (r : CmdResult) : (s.report c q r).quarantine = s.quarantine := rfl
@[simp] theorem State.report_guardStep (c : Byte) (q : Word) (r : CmdResult) : (s.report c q r).guardStep = s.guardStep := rfl
@[simp] theorem State.report_panel (c : Byte) (q : Word) (r : CmdResult) : (s.report c q r).panel = s.panel := rfl
@[simp] theorem State.report_store (c : Byte) (q : Word) (r : CmdResult) : (s.report c q r).store = s.store := rfl
@[simp] theorem State.report_pending (c : Byte) (q : Word) (r : CmdResult) : (s.report c q r).pending = s.pending := rfl

/-! ### `modifyFlight` -/

@[simp] theorem State.modifyFlight_startUp (tag : Fin 64) (f : InFlight → InFlight) : (s.modifyFlight tag f).startUp = s.startUp := rfl
@[simp] theorem State.modifyFlight_link (tag : Fin 64) (f : InFlight → InFlight) : (s.modifyFlight tag f).link = { s.link with inflight := s.link.inflight.map fun x => if x.req.tag == tag then f x else x } := rfl
@[simp] theorem State.modifyFlight_capture (tag : Fin 64) (f : InFlight → InFlight) : (s.modifyFlight tag f).capture = s.capture := rfl
@[simp] theorem State.modifyFlight_pool (tag : Fin 64) (f : InFlight → InFlight) : (s.modifyFlight tag f).pool = s.pool := rfl
@[simp] theorem State.modifyFlight_timeline (tag : Fin 64) (f : InFlight → InFlight) : (s.modifyFlight tag f).timeline = s.timeline := rfl
@[simp] theorem State.modifyFlight_edits (tag : Fin 64) (f : InFlight → InFlight) : (s.modifyFlight tag f).edits = s.edits := rfl
@[simp] theorem State.modifyFlight_taps (tag : Fin 64) (f : InFlight → InFlight) : (s.modifyFlight tag f).taps = s.taps := rfl
@[simp] theorem State.modifyFlight_quarantine (tag : Fin 64) (f : InFlight → InFlight) : (s.modifyFlight tag f).quarantine = s.quarantine := rfl
@[simp] theorem State.modifyFlight_guardStep (tag : Fin 64) (f : InFlight → InFlight) : (s.modifyFlight tag f).guardStep = s.guardStep := rfl
@[simp] theorem State.modifyFlight_panel (tag : Fin 64) (f : InFlight → InFlight) : (s.modifyFlight tag f).panel = s.panel := rfl
@[simp] theorem State.modifyFlight_store (tag : Fin 64) (f : InFlight → InFlight) : (s.modifyFlight tag f).store = s.store := rfl
@[simp] theorem State.modifyFlight_pending (tag : Fin 64) (f : InFlight → InFlight) : (s.modifyFlight tag f).pending = s.pending := rfl

/-! ### `dropFlight` -/

@[simp] theorem State.dropFlight_startUp (tag : Fin 64) : (s.dropFlight tag).startUp = s.startUp := rfl
@[simp] theorem State.dropFlight_link (tag : Fin 64) : (s.dropFlight tag).link = { s.link with inflight := s.link.inflight.filter fun x => x.req.tag != tag } := rfl
@[simp] theorem State.dropFlight_capture (tag : Fin 64) : (s.dropFlight tag).capture = s.capture := rfl
@[simp] theorem State.dropFlight_pool (tag : Fin 64) : (s.dropFlight tag).pool = s.pool := rfl
@[simp] theorem State.dropFlight_timeline (tag : Fin 64) : (s.dropFlight tag).timeline = s.timeline := rfl
@[simp] theorem State.dropFlight_edits (tag : Fin 64) : (s.dropFlight tag).edits = s.edits := rfl
@[simp] theorem State.dropFlight_taps (tag : Fin 64) : (s.dropFlight tag).taps = s.taps := rfl
@[simp] theorem State.dropFlight_quarantine (tag : Fin 64) : (s.dropFlight tag).quarantine = s.quarantine := rfl
@[simp] theorem State.dropFlight_guardStep (tag : Fin 64) : (s.dropFlight tag).guardStep = s.guardStep := rfl
@[simp] theorem State.dropFlight_panel (tag : Fin 64) : (s.dropFlight tag).panel = s.panel := rfl
@[simp] theorem State.dropFlight_store (tag : Fin 64) : (s.dropFlight tag).store = s.store := rfl
@[simp] theorem State.dropFlight_pending (tag : Fin 64) : (s.dropFlight tag).pending = s.pending := rfl

/-! ### `addFlight` -/

@[simp] theorem State.addFlight_startUp (f : InFlight) : (s.addFlight f).startUp = s.startUp := rfl
@[simp] theorem State.addFlight_link (f : InFlight) : (s.addFlight f).link = { s.link with inflight := s.link.inflight ++ [f] } := rfl
@[simp] theorem State.addFlight_capture (f : InFlight) : (s.addFlight f).capture = s.capture := rfl
@[simp] theorem State.addFlight_pool (f : InFlight) : (s.addFlight f).pool = s.pool := rfl
@[simp] theorem State.addFlight_timeline (f : InFlight) : (s.addFlight f).timeline = s.timeline := rfl
@[simp] theorem State.addFlight_edits (f : InFlight) : (s.addFlight f).edits = s.edits := rfl
@[simp] theorem State.addFlight_taps (f : InFlight) : (s.addFlight f).taps = s.taps := rfl
@[simp] theorem State.addFlight_quarantine (f : InFlight) : (s.addFlight f).quarantine = s.quarantine := rfl
@[simp] theorem State.addFlight_guardStep (f : InFlight) : (s.addFlight f).guardStep = s.guardStep := rfl
@[simp] theorem State.addFlight_panel (f : InFlight) : (s.addFlight f).panel = s.panel := rfl
@[simp] theorem State.addFlight_store (f : InFlight) : (s.addFlight f).store = s.store := rfl
@[simp] theorem State.addFlight_pending (f : InFlight) : (s.addFlight f).pending = s.pending := rfl

/-! ### `putReply` -/

@[simp] theorem State.putReply_startUp (tag : Fin 64) (r : Reply) : (s.putReply tag r).startUp = s.startUp := rfl
@[simp] theorem State.putReply_link (tag : Fin 64) (r : Reply) : (s.putReply tag r).link = { s.link with lastReturned := some ⟨tag, r⟩ } := rfl
@[simp] theorem State.putReply_capture (tag : Fin 64) (r : Reply) : (s.putReply tag r).capture = s.capture := rfl
@[simp] theorem State.putReply_pool (tag : Fin 64) (r : Reply) : (s.putReply tag r).pool = s.pool := rfl
@[simp] theorem State.putReply_timeline (tag : Fin 64) (r : Reply) : (s.putReply tag r).timeline = s.timeline := rfl
@[simp] theorem State.putReply_edits (tag : Fin 64) (r : Reply) : (s.putReply tag r).edits = s.edits := rfl
@[simp] theorem State.putReply_taps (tag : Fin 64) (r : Reply) : (s.putReply tag r).taps = s.taps := rfl
@[simp] theorem State.putReply_quarantine (tag : Fin 64) (r : Reply) : (s.putReply tag r).quarantine = s.quarantine := rfl
@[simp] theorem State.putReply_guardStep (tag : Fin 64) (r : Reply) : (s.putReply tag r).guardStep = s.guardStep := rfl
@[simp] theorem State.putReply_panel (tag : Fin 64) (r : Reply) : (s.putReply tag r).panel = s.panel := rfl
@[simp] theorem State.putReply_store (tag : Fin 64) (r : Reply) : (s.putReply tag r).store = s.store := rfl
@[simp] theorem State.putReply_pending (tag : Fin 64) (r : Reply) : (s.putReply tag r).pending = s.pending := rfl

/-! ### `plan` -/

@[simp] theorem State.plan_startUp (m : MRequest) : (s.plan m).startUp = s.startUp := rfl
@[simp] theorem State.plan_link (m : MRequest) : (s.plan m).link = { s.link with planned := s.link.planned ++ [m] } := rfl
@[simp] theorem State.plan_capture (m : MRequest) : (s.plan m).capture = s.capture := rfl
@[simp] theorem State.plan_pool (m : MRequest) : (s.plan m).pool = s.pool := rfl
@[simp] theorem State.plan_timeline (m : MRequest) : (s.plan m).timeline = s.timeline := rfl
@[simp] theorem State.plan_edits (m : MRequest) : (s.plan m).edits = s.edits := rfl
@[simp] theorem State.plan_taps (m : MRequest) : (s.plan m).taps = s.taps := rfl
@[simp] theorem State.plan_quarantine (m : MRequest) : (s.plan m).quarantine = s.quarantine := rfl
@[simp] theorem State.plan_guardStep (m : MRequest) : (s.plan m).guardStep = s.guardStep := rfl
@[simp] theorem State.plan_panel (m : MRequest) : (s.plan m).panel = s.panel := rfl
@[simp] theorem State.plan_store (m : MRequest) : (s.plan m).store = s.store := rfl
@[simp] theorem State.plan_pending (m : MRequest) : (s.plan m).pending = s.pending := rfl

/-! ### `dropOutstanding` -/

@[simp] theorem State.dropOutstanding_startUp (t : Fin 128) : (s.dropOutstanding t).startUp = s.startUp := rfl
@[simp] theorem State.dropOutstanding_link (t : Fin 128) : (s.dropOutstanding t).link = { s.link with outstanding := s.link.outstanding.filter fun r => r.tag != t } := rfl
@[simp] theorem State.dropOutstanding_capture (t : Fin 128) : (s.dropOutstanding t).capture = s.capture := rfl
@[simp] theorem State.dropOutstanding_pool (t : Fin 128) : (s.dropOutstanding t).pool = s.pool := rfl
@[simp] theorem State.dropOutstanding_timeline (t : Fin 128) : (s.dropOutstanding t).timeline = s.timeline := rfl
@[simp] theorem State.dropOutstanding_edits (t : Fin 128) : (s.dropOutstanding t).edits = s.edits := rfl
@[simp] theorem State.dropOutstanding_taps (t : Fin 128) : (s.dropOutstanding t).taps = s.taps := rfl
@[simp] theorem State.dropOutstanding_quarantine (t : Fin 128) : (s.dropOutstanding t).quarantine = s.quarantine := rfl
@[simp] theorem State.dropOutstanding_guardStep (t : Fin 128) : (s.dropOutstanding t).guardStep = s.guardStep := rfl
@[simp] theorem State.dropOutstanding_panel (t : Fin 128) : (s.dropOutstanding t).panel = s.panel := rfl
@[simp] theorem State.dropOutstanding_store (t : Fin 128) : (s.dropOutstanding t).store = s.store := rfl
@[simp] theorem State.dropOutstanding_pending (t : Fin 128) : (s.dropOutstanding t).pending = s.pending := rfl

/-! ### `issue` -/

@[simp] theorem State.issue_startUp (m : MRequest) : (s.issue m).startUp = s.startUp := rfl
@[simp] theorem State.issue_link (m : MRequest) : (s.issue m).link = { s.link with planned := s.link.planned.filter (fun x => x.tag != m.tag), outstanding := s.link.outstanding ++ [m] } := rfl
@[simp] theorem State.issue_capture (m : MRequest) : (s.issue m).capture = s.capture := rfl
@[simp] theorem State.issue_pool (m : MRequest) : (s.issue m).pool = s.pool := rfl
@[simp] theorem State.issue_timeline (m : MRequest) : (s.issue m).timeline = s.timeline := rfl
@[simp] theorem State.issue_edits (m : MRequest) : (s.issue m).edits = s.edits := rfl
@[simp] theorem State.issue_taps (m : MRequest) : (s.issue m).taps = s.taps := rfl
@[simp] theorem State.issue_quarantine (m : MRequest) : (s.issue m).quarantine = s.quarantine := rfl
@[simp] theorem State.issue_guardStep (m : MRequest) : (s.issue m).guardStep = s.guardStep := rfl
@[simp] theorem State.issue_panel (m : MRequest) : (s.issue m).panel = s.panel := rfl
@[simp] theorem State.issue_store (m : MRequest) : (s.issue m).store = s.store := rfl
@[simp] theorem State.issue_pending (m : MRequest) : (s.issue m).pending = s.pending := rfl

/-! ### `setPresented` -/

@[simp] theorem State.setPresented_startUp (r : Option LinkRequest) : (s.setPresented r).startUp = s.startUp := rfl
@[simp] theorem State.setPresented_link (r : Option LinkRequest) : (s.setPresented r).link = { s.link with presented := r } := rfl
@[simp] theorem State.setPresented_capture (r : Option LinkRequest) : (s.setPresented r).capture = s.capture := rfl
@[simp] theorem State.setPresented_pool (r : Option LinkRequest) : (s.setPresented r).pool = s.pool := rfl
@[simp] theorem State.setPresented_timeline (r : Option LinkRequest) : (s.setPresented r).timeline = s.timeline := rfl
@[simp] theorem State.setPresented_edits (r : Option LinkRequest) : (s.setPresented r).edits = s.edits := rfl
@[simp] theorem State.setPresented_taps (r : Option LinkRequest) : (s.setPresented r).taps = s.taps := rfl
@[simp] theorem State.setPresented_quarantine (r : Option LinkRequest) : (s.setPresented r).quarantine = s.quarantine := rfl
@[simp] theorem State.setPresented_guardStep (r : Option LinkRequest) : (s.setPresented r).guardStep = s.guardStep := rfl
@[simp] theorem State.setPresented_panel (r : Option LinkRequest) : (s.setPresented r).panel = s.panel := rfl
@[simp] theorem State.setPresented_store (r : Option LinkRequest) : (s.setPresented r).store = s.store := rfl
@[simp] theorem State.setPresented_pending (r : Option LinkRequest) : (s.setPresented r).pending = s.pending := rfl

/-! ### `releaseDrained` -/

@[simp] theorem State.releaseDrained_startUp (m : MRequest) : (s.releaseDrained m).startUp = s.startUp := rfl
@[simp] theorem State.releaseDrained_link (m : MRequest) : (s.releaseDrained m).link = { s.link with inflight := s.link.inflight.filter fun f => !(f.phase == .draining && forwardTag f.req.tag == m.tag) } := rfl
@[simp] theorem State.releaseDrained_capture (m : MRequest) : (s.releaseDrained m).capture = s.capture := rfl
@[simp] theorem State.releaseDrained_pool (m : MRequest) : (s.releaseDrained m).pool = s.pool := rfl
@[simp] theorem State.releaseDrained_timeline (m : MRequest) : (s.releaseDrained m).timeline = s.timeline := rfl
@[simp] theorem State.releaseDrained_edits (m : MRequest) : (s.releaseDrained m).edits = s.edits := rfl
@[simp] theorem State.releaseDrained_taps (m : MRequest) : (s.releaseDrained m).taps = s.taps := rfl
@[simp] theorem State.releaseDrained_quarantine (m : MRequest) : (s.releaseDrained m).quarantine = s.quarantine := rfl
@[simp] theorem State.releaseDrained_guardStep (m : MRequest) : (s.releaseDrained m).guardStep = s.guardStep := rfl
@[simp] theorem State.releaseDrained_panel (m : MRequest) : (s.releaseDrained m).panel = s.panel := rfl
@[simp] theorem State.releaseDrained_store (m : MRequest) : (s.releaseDrained m).store = s.store := rfl
@[simp] theorem State.releaseDrained_pending (m : MRequest) : (s.releaseDrained m).pending = s.pending := rfl

/-! ### `setContexts` -/

@[simp] theorem State.setContexts_startUp (cs : List Context) : (s.setContexts cs).startUp = s.startUp := rfl
@[simp] theorem State.setContexts_link (cs : List Context) : (s.setContexts cs).link = s.link := rfl
@[simp] theorem State.setContexts_capture (cs : List Context) : (s.setContexts cs).capture = { s.capture with contexts := cs } := rfl
@[simp] theorem State.setContexts_pool (cs : List Context) : (s.setContexts cs).pool = s.pool := rfl
@[simp] theorem State.setContexts_timeline (cs : List Context) : (s.setContexts cs).timeline = s.timeline := rfl
@[simp] theorem State.setContexts_edits (cs : List Context) : (s.setContexts cs).edits = s.edits := rfl
@[simp] theorem State.setContexts_taps (cs : List Context) : (s.setContexts cs).taps = s.taps := rfl
@[simp] theorem State.setContexts_quarantine (cs : List Context) : (s.setContexts cs).quarantine = s.quarantine := rfl
@[simp] theorem State.setContexts_guardStep (cs : List Context) : (s.setContexts cs).guardStep = s.guardStep := rfl
@[simp] theorem State.setContexts_panel (cs : List Context) : (s.setContexts cs).panel = s.panel := rfl
@[simp] theorem State.setContexts_store (cs : List Context) : (s.setContexts cs).store = s.store := rfl
@[simp] theorem State.setContexts_pending (cs : List Context) : (s.setContexts cs).pending = s.pending := rfl

/-! ### `openDiscard` -/

@[simp] theorem State.openDiscard_startUp (k : Nat) : (s.openDiscard k).startUp = s.startUp := rfl
@[simp] theorem State.openDiscard_link (k : Nat) : (s.openDiscard k).link = s.link := rfl
@[simp] theorem State.openDiscard_capture (k : Nat) : (s.openDiscard k).capture = { s.capture with contexts := s.capture.contexts ++ [{ slot := k, state := .discard, body := none }] } := rfl
@[simp] theorem State.openDiscard_pool (k : Nat) : (s.openDiscard k).pool = s.pool := rfl
@[simp] theorem State.openDiscard_timeline (k : Nat) : (s.openDiscard k).timeline = s.timeline := rfl
@[simp] theorem State.openDiscard_edits (k : Nat) : (s.openDiscard k).edits = s.edits := rfl
@[simp] theorem State.openDiscard_taps (k : Nat) : (s.openDiscard k).taps = s.taps := rfl
@[simp] theorem State.openDiscard_quarantine (k : Nat) : (s.openDiscard k).quarantine = s.quarantine := rfl
@[simp] theorem State.openDiscard_guardStep (k : Nat) : (s.openDiscard k).guardStep = s.guardStep := rfl
@[simp] theorem State.openDiscard_panel (k : Nat) : (s.openDiscard k).panel = s.panel := rfl
@[simp] theorem State.openDiscard_store (k : Nat) : (s.openDiscard k).store = s.store := rfl
@[simp] theorem State.openDiscard_pending (k : Nat) : (s.openDiscard k).pending = s.pending := rfl

/-! ### `dropPins` -/

@[simp] theorem State.dropPins_startUp : s.dropPins.startUp = s.startUp := rfl
@[simp] theorem State.dropPins_link : s.dropPins.link = s.link := rfl
@[simp] theorem State.dropPins_capture : s.dropPins.capture = s.capture := rfl
@[simp] theorem State.dropPins_pool : s.dropPins.pool = { s.pool with segs := s.pool.segs.map fun g => { g with pins := 0 } } := rfl
@[simp] theorem State.dropPins_timeline : s.dropPins.timeline = s.timeline := rfl
@[simp] theorem State.dropPins_edits : s.dropPins.edits = s.edits := rfl
@[simp] theorem State.dropPins_taps : s.dropPins.taps = s.taps := rfl
@[simp] theorem State.dropPins_quarantine : s.dropPins.quarantine = s.quarantine := rfl
@[simp] theorem State.dropPins_guardStep : s.dropPins.guardStep = s.guardStep := rfl
@[simp] theorem State.dropPins_panel : s.dropPins.panel = s.panel := rfl
@[simp] theorem State.dropPins_store : s.dropPins.store = s.store := rfl
@[simp] theorem State.dropPins_pending : s.dropPins.pending = s.pending := rfl

end Sys2Proof.Machine
end

