-- ==== Sys2Proof/Laws/PerTap.lean ====
section
/-! SUPPORT. Reading one tap's value after an update. -/

namespace Sys2Proof.Machine

@[simp] theorem PerTap.get_set_same {α : Type} (v : PerTap α) (t : Fin 4) (x : α) : (v.set t x).get t = x := by
  match t with
  | 0 => rfl
  | 1 => rfl
  | 2 => rfl
  | 3 => rfl

theorem PerTap.get_set_other {α : Type} (v : PerTap α) {t u : Fin 4} (x : α) (h : u ≠ t) : (v.set t x).get u = v.get u := by
  match t, u with
  | 0, 0 => exact absurd rfl h
  | 0, 1 => rfl
  | 0, 2 => rfl
  | 0, 3 => rfl
  | 1, 0 => rfl
  | 1, 1 => exact absurd rfl h
  | 1, 2 => rfl
  | 1, 3 => rfl
  | 2, 0 => rfl
  | 2, 1 => rfl
  | 2, 2 => exact absurd rfl h
  | 2, 3 => rfl
  | 3, 0 => rfl
  | 3, 1 => rfl
  | 3, 2 => rfl
  | 3, 3 => exact absurd rfl h

theorem PerTap.get_set {α : Type} (v : PerTap α) (t u : Fin 4) (x : α) :
    (v.set t x).get u = if u = t then x else v.get u := by
  split
  · next h => rw [h, PerTap.get_set_same]
  · next h => exact PerTap.get_set_other v x h

@[simp] theorem PerTap.get_map {α β : Type} (f : α → β) (v : PerTap α) (t : Fin 4) : (v.map f).get t = f (v.get t) := by
  match t with
  | 0 => rfl
  | 1 => rfl
  | 2 => rfl
  | 3 => rfl

theorem PerTap.ext_get {α : Type} {v w : PerTap α} (h : ∀ t, v.get t = w.get t) : v = w := by
  obtain ⟨a, b, c, d⟩ := v
  obtain ⟨a', b', c', d'⟩ := w
  have h0 := h 0; have h1 := h 1; have h2 := h 2; have h3 := h 3
  simp only [PerTap.get] at h0 h1 h2 h3
  rw [h0, h1, h2, h3]

@[simp] theorem State.tap_setTap_same (s : State) (t : Fin 4) (x : Tap) : (s.setTap t x).tap t = x := PerTap.get_set_same _ _ _

theorem State.tap_setTap (s : State) (t u : Fin 4) (x : Tap) : (s.setTap t x).tap u = if u = t then x else s.tap u :=
  PerTap.get_set _ _ _ _

@[simp] theorem State.tap_modifyTap_same (s : State) (t : Fin 4) (f : Tap → Tap) : (s.modifyTap t f).tap t = f (s.tap t) :=
  PerTap.get_set_same _ _ _

theorem State.tap_modifyTap (s : State) (t u : Fin 4) (f : Tap → Tap) :
    (s.modifyTap t f).tap u = if u = t then f (s.tap t) else s.tap u :=
  PerTap.get_set _ _ _ _

@[simp] theorem State.tap_raiseAll (s : State) (e : Event) (t : Fin 4) : (s.raiseAll e).tap t = (s.tap t).raise e :=
  PerTap.get_map _ _ _

@[simp] theorem State.tap_report (s : State) (c : Byte) (q : Word) (r : CmdResult) (t : Fin 4) :
    (s.report c q r).tap t = Tap.takeResult c q r (s.tap t) :=
  PerTap.get_map _ _ _

@[simp] theorem State.settings_setSettings_same (s : State) (t : Fin 4) (x : TapSettings) : (s.setSettings t x).settings t = x :=
  PerTap.get_set_same _ _ _

theorem State.settings_setSettings (s : State) (t u : Fin 4) (x : TapSettings) :
    (s.setSettings t x).settings u = if u = t then x else s.settings u :=
  PerTap.get_set _ _ _ _

@[simp] theorem State.settings_setTap (s : State) (t u : Fin 4) (x : Tap) : (s.setTap t x).settings u = s.settings u := rfl

@[simp] theorem State.tap_setSettings (s : State) (t u : Fin 4) (x : TapSettings) : (s.setSettings t x).tap u = s.tap u := rfl

@[simp] theorem State.tap_modifySeg (s : State) (p : Nat) (f : Segment → Segment) (t : Fin 4) : (s.modifySeg p f).tap t = s.tap t := rfl

theorem State.seg_modifySeg (s : State) (p q : Nat) (f : Segment → Segment) :
    (s.modifySeg p f).seg? q = if p = q then (s.seg? q).map f else s.seg? q := by
  unfold State.seg? State.modifySeg
  simp only [List.getElem?_modify]
  split <;> simp

end Sys2Proof.Machine
end

