-- ==== Sys2Proof/Laws/Interior.lean ====
section
/-! SUPPORT. What the operations of the pool, the quarantine, the timeline, the edit list and the tap engines leave alone: one lemma
per shared operation, cited in place of unfolding it. -/

namespace Sys2Proof.Machine

/-- `t` differs from `s` at most in the segment records, the timeline, the edit list, the tap contexts, the quarantine's records and the
per-tap settings. -/
structure Interior (s t : State) : Prop where
  startUp : t.startUp = s.startUp
  link : t.link = s.link
  capture : t.capture = s.capture
  guardStep : t.guardStep = s.guardStep
  panel : t.panel = s.panel
  pending : t.pending = s.pending
  lock : t.quarantine.lock = s.quarantine.lock
  segCount : t.pool.segs.length = s.pool.segs.length
  pool : t.pool = { s.pool with segs := t.pool.segs }
  config : t.store.config = { s.store.config with taps := t.store.config.taps }
  store : t.store = { s.store with config := t.store.config }

theorem Interior.refl (s : State) : Interior s s := ⟨rfl, rfl, rfl, rfl, rfl, rfl, rfl, rfl, rfl, rfl, rfl⟩

theorem Interior.trans {s t u : State} (h : Interior s t) (k : Interior t u) : Interior s u where
  startUp := k.startUp.trans h.startUp
  link := k.link.trans h.link
  capture := k.capture.trans h.capture
  guardStep := k.guardStep.trans h.guardStep
  panel := k.panel.trans h.panel
  pending := k.pending.trans h.pending
  lock := k.lock.trans h.lock
  segCount := k.segCount.trans h.segCount
  pool := by rw [k.pool, h.pool]
  config := by rw [k.config, h.config]
  store := by rw [k.store, h.store]

theorem Interior.foldl {α : Type} {f : State → α → State} (h : ∀ s x, Interior s (f s x)) :
    ∀ (l : List α) (s : State), Interior s (l.foldl f s)
  | [], s => .refl s
  | x :: l, s => (h s x).trans (Interior.foldl h l (f s x))

theorem Interior.ite {s t u : State} {c : Prop} [Decidable c] (h : Interior s t) (k : Interior s u) :
    Interior s (if c then t else u) := by split <;> assumption

theorem Interior.quarCap {s t : State} (h : Interior s t) : t.quarCap = s.quarCap := by
  unfold State.quarCap; rw [h.config]

/-! ### Primitive updates -/

theorem Interior.setTap (s : State) (t : Fin 4) (x : Tap) : Interior s (s.setTap t x) := ⟨rfl, rfl, rfl, rfl, rfl, rfl, rfl, rfl, rfl, rfl, rfl⟩
theorem Interior.modifyTap (s : State) (t : Fin 4) (f : Tap → Tap) : Interior s (s.modifyTap t f) := .setTap s t _
theorem Interior.setSettings (s : State) (t : Fin 4) (x : TapSettings) : Interior s (s.setSettings t x) :=
  ⟨rfl, rfl, rfl, rfl, rfl, rfl, rfl, rfl, rfl, rfl, rfl⟩
theorem Interior.raiseTap (s : State) (t : Fin 4) (e : Event) : Interior s (s.raiseTap t e) := .modifyTap s t _
theorem Interior.raiseAll (s : State) (e : Event) : Interior s (s.raiseAll e) := ⟨rfl, rfl, rfl, rfl, rfl, rfl, rfl, rfl, rfl, rfl, rfl⟩
theorem Interior.report (s : State) (c : Byte) (q : Word) (r : CmdResult) : Interior s (s.report c q r) :=
  ⟨rfl, rfl, rfl, rfl, rfl, rfl, rfl, rfl, rfl, rfl, rfl⟩
theorem Interior.raiseUnless (s : State) (q : Bool) (e : Event) : Interior s (s.raiseUnless q e) := .ite (.refl s) (.raiseAll s e)
theorem Interior.modifySeg (s : State) (p : Nat) (f : Segment → Segment) : Interior s (s.modifySeg p f) :=
  ⟨rfl, rfl, rfl, rfl, rfl, rfl, rfl, List.length_modify .., rfl, rfl, rfl⟩
theorem Interior.modifyEntry (s : State) (x : Word) (f : TimelineEntry → TimelineEntry) : Interior s (s.modifyEntry x f) :=
  ⟨rfl, rfl, rfl, rfl, rfl, rfl, rfl, rfl, rfl, rfl, rfl⟩
theorem Interior.pushEntry (s : State) (e : TimelineEntry) : Interior s (s.pushEntry e) := ⟨rfl, rfl, rfl, rfl, rfl, rfl, rfl, rfl, rfl, rfl, rfl⟩
theorem Interior.pruneSpent (s : State) : Interior s s.pruneSpent := ⟨rfl, rfl, rfl, rfl, rfl, rfl, rfl, rfl, rfl, rfl, rfl⟩
theorem Interior.withEdits (s : State) (es : List Edit) : Interior s { s with edits := es } := ⟨rfl, rfl, rfl, rfl, rfl, rfl, rfl, rfl, rfl, rfl, rfl⟩
theorem Interior.withTimeline (s : State) (tl : Timeline) : Interior s { s with timeline := tl } := ⟨rfl, rfl, rfl, rfl, rfl, rfl, rfl, rfl, rfl, rfl, rfl⟩
theorem Interior.withRecords (s : State) (rs : List SegmentRecord) :
    Interior s { s with quarantine := { s.quarantine with records := rs } } := ⟨rfl, rfl, rfl, rfl, rfl, rfl, rfl, rfl, rfl, rfl, rfl⟩
theorem Interior.withTaps (s : State) (v : PerTap Tap) : Interior s { s with taps := v } := ⟨rfl, rfl, rfl, rfl, rfl, rfl, rfl, rfl, rfl, rfl, rfl⟩
theorem Interior.pin (s : State) (p : Nat) : Interior s (s.pin p) := .modifySeg s p _
theorem Interior.raiseOutstanding (s : State) (p : Nat) : Interior s (s.raiseOutstanding p) := .modifySeg s p _
theorem Interior.lowerOutstanding (s : State) (p : Nat) : Interior s (s.lowerOutstanding p) := .modifySeg s p _
theorem Interior.takeSegment (s : State) (p : Nat) : Interior s (s.takeSegment p) := .modifySeg s p _
theorem Interior.takeSnapshot (s : State) (t : Fin 4) (j : Nat) (b : Binding) : Interior s (s.takeSnapshot t j b) := .modifyTap s t _

/-! ### Pool and quarantine -/

theorem Interior.clampTap (ceil : Nat) (s : State) (t : Fin 4) : Interior s (s.clampTap ceil t) := by
  unfold State.clampTap
  exact .ite ((Interior.setSettings ..).trans (.setTap ..)) (.refl s)

theorem Interior.retire (s : State) (p : Nat) : Interior s (s.retire p) := by
  have h1 := (Interior.modifySeg s p fun g => { g with state := .retired }).trans (.raiseAll _ .retired)
  unfold State.retire
  exact .ite (h1.trans ((Interior.raiseAll ..).trans (.foldl (fun s t => .clampTap _ s t) ..))) h1

theorem Interior.freeSeg (s : State) (p : Nat) : Interior s (s.freeSeg p) := by
  unfold State.freeSeg
  split
  · exact .refl s
  · exact .ite ((Interior.modifySeg ..).trans (.retire ..)) ((Interior.modifySeg ..).trans (.modifySeg ..))

theorem Interior.countFault (s : State) (p : Nat) : Interior s (s.countFault p) := by
  unfold State.countFault
  split
  · exact .refl s
  · exact .ite (.refl s) (.ite ((Interior.modifySeg ..).trans (.retire ..)) (.modifySeg ..))

theorem Interior.takeRecord (s : State) (r : SegmentRecord) : Interior s (s.takeRecord r) := by
  unfold State.takeRecord; exact (Interior.withRecords ..).trans (.modifySeg ..)

theorem Interior.offer (q : Bool) (s : State) (r : SegmentRecord) : Interior s (State.offer q s r) := by
  unfold State.offer
  refine .ite (.freeSeg ..) (.ite (.takeRecord ..) ?_)
  split
  · exact (((Interior.withRecords ..).trans (.raiseUnless ..)).trans (.freeSeg ..)).trans (.takeRecord ..)
  · exact (Interior.raiseUnless ..).trans (.freeSeg ..)

theorem Interior.handOver (s : State) (p : Nat) (r : Option SegmentRecord) : Interior s (s.handOver p r) := by
  unfold State.handOver
  split
  · exact .freeSeg ..
  · exact .ite (.freeSeg ..) (.offer ..)

theorem Interior.unpin (s : State) (p : Nat) : Interior s (s.unpin p) := by
  unfold State.unpin
  split
  · exact .refl s
  · exact .ite ((Interior.modifySeg ..).trans (.handOver ..)) (.modifySeg ..)

theorem Interior.pinOpt (s : State) (p : Option Nat) : Interior s (s.pinOpt p) := by
  cases p
  · exact .refl s
  · exact .pin ..

theorem Interior.unpinOpt (s : State) (p : Option Nat) : Interior s (s.unpinOpt p) := by
  cases p
  · exact .refl s
  · exact .unpin ..

/-! ### Timeline -/

theorem Interior.handOn (s : State) (e : TimelineEntry) : Interior s (s.handOn e) := by
  unfold State.handOn
  split
  · exact .refl s
  · split
    · exact .refl s
    · exact .ite (.modifySeg ..) (.ite (.freeSeg ..) (.offer ..))

theorem Interior.departHead (s : State) : Interior s s.departHead := by
  unfold State.departHead
  split
  · exact .refl s
  · exact (Interior.withTimeline ..).trans (.handOn ..)

theorem Interior.departDue : ∀ (n : Nat) (s : State), Interior s (State.departDue n s)
  | 0, s => .refl s
  | n + 1, s => by
    unfold State.departDue
    split
    · exact .refl s
    · exact .ite ((Interior.departHead s).trans (Interior.departDue n _)) (.refl s)

theorem Interior.settle (s : State) : Interior s s.settle := by
  unfold State.settle; exact (Interior.departDue ..).trans (.pruneSpent ..)

theorem Interior.markWithheld (s : State) (t : Fin 4) (x : Word) : Interior s (s.markWithheld t x) := by
  unfold State.markWithheld
  split
  · exact .refl s
  · exact .modifyEntry ..

theorem Interior.passOver (t : Fin 4) (s : State) (e : TimelineEntry) : Interior s (State.passOver t s e) := by
  unfold State.passOver
  exact .ite (.refl s) ((Interior.markWithheld ..).trans (.modifyTap ..))

theorem Interior.dragTap (h : Word) (s : State) (t : Fin 4) : Interior s (State.dragTap h s t) := by
  unfold State.dragTap
  exact .ite ((Interior.markWithheld ..).trans (.setTap ..)) (.refl s)

theorem Interior.forceDepart (s : State) : Interior s s.forceDepart := by
  unfold State.forceDepart
  split
  · exact .refl s
  · exact ((Interior.foldl (fun s t => .dragTap _ s t) ..).trans (.departHead ..)).trans (.pruneSpent ..)

theorem Interior.append (s : State) (e : TimelineEntry) : Interior s (s.append e) := by
  have h : Interior s (if Config.timelineCapacity ≤ s.timeline.entries.length then s.forceDepart else s) :=
    .ite (.forceDepart s) (.refl s)
  unfold State.append
  exact .ite ((h.trans (.pushEntry ..)).trans (.settle ..)) (h.trans (.pushEntry ..))

theorem Interior.appendRun (s : State) (run : List GapCause) : Interior s (s.appendRun run) :=
  Interior.foldl (f := fun s c => s.append (gapEntry c)) (fun _ _ => .append ..) run s

theorem Interior.evictFor (s : State) (e : TimelineEntry) : Interior s (s.evictFor e).1 := by
  unfold State.evictFor
  split
  · exact .refl s
  · exact ((Interior.modifyEntry ..).trans (.freeSeg ..)).trans (.takeSegment ..)

theorem Interior.relieve (s : State) : Interior s s.relieve.1 := by
  unfold State.relieve
  split
  · exact (((Interior.withRecords ..).trans (.raiseAll ..)).trans (.freeSeg ..)).trans (.takeSegment ..)
  · split
    · exact (Interior.raiseAll ..).trans (.evictFor ..)
    · split
      · exact (Interior.ite (.raiseAll ..) ((Interior.raiseAll ..).trans (.raiseAll ..))).trans (.evictFor ..)
      · exact .refl s

theorem Interior.allocate (s : State) : Interior s s.allocate.1 := by
  unfold State.allocate
  split
  · exact .takeSegment ..
  · exact .relieve s

/-! ### Edit list -/

theorem Interior.raiseLate (new : Edit) (s : State) (t : Fin 4) : Interior s (State.raiseLate new s t) := by
  unfold State.raiseLate; exact .ite (.raiseTap ..) (.refl s)

theorem Interior.tookRange (s : State) (new : Edit) (es : List Edit) : Interior s (s.tookRange new es) := by
  unfold State.tookRange
  exact ((Interior.withEdits ..).trans (.foldl (fun s t => .raiseLate _ s t) ..)).trans (.pruneSpent ..)

theorem Interior.dump (s : State) : Interior s s.dump := by
  unfold State.dump
  split
  · exact .raiseAll ..
  · dsimp only
    split
    · exact .tookRange ..
    · exact (Interior.tookRange ..).trans (.raiseAll ..)

theorem Interior.openMask (s : State) : Interior s s.openMask := by
  unfold State.openMask
  refine .ite (.refl s) ?_
  dsimp only
  split
  · exact .tookRange ..
  · exact (Interior.tookRange ..).trans (.raiseAll ..)

theorem Interior.closeMask (s : State) : Interior s s.closeMask := by
  unfold State.closeMask; exact (Interior.withEdits ..).trans (.pruneSpent ..)

theorem Interior.present (s : State) (n : Word) (c : Bool) : Interior s (s.present n c) := by
  unfold State.present
  exact (((Interior.withEdits ..).trans (.raiseUnless ..)).trans (.raiseUnless ..)).trans (.pruneSpent ..)

theorem Interior.mark (s : State) (k : EditKind) (m : BitVec 4) (c : Nat) (q : Word) : Interior s (s.mark k m c q).1 := by
  unfold State.mark
  split
  · exact .refl s
  · dsimp only
    split
    · exact .refl s
    · split
      · exact .refl s
      · exact (Interior.raiseUnless ..).trans (.tookRange ..)

theorem Interior.cancelEdit (s : State) (id : Nat) : Interior s (s.cancelEdit id).1 := by
  unfold State.cancelEdit
  split
  · exact .refl s
  · split
    · exact .refl s
    · exact .withEdits ..

/-! ### Tap engines -/

theorem Interior.dropReferences (s : State) (t : Fin 4) : Interior s (s.dropReferences t) := by
  unfold State.dropReferences
  exact (((Interior.setTap ..).trans (.unpinOpt ..)).trans (.unpinOpt ..)).trans (.unpinOpt ..)

theorem Interior.tapOn (p : StartPolicy) (s : State) (t : Fin 4) : Interior s (State.tapOn p s t) := by
  unfold State.tapOn; exact (Interior.dropReferences ..).trans (.modifyTap ..)

theorem Interior.tapOff (s : State) (t : Fin 4) : Interior s (s.tapOff t) := by
  unfold State.tapOff; exact .ite ((Interior.dropReferences ..).trans (.modifyTap ..)) (.refl s)

theorem Interior.bindEntry (s : State) (t : Fin 4) (e : TimelineEntry) (a p : Bool) : Interior s (s.bindEntry t e a p).1 := by
  unfold State.bindEntry
  dsimp only
  split
  · exact .setTap ..
  · split <;> exact .setTap ..

theorem Interior.bindUnderrun (s : State) (t : Fin 4) : Interior s (s.bindUnderrun t).1 := by
  unfold State.bindUnderrun; exact .setTap ..

theorem Interior.bindPaced (s : State) (t : Fin 4) (m : PacerMode) (c : TimelineEntry) (after : List TimelineEntry) (p : Bool) :
    Interior s (s.bindPaced t m c after p).1 := by
  unfold State.bindPaced
  dsimp only
  cases m with
  | steady => exact (Interior.setTap ..).trans (.bindEntry ..)
  | build =>
    dsimp only
    split
    · exact .setTap ..
    · exact (Interior.setTap ..).trans (.bindEntry ..)
  | shed =>
    dsimp only
    split
    · exact ((Interior.setTap ..).trans (.foldl (fun s e => .passOver _ s e) ..)).trans (.bindEntry ..)
    · exact (Interior.setTap ..).trans (.bindEntry ..)

theorem Interior.bindRun (s : State) (t : Fin 4) : Interior s (s.bindRun t).1 := by
  have h (l : List TimelineEntry) : Interior s (l.foldl (State.passOver t) s) := .foldl (fun s e => .passOver t s e) l s
  unfold State.bindRun
  dsimp only
  split
  · exact (h _).trans (.bindUnderrun ..)
  · exact (h _).trans (.bindPaced ..)

theorem Interior.bindPosition (s : State) (t : Fin 4) : Interior s (s.bindPosition t).1 := by
  unfold State.bindPosition
  dsimp only
  split
  · split
    · exact .setTap ..
    · exact (Interior.setTap ..).trans (.bindRun ..)
  · exact .bindRun ..
  · exact .refl s

theorem Interior.movePins (s : State) (b : Binding) (p : Option SlotBinding) (x y : Option RepeatSource) :
    Interior s (s.movePins b p x y) := by
  unfold State.movePins
  have h2 : Interior s (if b.kind = .program then (s.pinOpt b.phys).pinOpt (y.map (·.phys)) else s.pinOpt b.phys) :=
    .ite ((Interior.pinOpt ..).trans (.pinOpt ..)) (.pinOpt ..)
  have h3 := h2.trans (.unpinOpt _ (p.bind (·.binding.phys)))
  exact .ite (h3.trans (.unpinOpt ..)) h3

theorem Interior.advance (s : State) (t : Fin 4) (j : Nat) : Interior s (s.advance t j) := by
  unfold State.advance
  exact ((((Interior.setTap ..).trans (.bindPosition ..)).trans (.movePins ..)).trans (.settle ..)).trans (.takeSnapshot ..)

end Sys2Proof.Machine
end

