-- ==== Sys2Proof/Laws/Commits.lean ====
section
/-! SUPPORT. What commits, control entries and capture writes leave alone: one lemma per shared operation of the command decoder, the
capture unit and the interposer. -/

namespace Sys2Proof.Machine

/-- What no control entry, commit or capture write changes. -/
structure Outer (s t : State) : Prop where
  startUp : t.startUp = s.startUp
  panel : t.panel = s.panel
  pending : t.pending = s.pending
  linkGeometry : t.link.geometry = s.link.geometry
  geometry : t.store.config.geometry = s.store.config.geometry
  contents : t.store.contents = s.store.contents
  invalid : t.store.invalid = s.store.invalid
  segCount : t.pool.segs.length = s.pool.segs.length

/-- What no control entry and no commit changes: `Outer` and the whole link. -/
structure Inner (s t : State) : Prop extends Outer s t where
  link : t.link = s.link

theorem Outer.refl (s : State) : Outer s s := ⟨rfl, rfl, rfl, rfl, rfl, rfl, rfl, rfl⟩

theorem Outer.trans {s t u : State} (h : Outer s t) (k : Outer t u) : Outer s u where
  startUp := k.startUp.trans h.startUp
  panel := k.panel.trans h.panel
  pending := k.pending.trans h.pending
  linkGeometry := k.linkGeometry.trans h.linkGeometry
  geometry := k.geometry.trans h.geometry
  contents := k.contents.trans h.contents
  invalid := k.invalid.trans h.invalid
  segCount := k.segCount.trans h.segCount

theorem Inner.refl (s : State) : Inner s s := ⟨.refl s, rfl⟩

theorem Inner.trans {s t u : State} (h : Inner s t) (k : Inner t u) : Inner s u :=
  ⟨h.toOuter.trans k.toOuter, k.link.trans h.link⟩

theorem Interior.inner {s t : State} (h : Interior s t) : Inner s t where
  startUp := h.startUp
  panel := h.panel
  pending := h.pending
  linkGeometry := by rw [h.link]
  geometry := by rw [h.config]
  contents := by rw [h.store]
  invalid := by rw [h.store]
  segCount := h.segCount
  link := h.link

theorem Inner.foldl {α : Type} {f : State → α → State} (h : ∀ s x, Inner s (f s x)) :
    ∀ (l : List α) (s : State), Inner s (l.foldl f s)
  | [], s => .refl s
  | x :: l, s => (h s x).trans (Inner.foldl h l (f s x))

theorem Outer.foldl {α : Type} {f : State → α → State} (h : ∀ s x, Outer s (f s x)) :
    ∀ (l : List α) (s : State), Outer s (l.foldl f s)
  | [], s => .refl s
  | x :: l, s => (h s x).trans (Outer.foldl h l (f s x))

theorem Inner.ite {s t u : State} {c : Prop} [Decidable c] (h : Inner s t) (k : Inner s u) : Inner s (if c then t else u) := by
  split <;> assumption

/-! ### Primitive updates -/

theorem Inner.setContexts (s : State) (cs : List Context) : Inner s (s.setContexts cs) := ⟨⟨rfl, rfl, rfl, rfl, rfl, rfl, rfl, rfl⟩, rfl⟩
theorem Inner.withCapture (s : State) (c : CaptureUnit) : Inner s { s with capture := c } := ⟨⟨rfl, rfl, rfl, rfl, rfl, rfl, rfl, rfl⟩, rfl⟩
theorem Inner.withGuard (s : State) (n : Nat) : Inner s { s with guardStep := n } := ⟨⟨rfl, rfl, rfl, rfl, rfl, rfl, rfl, rfl⟩, rfl⟩
theorem Inner.setPattern (s : State) (r : Option PatternRun) : Inner s (s.setPattern r) := ⟨⟨rfl, rfl, rfl, rfl, rfl, rfl, rfl, rfl⟩, rfl⟩
theorem Inner.setLock (s : State) (l : LockState) (a : Bool) : Inner s (s.setLock l a) := ⟨⟨rfl, rfl, rfl, rfl, rfl, rfl, rfl, rfl⟩, rfl⟩
theorem Inner.startWrite (s : State) : Inner s s.startWrite := ⟨⟨rfl, rfl, rfl, rfl, rfl, rfl, rfl, rfl⟩, rfl⟩
theorem Inner.openDiscard (s : State) (k : Nat) : Inner s (s.openDiscard k) := .setContexts s _
theorem Outer.withLink (s : State) (l : Interposer) (h : l.geometry = s.link.geometry) : Outer s { s with link := l } :=
  ⟨rfl, rfl, rfl, h, rfl, rfl, rfl, rfl⟩
theorem Outer.modifyFlight (s : State) (t : Fin 64) (f : InFlight → InFlight) : Outer s (s.modifyFlight t f) := .withLink s _ rfl
theorem Outer.plan (s : State) (m : MRequest) : Outer s (s.plan m) := .withLink s _ rfl

/-! ### Control entries -/

theorem Inner.forTaps {f : State → Fin 4 → State} (h : ∀ s t, Inner s (f s t)) (s : State) (m : BitVec 4) : Inner s (s.forTaps m f) :=
  .foldl h _ s

theorem Inner.takeTestable (s : State) (c n : Nat) : Inner s (s.takeTestable c n) := by
  unfold State.takeTestable
  split
  · exact (Inner.setPattern ..).trans (Interior.modifySeg ..).inner
  · exact (Inner.setPattern ..).trans (Interior.raiseAll ..).inner

theorem Inner.cmdTapOn (s : State) (e : ControlEntry) : Inner s (cmdTapOn s e).1 := by
  unfold Machine.cmdTapOn
  split
  · exact .refl s
  · exact (Inner.forTaps (fun s t => ((Interior.setSettings s t _).trans (.tapOn ..)).inner) ..).trans (Interior.settle _).inner

theorem Inner.cmdTapOff (s : State) (e : ControlEntry) : Inner s (cmdTapOff s e).1 := by
  unfold Machine.cmdTapOff
  split
  · exact .refl s
  · exact (Inner.forTaps (fun s t => ((Interior.setSettings s t _).trans (.tapOff ..)).inner) ..).trans (Interior.settle _).inner

theorem Inner.cmdSetTarget (s : State) (e : ControlEntry) : Inner s (cmdSetTarget s e).1 := by
  unfold Machine.cmdSetTarget
  split
  · exact .refl s
  · exact Inner.forTaps (fun s t => ((Interior.setSettings s t _).trans (.modifyTap ..)).inner) ..

theorem Inner.cmdSetPacer (s : State) (e : ControlEntry) : Inner s (cmdSetPacer s e).1 := by
  unfold Machine.cmdSetPacer
  split
  · exact .refl s
  · exact Inner.forTaps (fun s t => ((Interior.setSettings s t _).trans (.modifyTap ..)).inner) ..

theorem Inner.cmdClearCounters (s : State) (e : ControlEntry) : Inner s (cmdClearCounters s e).1 := by
  unfold Machine.cmdClearCounters
  split
  · exact .refl s
  · exact Inner.forTaps (fun s t => (Interior.modifyTap ..).inner) ..

theorem Inner.cmdLock (s : State) : Inner s (cmdLock s).1 := by
  unfold Machine.cmdLock; split <;> exact .setLock ..

theorem Inner.cmdUnlock (s : State) : Inner s (cmdUnlock s).1 := by
  unfold Machine.cmdUnlock; split <;> exact .setLock ..

theorem Inner.cmdRelease (s : State) (e : ControlEntry) : Inner s (cmdRelease s e).1 := by
  unfold Machine.cmdRelease
  split
  · exact (((Interior.withRecords ..).trans (.foldl (fun s (r : SegmentRecord) => .freeSeg s r.phys) ..)).trans (.settle _)).inner
  · exact .refl s
  · exact .refl s

theorem Inner.cmdSaveConfig (s : State) : Inner s (cmdSaveConfig s).1 := by
  unfold Machine.cmdSaveConfig; split <;> first | exact .refl s | exact .startWrite s

theorem Inner.cmdCommitRetire (s : State) : Inner s (cmdCommitRetire s).1 := by
  unfold Machine.cmdCommitRetire; split <;> exact ⟨⟨rfl, rfl, rfl, rfl, rfl, rfl, rfl, rfl⟩, rfl⟩

theorem Inner.cmdSetGeometry (s : State) (e : ControlEntry) : Inner s (cmdSetGeometry s e).1 := by
  unfold Machine.cmdSetGeometry; split <;> exact ⟨⟨rfl, rfl, rfl, rfl, rfl, rfl, rfl, rfl⟩, rfl⟩

theorem Inner.cmdPatternTest (s : State) (e : ControlEntry) : Inner s (cmdPatternTest s e).1 := by
  unfold Machine.cmdPatternTest
  dsimp only
  split
  · exact .refl s
  · split
    · exact .refl s
    · exact .takeTestable ..

theorem Inner.runCommand (s : State) (e : ControlEntry) : Inner s (runCommand s e).1 := by
  unfold Machine.runCommand
  split
  · exact .cmdTapOn s e
  · exact .cmdTapOff s e
  · exact .cmdSetTarget s e
  · exact .cmdSetPacer s e
  · exact (Interior.mark ..).inner
  · exact (Interior.mark ..).inner
  · exact (Interior.cancelEdit ..).inner
  · exact ⟨⟨rfl, rfl, rfl, rfl, rfl, rfl, rfl, rfl⟩, rfl⟩
  · exact ⟨⟨rfl, rfl, rfl, rfl, rfl, rfl, rfl, rfl⟩, rfl⟩
  · exact ⟨⟨rfl, rfl, rfl, rfl, rfl, rfl, rfl, rfl⟩, rfl⟩
  · exact ⟨⟨rfl, rfl, rfl, rfl, rfl, rfl, rfl, rfl⟩, rfl⟩
  · exact ⟨⟨rfl, rfl, rfl, rfl, rfl, rfl, rfl, rfl⟩, rfl⟩
  · exact .cmdClearCounters s e
  · exact .cmdLock s
  · exact .setLock ..
  · exact .cmdUnlock s
  · exact .cmdRelease s e
  · exact .refl s
  · exact .cmdCommitRetire s
  · exact .cmdSaveConfig s
  · exact .cmdSetGeometry s e
  · exact .cmdPatternTest s e
  · exact .refl s

theorem Inner.executeEntry (q : Word) (s : State) (e : ControlEntry) : Inner s (State.executeEntry q s e) := by
  have h : Inner s (if guarded e.code ∧ s.guardStep ≠ 4 then (s, CmdResult.refusedGuard) else Machine.runCommand s e).1 := by
    split
    · exact .refl s
    · exact .runCommand s e
  unfold State.executeEntry
  exact .ite (.refl s) ((h.trans (Interior.report ..).inner).trans (.withGuard ..))

theorem Inner.executeEntries (s : State) (q : Word) (es : List ControlEntry) : Inner s (s.executeEntries q es) :=
  .foldl (fun s e => .executeEntry q s e) es s

/-! ### The capture unit -/

theorem Inner.carryRun (s : State) (older : List Context) (run : List GapCause) : Inner s (s.carryRun older run) := by
  unfold State.carryRun; split <;> exact .withCapture ..

theorem Inner.displace (s : State) (k : Nat) : Inner s (s.displace k) := by
  unfold State.displace
  split
  · exact .refl s
  · dsimp only
    split
    · exact .setContexts ..
    · exact ((((Inner.setContexts ..).trans (Interior.raiseAll ..).inner).trans (.carryRun ..)).trans (Interior.freeSeg ..).inner).trans
        (Interior.settle _).inner

theorem Inner.makeRoom (s : State) (k : Nat) : Inner s (s.makeRoom k) := by
  unfold State.makeRoom
  dsimp only
  split
  · exact (Inner.displace ..).trans (.displace ..)
  · exact .displace ..

theorem Inner.commitProgram (s : State) (b : ContextBody) : Inner s (s.commitProgram b) := by
  unfold State.commitProgram
  exact ((Interior.modifySeg ..).trans ((Interior.append ..).trans (.present ..))).inner

theorem Inner.setMaskImage (s : State) (b : ContextBody) : Inner s (s.setMaskImage b) :=
  (Interior.modifySeg s b.phys fun g => { g with state := .maskImage }).inner.trans ⟨⟨rfl, rfl, rfl, rfl, rfl, rfl, rfl, rfl⟩, rfl⟩

theorem Interior.freeOpt (s : State) (p : Option Nat) : Interior s (s.freeOpt p) := by
  cases p
  · exact .refl s
  · exact .freeSeg ..

theorem Inner.commitMask (s : State) (b : ContextBody) : Inner s (s.commitMask b) := by
  unfold State.commitMask
  exact .ite ((Inner.setMaskImage ..).trans ((Interior.freeOpt ..).trans (.settle _)).inner)
    ((Interior.freeSeg ..).trans (.settle _)).inner

theorem Interior.latchCheck (s : State) (b : ContextBody) : Interior s (s.latchCheck b) := by
  unfold State.latchCheck; exact .ite (.refl s) (.raiseAll ..)

theorem Inner.appendLead (s : State) (b : ContextBody) : Inner s (s.appendLead b) :=
  (Inner.withCapture s { s.capture with pendingRun := [] }).trans (Interior.appendRun ..).inner

theorem Inner.commitSegment (s : State) (b : ContextBody) : Inner s (s.commitSegment b) := by
  unfold State.commitSegment
  split
  · exact .commitProgram ..
  · exact .commitMask ..
  · exact ((Interior.freeSeg ..).trans (.settle _)).inner

theorem Inner.commitBody (s : State) (b : ContextBody) : Inner s (s.commitBody b) :=
  ((((Interior.latchCheck s b).inner.trans (.appendLead ..)).trans (.commitSegment ..)).trans (.executeEntries ..)).trans
    (Interior.appendRun ..).inner

theorem Inner.commitNext {s t : State} (h : s.commitNext = some t) : Inner s t := by
  unfold State.commitNext at h
  split at h
  · cases h
  · split at h
    · split at h
      · cases h
        exact (Inner.setContexts ..).trans (.commitBody ..)
      · cases h
    · cases h

theorem Inner.commitReady (s : State) : Inner s s.commitReady := by
  unfold State.commitReady
  split
  · exact .refl s
  · next s1 h =>
    cases h2 : s1.commitNext with
    | none => exact .commitNext h
    | some s2 => exact (Inner.commitNext h).trans (.commitNext h2)

theorem Outer.forwardWrite (s : State) (g : Geometry) (f : InFlight) (p off : Nat) : Outer s (s.forwardWrite g f p off) := by
  unfold State.forwardWrite
  exact ((Outer.modifyFlight ..).trans (.plan ..)).trans (Interior.raiseOutstanding ..).inner.toOuter

theorem Outer.absorbWrite (s : State) (f : InFlight) : Outer s (s.absorbWrite f) := .modifyFlight ..

theorem Outer.openContext (s : State) (g : Geometry) (f : InFlight) (k : Nat) (h : CaptureHeader) (lead : List GapCause) :
    Outer s (s.openContext g f k h lead) := by
  unfold State.openContext
  dsimp only
  split
  · exact ((Interior.allocate s).inner.trans (.setContexts ..)).toOuter.trans (.forwardWrite ..)
  · exact ((((Interior.allocate s).inner.trans (Interior.raiseAll ..).inner).trans (.carryRun ..)).trans (.openDiscard ..)).toOuter.trans
      (.absorbWrite ..)

theorem Inner.acceptSequence (s : State) (q : Word) (e : Option Event) : Inner s (s.acceptSequence q e) := by
  unfold State.acceptSequence
  dsimp only
  split
  · exact .withCapture ..
  · exact (Inner.withCapture ..).trans (Interior.raiseAll ..).inner

theorem Outer.readHeader (s : State) (g : Geometry) (f : InFlight) (k : Nat) : Outer s (s.readHeader g f k) := by
  unfold State.readHeader
  split
  · exact ((Interior.raiseAll ..).inner.trans (.openDiscard ..)).toOuter.trans (.absorbWrite ..)
  · split
    · exact .openContext ..
    · split
      · exact ((Interior.raiseAll ..).inner.trans (.openDiscard ..)).toOuter.trans (.absorbWrite ..)
      · exact (Inner.acceptSequence ..).toOuter.trans (.openContext ..)

theorem Outer.headerWrite (s : State) (g : Geometry) (f : InFlight) (k : Nat) : Outer s (s.headerWrite g f k) := by
  unfold State.headerWrite
  exact ((Inner.makeRoom ..).toOuter.trans (.readHeader ..)).trans (Inner.commitReady _).toOuter

theorem Outer.payloadWrite (s : State) (g : Geometry) (f : InFlight) (k off : Nat) : Outer s (s.payloadWrite g f k off) := by
  unfold State.payloadWrite
  split
  · exact (Interior.raiseAll ..).inner.toOuter.trans (.absorbWrite ..)
  · split
    · exact .absorbWrite ..
    · exact (Inner.setContexts ..).toOuter.trans (.forwardWrite ..)

theorem Inner.captureAnswer (s : State) (p : Nat) (r : LinkStatus) : Inner s (s.captureAnswer p r) := by
  unfold State.captureAnswer
  dsimp only
  split
  · exact ((Inner.setContexts ..).trans ((Interior.countFault ..).trans (.settle _)).inner).trans (.commitReady _)
  · exact (Inner.setContexts ..).trans (.commitReady _)

/-! ### Reads and the interposer -/

theorem Outer.servePlan (s : State) (tag : Fin 64) (g : Geometry) (plan : FillPlan) (use : PartRead → MUse) :
    Outer s (s.servePlan tag g plan use) := by
  unfold State.servePlan
  exact ((Outer.modifyFlight ..).trans (.foldl (fun s m => .plan s m) ..)).trans
    (.foldl (fun s (r : PartRead) => (Interior.raiseOutstanding s r.phys).inner.toOuter) ..)

end Sys2Proof.Machine
end

