-- ==== Sys2Proof/Tests/Slice0.lean ====
section
/-! SUPPORT. Small tests of the model against the manual's own numbers, the refusals of ill-formed commands, and for each statement that
has hypotheses a state and operands that meet them (`witness_<statement>`). -/

namespace Sys2Proof.Tests

open Sys2Proof.Machine

/-! ### Small states -/

/-- The default geometry with the smallest segments and pool; the backing region begins 1 GiB above the aperture. -/
def geometry : Geometry := { defaultGeometry 0 with sCode := 0, n := 64, q := 2 }

/-- The defaults over that geometry. -/
def config : WorkingConfig := { defaultConfig 0 with geometry := geometry }

/-- A FREE segment. -/
def free : Segment := .powerOn .free

/-- Start-up over, nothing captured, with a few segments. -/
def running (segs : List Segment) : State :=
  { State.reset with
    startUp := { State.reset.startUp with phase := .running }
    link := { State.reset.link with geometry := some geometry }
    pool := { State.reset.pool with segs := segs }
    store := { State.reset.store with config := config } }

/-- A request at an offset of a slot of the aperture. -/
def request (op : LinkOp) (slot off : Nat) (tag : Fin 64) (data : List Byte) : LinkRequest :=
  { op := op, addr := BitVec.ofNat 40 (0x1000000000 + 16384 * slot + off), units := 0, tag := tag, data := data }

/-- A header write's bytes, its check word that of an empty payload. -/
def headerBytes (kind seq la : Nat) : List Byte :=
  captureMark ++ toLE 4 seq ++ toLE 1 kind ++ [1#8, 0#8, 0#8] ++ toLE 4 la ++ zeros 44

/-- `s` with one request in flight. -/
def withFlight (s : State) (f : InFlight) : State := { s with link := { s.link with inflight := [f] } }

/-- `s` with one request outstanding on the M-side. -/
def withOutstanding (s : State) (m : MRequest) : State := { s with link := { s.link with outstanding := [m] } }

/-- A READ or WRITE of 64 bytes on the M-side. -/
def mRequest (tag : Fin 128) (op : LinkOp) (use : MUse) (draining : Bool) : MRequest :=
  { tag := tag, op := op, addr := 0x1040000000#40, length := 64, data := [], use := use, draining := draining }

/-- An accepted write of a header to capture slot 0. -/
def headerFlight (kind seq la : Nat) : InFlight := flight (request .write 0 0 5 (headerBytes kind seq la)) .capture .arriving

/-- An accepted write of zeros to capture slot 0. -/
def payloadFlight (off : Nat) : InFlight := flight (request .write 0 off 5 (zeros 64)) .capture .arriving

/-- An accepted read of slot 3 of tap window 0. -/
def tapFlight (off : Nat) : InFlight :=
  { flight (request .read 11 off 5 []) .tap .arriving with reserved := [64, 65, 66, 67, 68] }

/-- An accepted read of slot `j` of the review window. -/
def reviewFlight (j off : Nat) : InFlight :=
  { flight (request .read (40 + j) off 5 []) .review .arriving with reserved := [64, 65, 66, 67, 68] }

/-- A program entry. -/
def entry (pi : Word) (phys : Nat) : TimelineEntry :=
  { gapEntry .gap with pi := pi, gap := none, seq := some pi, phys := some phys, cutOk := true, checkPass := some true, la := 100 }

/-- A DROP over one range. -/
def drop (a b : Word) : Edit :=
  { id := 0, kind := .drop, state := .closed, start := a, stop := some b, reach := none, limitBase := none, taps := 1#4,
    origin := .panel, rough := false, extension := 0, cutPending := false }

/-- A context's body on segment 0 with a payload of 100 bytes, filled up to `fill`. -/
def body (kind : SegmentKind) (fill writesOut : Nat) : ContextBody :=
  { phys := 0
    header := { seq := 7#32, kind := kind, cutOk := true, la := 100, lv := 0, check := 0#32, controls := [] }
    fill := fill, running := crcInit, coherence := .clean, writesOut := writesOut, faultSeen := false, leadRun := []
    trailingRun := [] }

/-- `s` with open contexts. -/
def withContexts (s : State) (cs : List Context) : State := s.setContexts cs

/-- A timeline of entries 0, 1, 2 on segments 0, 1, 2. -/
def three : Timeline := { entries := [entry 0#32 0, entry 1#32 1, entry 2#32 2], nextPi := 3#32 }

/-- Three LIVE segments and some FREE ones. -/
def threeSegs : List Segment := List.replicate 3 (.powerOn .live) ++ List.replicate 9 free

/-- `s` with tap 0 replaced. -/
def withTap (s : State) (x : Tap) : State := { s with taps := { s.taps with t0 := x } }

/-- A RUN tap bound just below PI 0. -/
def runTap : Tap := { Tap.powerOn with state := .run }

/-- A running machine with the three entries and a read of tap 0 under way. -/
def reading (x : Tap) (off : Nat) : State :=
  withTap (withFlight { running threeSegs with timeline := three } (tapFlight off)) x

/-- A slot's binding of segment 0 with a payload of 100 bytes and a readback that expects offset `next`. -/
def slotBinding (slot next : Nat) : SlotBinding :=
  { slot := slot
    binding :=
      { Binding.fill 0#32 ServedFlags.none with
        kind := .program, phys := some 0, la := 100, readback := { Readback.start with next := next } } }

/-- A panel line that has settled at a level other than its debounced state. -/
def settled (level : Bool) : LineState := { raw := level, debounced := some (!level), interval := true }

/-! ### Commands that cannot be expressed -/

theorem test_wf_write_without_its_data : Instr.wf (.pRequestAccept (request .write 0 0 5 [])) = false := by decide

theorem test_wf_read_with_data : Instr.wf (.pRequestAccept (request .read 8 0 5 [0#8])) = false := by decide

theorem test_wf_response_of_part_of_a_unit : Instr.wf (.passResponse ⟨5, .ok, [0#8]⟩) = false := by decide

theorem test_wf_response_above_1024 : Instr.wf (.patternResponse ⟨64, .ok, zeros 1088⟩) = false := by decide +kernel

theorem test_wf_store_record_of_255 : Instr.wf (.storeLoadEnd (.holding (zeros 255))) = false := by decide +kernel

theorem test_wf_mask_release_has_its_own_row : Instr.wf (.panelRelease .mask) = false := by decide

theorem test_ill_formed_request_is_refused :
    exec (.pRequestAccept (request .read 8 0 5 [0#8])) (running []) = .refused .illFormed := rfl

/-! ### The manual's own numbers -/

/-- R1: the nine ASCII bytes "123456789" have the check word 0xCBF43926, and an empty payload has 0. -/
theorem test_check_word :
    checkWord [0x31#8, 0x32#8, 0x33#8, 0x34#8, 0x35#8, 0x36#8, 0x37#8, 0x38#8, 0x39#8] = 0xCBF43926#32 ∧ checkWord [] = 0#32 := by
  decide +kernel

/-- Table 8: window slots 0, 7, 8, 39, 40 and 295. -/
theorem test_windows :
    [0, 7, 8, 39, 40, 295].map windowOf = [.capture 0, .capture 7, .tap 0 0, .tap 3 7, .review 0, .review 255] := by decide

/-- R6: a legal request in the backing region is GUARDED, and an unaligned one there is ILLEGAL. -/
theorem test_guard_comes_after_legality :
    geometry.classify { request .read 0 0 5 [] with addr := 0x1040000000#40 } = .guarded ∧
      geometry.classify { request .read 0 0 5 [] with addr := 0x1040000001#40 } = .illegal := by decide

/-- R57: the register of segment 0 is loaded with 1; its pattern bit is 0 until the 1 reaches bit 17, and so are the first bytes. -/
theorem test_pattern_begins_with_zeros : patternBytes 0 0 2 = [0#8, 0#8] := by decide +kernel

/-- R57: after seventeen zeros the 1 stands at bit 17 and the eighteenth bit, bit 1 of the third byte, is 1. -/
theorem test_pattern_third_byte : (patternBytes 0 2 1).map (·.getLsbD 1) = [true] := by decide +kernel

/-- Serial comparison wraps. -/
theorem test_serial_wraps : serialLt 0xFFFFFFFF#32 0#32 = true ∧ serialLt 0#32 0xFFFFFFFF#32 = false := by decide

/-- Table 56: GUARD 0x5A01 at step 1 returns the step to 0. -/
theorem test_guard_needs_its_order :
    guardAfter 1 ⟨0x18#8, 0#4, 0x5A01#16, 0#32⟩ = 0 ∧ guardAfter 1 ⟨0x18#8, 0#4, 0x5A02#16, 0#32⟩ = 2 := by decide

/-- Table 18: 64 ahead is a gap, 65 ahead a break, 64 behind a duplicate, 65 behind a break. -/
theorem test_sequence_window :
    checkSequence (some 100#32) 164#32 = .accepted (List.replicate 64 .gap) (some .seqGap) ∧
      checkSequence (some 100#32) 165#32 = .accepted [.broken] (some .seqBreak) ∧
      checkSequence (some 100#32) 36#32 = .duplicate ∧
      checkSequence (some 100#32) 35#32 = .accepted [.broken] (some .seqBreak) := by decide

/-- R12, R13: the audio bytes 1000 to 1023 of a slot under LMASK 100 need the mask offsets 100 to 123. -/
theorem test_mask_offset : (MaskRun.mk 9 100 1000 1024).offset 1000 = 100 := by decide

/-- R13: a mask part whose hull crosses 1024 is split there. -/
theorem test_mask_part_is_split :
    maskReads 9 1000 1100 = [⟨true, 9, 960, 64, 1000, 1024⟩, ⟨true, 9, 1024, 128, 1024, 1100⟩] := by decide

/-- No word spells a command. -/
theorem test_no_word_spells_a_command : decodeTableWord 16 0xFFFF = none := by decide

/-- R181: a record that holds nothing is invalid. -/
theorem test_zero_record_is_invalid : (parseRecord (zeros 256)).isNone = true := by decide +kernel

/-! ### Witnesses: the step and the standing laws -/

theorem witness_step_runs_the_front_command : ({ State.reset with pending := [.linkReset] } : State).pending = .linkReset :: [] := rfl

/-- A running machine with entries, an edit, a frozen quarantine, an open context, a forwarded request and a header about to arrive. -/
def lively : State :=
  State.refreshTally
    { running (List.replicate 3 (.powerOn .live) ++ [.powerOn .quarantined, free]) with
      timeline := three
      edits := [drop 0#32 1#32]
      capture := { State.reset.capture with contexts := [{ slot := 2, state := .discard, body := none }] }
      quarantine :=
        { records := [⟨3, 0#32, 0#32, 0, 0, 0#32, 1#4, some .panel⟩], lock := .frozen }
      taps := { State.reset.taps with t0 := runTap }
      link :=
        { (running []).link with
          inflight := [headerFlight 1 3 0]
          outstanding := [{ mRequest 6 .read .pass false with addr := 0x1040100000#40 }] }
      pending := [.headerWriteArrival 5] }

theorem witness_standing_laws_1 :
    lively.startUp.phase = .running ∧ lively.quarantine.lock = .frozen ∧ lively.pending = [.headerWriteArrival 5] ∧
      Instr.headerWriteArrival 5 ≠ .powerOnReset ∧ lively.talliesCurrent ∧ lively.quarantineFits ∧ lively.contextsFit ∧
      lively.tagsDistinct ∧ lively.editsNamed ∧ lively.editsApart := by
  refine ⟨rfl, rfl, rfl, by decide, rfl, ?_, ?_, ?_, ?_, ?_⟩
  · show 1 ≤ 2; decide
  · exact ⟨by decide, by decide, by decide⟩
  · show List.Nodup _; decide
  · exact ⟨by decide, by decide, by decide⟩
  · exact ⟨List.pairwise_singleton _ _, by decide, by decide⟩

/-- A statement about each tap holds when it holds of the four. -/
theorem forall_tap {P : Fin 4 → Prop} (h0 : P 0) (h1 : P 1) (h2 : P 2) (h3 : P 3) : ∀ t, P t
  | 0 => h0
  | 1 => h1
  | 2 => h2
  | 3 => h3

theorem witness_standing_laws_2 :
    lively.quietBeforeLoad ∧ lively.backingGuarded ∧ lively.timelineOrdered ∧ lively.delaysBounded ∧ lively.pacersInRange ∧
      lively.countsInRange := by
  refine ⟨fun h => absurd rfl h, ?_, ⟨by decide, ?_⟩, ?_, ?_, ⟨by decide, by decide, ?_, by decide, by decide, by decide⟩⟩
  · intro g h
    cases h
    decide
  · intro i e h
    match i with
    | 0 => cases h; rfl
    | 1 => cases h; rfl
    | 2 => cases h; rfl
    | n + 3 => cases h
  · exact forall_tap (by decide) (by decide) (by decide) (by decide)
  · refine forall_tap ⟨?_, ?_, ?_, ?_⟩ ⟨?_, ?_, ?_, ?_⟩ ⟨?_, ?_, ?_, ?_⟩ ⟨?_, ?_, ?_, ?_⟩ <;> decide
  · refine forall_tap ⟨?_, ?_, ?_, ?_, ?_, ?_, ?_⟩ ⟨?_, ?_, ?_, ?_, ?_, ?_, ?_⟩ ⟨?_, ?_, ?_, ?_, ?_, ?_, ?_⟩
      ⟨?_, ?_, ?_, ?_, ?_, ?_, ?_⟩ <;> decide

theorem witness_bounds_fit : lively.boundsFit := forall_tap (by decide) (by decide) (by decide) (by decide)

theorem witness_segments_owned : lively.segmentsOwned := by
  refine ⟨fun k => ?_, fun p g h => ?_⟩
  · cases k <;> decide
  · match p with
    | 0 => cases h; decide
    | 1 => cases h; decide
    | 2 => cases h; decide
    | 3 => cases h; decide
    | 4 => cases h; decide
    | n + 5 => cases h

/-- Entries of both kinds, the second evicted. -/
theorem witness_entries_fit :
    lively.entriesFit ∧ ({ lively with timeline := { three with entries := [entry 1#32 1, (entry 2#32 2).evict] } } : State).entriesFit := by
  unfold State.entriesFit
  exact ⟨by decide, by decide⟩

theorem witness_standing_laws_3 : ∃ t, step lively = .next t := ⟨_, rfl⟩

/-- Before the load the standing laws are met, and a command runs. -/
theorem witness_nothing_happens_before_the_load_ends :
    State.reset.quietBeforeLoad ∧ ∃ t, step { State.reset with pending := [.linkReset] } = .next t :=
  ⟨fun _ => ⟨rfl, rfl, rfl, rfl, rfl, rfl, rfl, rfl, rfl, rfl, rfl, rfl⟩, _, rfl⟩

/-! ### Witnesses: formats, resets and start-up -/

theorem witness_store_record_reads_back :
    geometry.consistent = true ∧ config.inRange ∧ [0, 65535].length ≤ 64 ∧ ∀ p ∈ [0, 65535], p < 65536 := by
  refine ⟨by decide, ⟨?_, by decide⟩, by decide, by decide⟩
  intro t
  match t with
  | 0 => exact ⟨by decide, by decide, by decide, by decide, by decide⟩
  | 1 => exact ⟨by decide, by decide, by decide, by decide, by decide⟩
  | 2 => exact ⟨by decide, by decide, by decide, by decide, by decide⟩
  | 3 => exact ⟨by decide, by decide, by decide, by decide, by decide⟩

theorem witness_store_load_start : State.reset.quietBeforeLoad ∧ State.reset.startUp.phase = .resetHeld :=
  ⟨witness_nothing_happens_before_the_load_ends.1, rfl⟩

/-- A load under way, the serial memory holding `held`. -/
def loading (held : List Byte) : State :=
  { State.reset with
    startUp := { State.reset.startUp with phase := .loading }
    store := { State.reset.store with contents := held } }

theorem witness_store_load_end_1 :
    (loading (zeros 256)).quietBeforeLoad ∧ (loading (zeros 256)).startUp.phase = .loading ∧ StoreReply.wf .stored = true ∧
      StoreReply.wf .noAck = true ∧ (running []).startUp.phase = .running ∧ (running []).quietBeforeLoad :=
  ⟨fun _ => ⟨rfl, rfl, rfl, rfl, rfl, rfl, rfl, rfl, rfl, rfl, rfl, rfl⟩, rfl, rfl, rfl, rfl, fun h => absurd rfl h⟩

theorem fromLE_toLE_four (w : Word) : fromLE (toLE 4 w.toNat) = w.toNat := by
  have := w.isLt
  simp only [toLE, fromLE, BitVec.toNat_ofNat]
  omega

theorem field_append (a b : List Byte) (off n : Nat) (h : off + n ≤ a.length) : field (a ++ b) off n = field a off n := by
  unfold field
  rw [List.drop_append_of_le_length (by omega), List.take_append_of_le_length (by simp; omega)]

/-- A record that the store would write is valid: its check word is the one over its first 252 bytes. -/
theorem witness_store_load_end_2 : (parseRecord (buildRecord geometry config [7])).isSome = true := by
  have hl : (recordBody geometry config [7]).length = 252 := by decide +kernel
  have hv : recordValid (buildRecord geometry config [7]) = true := by
    unfold recordValid buildRecord
    simp only [Bool.and_eq_true, beq_iff_eq, decide_eq_true_eq]
    refine ⟨⟨⟨⟨⟨by simp [hl, toLE, Config.recordBytes], ?_⟩, ?_⟩, ?_⟩, ?_⟩, ?_⟩
    · rw [List.take_append_of_le_length (by omega)]; decide +kernel
    · rw [field_append _ _ _ _ (by omega)]; decide +kernel
    · rw [List.take_append_of_le_length (by omega), List.take_of_length_le (by omega)]
      unfold field
      rw [List.drop_append_of_le_length (by omega), List.drop_of_length_le (by omega), List.nil_append,
        List.take_of_length_le (by simp [toLE]), fromLE_toLE_four]
    · rw [field_append _ _ _ _ (by omega)]; decide +kernel
    · have : parseGeometry (recordBody geometry config [7] ++ toLE 4 (checkWord (recordBody geometry config [7])).toNat) =
          parseGeometry (recordBody geometry config [7]) := by
        simp only [parseGeometry]
        rw [field_append _ _ 10 5 (by omega), field_append _ _ 15 5 (by omega), field_append _ _ 5 1 (by omega),
          field_append _ _ 6 2 (by omega), field_append _ _ 8 2 (by omega)]
      rw [this]; decide +kernel
  unfold parseRecord
  rw [hv]
  rfl

/-- 256 bytes that are an invalid record, and 256 that are a valid one. -/
theorem witness_records_of_256_bytes :
    (zeros 256).length = 256 ∧ parseRecord (zeros 256) = none ∧ (buildRecord geometry config [7]).length = 256 ∧
      ∃ r, parseRecord (buildRecord geometry config [7]) = some r := by
  refine ⟨by decide +kernel, Option.isNone_iff_eq_none.mp test_zero_record_is_invalid, by decide +kernel,
    Option.isSome_iff_exists.mp witness_store_load_end_2⟩

/-- A HELD segment's departure record. -/
def heldRecord (p : Nat) (pi : Word) (withheld : BitVec 4) : SegmentRecord := ⟨p, 0#32, pi, 0, 0, 0#32, withheld, none⟩

/-- A pinned HELD segment. -/
def held (p : Nat) (pi : Word) (withheld : BitVec 4) : Segment :=
  { Segment.powerOn .held with pins := 1, departure := some (heldRecord p pi withheld) }

/-- Two HELD segments, the higher PI on the lower index. -/
def holding : State := running [held 0 4#32 0#4, held 1 1#32 1#4, free]

theorem witness_link_reset :
    lively.startUp.lrstAsserted = false ∧ (∀ g ∈ lively.pool.segs, g.retirePending = false) ∧
      ({ State.reset with startUp := { State.reset.startUp with lrstAsserted := true } } : State).startUp.lrstAsserted = true :=
  ⟨rfl, by decide, rfl⟩

theorem witness_link_reset_handover :
    holding.segmentsOwned ∧ holding.quarantineFits ∧ holding.startUp.lrstAsserted = false ∧
      [heldRecord 1 1#32 1#4, heldRecord 0 4#32 0#4].Perm
        (holding.pool.segs.filterMap fun g => if g.state = .held then g.departure else none) ∧
      [heldRecord 1 1#32 1#4, heldRecord 0 4#32 0#4].Pairwise fun a b =>
        serialLt a.pi b.pi = true ∧ serialLt b.pi a.pi = false := by
  refine ⟨⟨fun k => ?_, fun p g h => ?_⟩, Nat.zero_le _, rfl, by decide, by decide⟩
  · cases k <;> decide
  · match p with
    | 0 => cases h; decide
    | 1 => cases h; decide
    | 2 => cases h; decide
    | n + 3 => cases h

/-- A record inside no DROP, and one inside two of which one starts lower. -/
theorem witness_reset_record :
    let es := [drop 0#32 3#32, { drop 1#32 9#32 with id := 1, taps := 2#4 }]
    (es.filter fun d => d.kind == .drop && d.covers (heldRecord 0 10#32 0#4).pi) = [] ∧
      (es.filter fun d => d.kind == .drop && d.covers (heldRecord 0 1#32 0#4).pi) = es ∧
      ∀ x ∈ es, x = drop 0#32 3#32 ∨ (serialLt 0#32 x.start = true ∧ serialLt x.start 0#32 = false) := by
  refine ⟨by decide, by decide, by decide⟩

/-! ### Witnesses: the link interposer -/

/-- A read below the aperture. -/
def lowRead : LinkRequest := { request .read 0 0 5 [] with addr := 0#40 }

/-- A WRITE of tag 5 waits to be answered with FAULT. -/
def owing : InFlight := { headerFlight 1 0 0 with phase := .ready, reply := some ⟨.fault, []⟩, owed := true }

/-- A tap read that holds all the internal tags but `n`. -/
def tagHolder (n : Nat) : InFlight :=
  { flight (request .read 8 0 9 []) .tap .arriving with reserved := internalTags.take (64 - n) }

theorem witness_held_off_1 :
    lowRead.wf = true ∧ State.reset.link.presented = none ∧ State.reset.startUp.phase ≠ .running ∧
      (running []).link.presented = none ∧ (∃ f ∈ (withFlight (running []) owing).link.inflight, f.owed = true) ∧
      (∃ f ∈ (withFlight (running []) (headerFlight 1 0 0)).link.inflight, f.req.tag = lowRead.tag) := by
  refine ⟨rfl, rfl, by decide, rfl, ⟨owing, by decide, rfl⟩, ⟨headerFlight 1 0 0, by decide, rfl⟩⟩

/-- Four free internal tags are too few for a read of tap 0's first slot and of the last review slot; another request waits. -/
theorem witness_held_off_2 :
    (geometry.classify (request .read 8 0 5 []) = .tap ∧ geometry.classify (request .read 295 0 5 []) = .review) ∧
      (withFlight (running []) (tagHolder 4)).freeTags.length < 5 ∧
      ({ (running []).link with presented := some lowRead } : Interposer).presented = some lowRead ∧
      lowRead ≠ request .read 8 0 5 [] := by
  refine ⟨⟨by decide, by decide⟩, by decide +kernel, rfl, by decide⟩

/-- Any well-formed request is admitted by a running machine with nothing in flight. -/
theorem running_admits (r : LinkRequest) (h : r.wf = true) : (running []).admits r :=
  ⟨h, .inl rfl, rfl, rfl, rfl, fun f hf => nomatch (show f ∈ ([] : List InFlight) from hf)⟩

/-- A request that is not aligned and touches only the first byte of the aperture, and one only the last of the backing region. -/
theorem witness_illegal :
    let r : LinkRequest := { lowRead with addr := 0xFFFFFFFC1#40 }
    let q : LinkRequest := { lowRead with addr := 0x10400FFFFF#40 }
    (running []).admits r ∧ (running []).admits q ∧ (running []).link.geometry = some geometry ∧ ¬ isLegal r ∧ ¬ isLegal q ∧
      (requestHas r 0x1000000000 ∧ geometry.inAperture 0x1000000000) ∧
      (requestHas q 0x10400FFFFF ∧ geometry.inBacking 0x10400FFFFF) := by
  refine ⟨running_admits _ rfl, running_admits _ rfl, rfl, ?_, ?_, ?_, ?_⟩
  · unfold isLegal; decide
  · unfold isLegal; decide
  · unfold requestHas Geometry.inAperture; decide
  · unfold requestHas Geometry.inBacking; decide

/-- A request at an aperture slot has no byte of the backing region. -/
theorem slot_misses_backing (op : LinkOp) (slot off : Nat) (tag : Fin 64) (data : List Byte) (hs : slot < 296) (ho : off < 16384) :
    ∀ a, requestHas (request op slot off tag data) a → ¬ geometry.inBacking a := by
  intro a h hb
  have h1 : a < 0x1000000000 + 16384 * slot + off + 64 := by
    have := h.2
    simp only [request, LinkRequest.length, BitVec.toNat_ofNat] at this
    have hm : (0x1000000000 + 16384 * slot + off) % 2 ^ 40 ≤ 0x1000000000 + 16384 * slot + off := Nat.mod_le _ _
    simp at this
    omega
  have h2 : 0x1040000000 ≤ a := hb.1
  omega

/-- The first and the last capture slot, the first slot of tap 0 and the last review slot. -/
theorem witness_window_requests :
    geometry.inSlot (request .read 0 0 5 []) 0 ∧ geometry.inSlot (request .read 7 16320 5 []) 7 ∧
      geometry.inSlot (request .write 8 0 5 (zeros 64)) 8 ∧ geometry.inSlot (request .write 295 16320 5 (zeros 64)) 295 ∧
      geometry.inSlot (request .write 7 0 5 (zeros 64)) 7 ∧ geometry.inSlot (request .read 39 0 5 []) 39 ∧
      geometry.inSlot (request .read 40 0 5 []) 40 := by
  refine ⟨⟨?_, by decide, by decide, by decide, slot_misses_backing _ _ _ _ _ (by decide) (by decide)⟩,
    ⟨?_, by decide, by decide, by decide, slot_misses_backing _ _ _ _ _ (by decide) (by decide)⟩,
    ⟨?_, by decide, by decide, by decide, slot_misses_backing _ _ _ _ _ (by decide) (by decide)⟩,
    ⟨?_, by decide, by decide, by decide, slot_misses_backing _ _ _ _ _ (by decide) (by decide)⟩,
    ⟨?_, by decide, by decide, by decide, slot_misses_backing _ _ _ _ _ (by decide) (by decide)⟩,
    ⟨?_, by decide, by decide, by decide, slot_misses_backing _ _ _ _ _ (by decide) (by decide)⟩,
    ⟨?_, by decide, by decide, by decide, slot_misses_backing _ _ _ _ _ (by decide) (by decide)⟩⟩ <;>
  · unfold isLegal; decide

/-- Those requests are admitted, and exactly five free internal tags are enough for a read. -/
theorem witness_window_requests_admitted :
    (running []).admits (request .read 0 0 5 []) ∧ (running []).admits (request .write 295 16320 5 (zeros 64)) ∧
      (withFlight (running []) (tagHolder 5)).admits (request .read 39 0 5 []) ∧
      (withFlight (running []) (tagHolder 5)).freeTags.length = 5 := by
  refine ⟨running_admits _ rfl, running_admits _ rfl, ⟨rfl, .inl rfl, rfl, rfl, rfl, ?_⟩, by decide +kernel⟩
  intro f h
  simp only [withFlight, List.mem_singleton] at h
  subst h
  exact ⟨rfl, by decide⟩

/-- A legal READ of the first 64 bytes of the backing region. -/
theorem witness_guarded :
    let r : LinkRequest := { lowRead with addr := 0x1040000000#40 }
    (running []).admits r ∧ isLegal r ∧ requestHas r 0x1040000000 ∧ geometry.inBacking 0x1040000000 := by
  refine ⟨running_admits _ rfl, ?_, ?_, ?_⟩
  · unfold isLegal; decide
  · unfold requestHas; decide
  · unfold Geometry.inBacking; decide

/-- The 64 bytes just below the aperture, and those just above the backing region. -/
theorem witness_pass_1 :
    let r : LinkRequest := { lowRead with addr := 0xFFFFFFFC0#40 }
    let q : LinkRequest := { lowRead with addr := 0x1040100000#40 }
    ((running []).admits r ∧ ∀ a, requestHas r a → ¬ geometry.inAperture a ∧ ¬ geometry.inBacking a) ∧
      ((running []).admits q ∧ ∀ a, requestHas q a → ¬ geometry.inAperture a ∧ ¬ geometry.inBacking a) := by
  refine ⟨⟨running_admits _ rfl, ?_⟩, ⟨running_admits _ rfl, ?_⟩⟩
  · intro a h
    have h1 : a < 0x1000000000 := h.2
    refine ⟨fun hb => ?_, fun hb => ?_⟩
    · have : 0x1000000000 ≤ a := hb.1
      omega
    · have : 0x1040000000 ≤ a := hb.1
      omega
  · intro a h
    have h1 : 0x1040100000 ≤ a := h.1
    refine ⟨fun hb => ?_, fun hb => ?_⟩
    · have : a < 0x1000000000 + 296 * 16384 := hb.2
      omega
    · have : a < 0x1040000000 + 64 * 16384 := hb.2
      omega

/-- A PASS read outstanding under tag 5, and its answer. -/
theorem witness_pass_2 :
    let m := mRequest 5 .read .pass false
    (withOutstanding (running []) m).link.outstanding.find? (fun x => x.tag == (5 : Fin 128)) = some m ∧ m.use = .pass ∧
      m.draining = false ∧ m.tag = forwardTag 5 ∧ (zeros 64).length = m.length := by
  refine ⟨by decide, rfl, rfl, by decide, by decide⟩

/-- A forwarded write planned behind an earlier one that has been issued, a planned internal read, and an earlier one not yet there. -/
theorem witness_m_side_issue :
    let m := mRequest 5 .write (.captureWrite 0) false
    let q := mRequest 64 .read (.reviewPart 5 0 0) false
    let s : State := { running [] with link := { (running []).link with planned := [m, q], inflight := [headerFlight 1 0 0] } }
    let early : InFlight := { headerFlight 1 0 0 with req := request .write 0 0 3 (zeros 64) }
    s.link.planned.find? (fun x => x.tag == m.tag) = some m ∧ s.link.planned.find? (fun x => x.tag == q.tag) = some q ∧
      64 ≤ q.tag.val ∧ s.link.mHoldOff = false ∧ s.link.inflight = [] ++ headerFlight 1 0 0 :: [] ∧
      forwardTag (headerFlight 1 0 0).req.tag = m.tag ∧ m.tag.val < 64 ∧ early.cls = .capture ∧ early.phase = .arriving ∧
      forwardTag early.req.tag ≠ m.tag := by
  refine ⟨by decide, by decide, by decide, rfl, rfl, by decide, by decide, rfl, rfl, by decide⟩

theorem witness_drained_and_unknown :
    let m := mRequest 70 .read (.reviewPart 5 0 0) true
    (withOutstanding (running threeSegs) m).link.outstanding.find? (fun x => x.tag == (70 : Fin 128)) = some m ∧ m.draining = true ∧
      (withOutstanding (running threeSegs) m).link.outstanding.find? (fun x => x.tag == (71 : Fin 128)) = none := by
  refine ⟨by decide, rfl, by decide⟩

/-- A composed response, an owed one while LRSTn is asserted, and an owed one whose forwarded request still drains. -/
theorem witness_composed_responses :
    let f : InFlight := { owing with owed := false }
    let s := withFlight (running []) owing
    let d := withOutstanding s (mRequest 5 .write .pass true)
    (withFlight (running []) f).link.inflight.find? (fun x => x.req.tag == (5 : Fin 64)) = some f ∧ f.phase = .ready ∧
      f.reply = some ⟨.fault, []⟩ ∧ f.owed = false ∧ s.link.inflight.find? (fun x => x.req.tag == (5 : Fin 64)) = some owing ∧
      owing.owed = true ∧ ({ s with startUp := { s.startUp with lrstAsserted := true } } : State).startUp.lrstAsserted = true ∧
      s.startUp.lrstAsserted = false ∧ (∀ m ∈ s.link.planned ++ s.link.outstanding, m.tag ≠ forwardTag 5) ∧
      ∃ m ∈ d.link.planned ++ d.link.outstanding, m.tag = forwardTag 5 := by
  refine ⟨by decide, rfl, rfl, rfl, by decide, rfl, rfl, rfl, by decide, by decide⟩

/-! ### Witnesses: the capture unit -/

/-- What a header of `headerBytes` says. -/
def header (kind : SegmentKind) (seq la : Nat) : CaptureHeader :=
  { seq := BitVec.ofNat 32 seq, kind := kind, cutOk := true, la := la, lv := 0, check := 0#32
    controls := List.replicate 5 ⟨0#8, 0#4, 0#16, 0#32⟩ }

/-- A header about to arrive at slot 0 beside a completed context on slot 1 whose last write is not answered. -/
def arrivingHeader (segs : List Segment) (expected : Option Word) (kind seq la : Nat) : State :=
  let s := withFlight (running segs) (headerFlight kind seq la)
  { s with capture :=
      { s.capture with
        expected := expected
        contexts := [{ slot := 1, state := .completeWaiting, body := some (body .program 164 1) }] } }

theorem arrivingHeader_room (segs : List Segment) (expected : Option Word) (kind seq la : Nat) :
    (arrivingHeader segs expected kind seq la).roomFor 0 := by
  refine ⟨Nat.le_refl 1, fun c hc => ?_⟩
  have hc : c = { slot := 1, state := .completeWaiting, body := some (body .program 164 1) } := List.mem_singleton.mp hc
  subst hc
  refine ⟨by decide, fun _ b hb => ?_⟩
  cases hb
  decide

theorem witness_header_writes :
    (arrivingHeader [] none 1 5 100).captureWrite 5 = some (geometry, headerFlight 1 5 100, 0, 0) ∧
      (arrivingHeader [] none 1 5 100).roomFor 0 := ⟨by decide, arrivingHeader_room _ _ _ _ _⟩

/-- Bad headers: KIND 0 and 4, a payload one byte too long, CONTROL_ONLY with a payload; and the longest good one. -/
theorem witness_bad_headers :
    field (headerBytes 0 5 0) 8 1 = 0 ∧ 3 < field (headerBytes 4 5 0) 8 1 ∧
      geometry.segSize - 64 < field (headerBytes 1 5 16321) 12 4 + field (headerBytes 1 5 16321) 16 4 ∧
      (field (headerBytes 3 5 1) 8 1 = 3 ∧ field (headerBytes 3 5 1) 12 4 ≠ 0) ∧
      parseCaptureHeader geometry.segSize (headerBytes 1 5 16320) = some (header .program 5 16320) := by
  refine ⟨by decide, by decide, by decide, by decide, by decide +kernel⟩

/-- Duplicates 64 and 1 behind the expected sequence. -/
theorem witness_duplicates :
    parseCaptureHeader geometry.segSize (headerBytes 1 1 0) = some (header .program 1 0) ∧
      parseCaptureHeader geometry.segSize (headerBytes 2 64 0) = some (header .maskSource 64 0) ∧
      (arrivingHeader [] (some 65#32) 1 1 0).capture.expected = some 65#32 ∧
      serialDiff (header .program 1 0).seq 65#32 = -64 ∧ serialDiff (header .maskSource 64 0).seq 65#32 = -1 := by
  refine ⟨by decide +kernel, by decide +kernel, rfl, by decide, by decide⟩

/-- Accepted headers: CONTROL_ONLY, the first of all, the expected one, 1 and 64 ahead, 65 ahead and 65 behind. -/
theorem witness_accepted_headers :
    parseCaptureHeader geometry.segSize (headerBytes 3 5 0) = some (header .controlOnly 5 0) ∧
      parseCaptureHeader geometry.segSize (headerBytes 1 100 0) = some (header .program 100 0) ∧
      acceptsAs none (header .controlOnly 5 0) [] none none ∧
      acceptsAs none (header .program 100 0) [] none (some 101#32) ∧
      acceptsAs (some 100#32) (header .program 100 0) [] none (some 101#32) ∧
      acceptsAs (some 99#32) (header .program 100 0) [.gap] (some .seqGap) (some 101#32) ∧
      acceptsAs (some 36#32) (header .program 100 0) (List.replicate 64 .gap) (some .seqGap) (some 101#32) ∧
      acceptsAs (some 35#32) (header .program 100 0) [.broken] (some .seqBreak) (some 101#32) ∧
      acceptsAs (some 165#32) (header .program 100 0) [.broken] (some .seqBreak) (some 101#32) := by
  refine ⟨by decide +kernel, by decide +kernel, .inl ⟨rfl, rfl, rfl, rfl⟩, .inr ⟨by decide, rfl, .inl ⟨rfl, rfl, rfl⟩⟩,
    .inr ⟨by decide, rfl, .inr ⟨_, rfl, .inl ⟨rfl, rfl, rfl⟩⟩⟩,
    .inr ⟨by decide, rfl, .inr ⟨_, rfl, .inr (.inl ⟨by decide, by decide, by decide, rfl⟩)⟩⟩,
    .inr ⟨by decide, rfl, .inr ⟨_, rfl, .inr (.inl ⟨by decide, by decide, by decide, rfl⟩)⟩⟩,
    .inr ⟨by decide, rfl, .inr ⟨_, rfl, .inr (.inr ⟨.inr (by decide), rfl, rfl⟩)⟩⟩,
    .inr ⟨by decide, rfl, .inr ⟨_, rfl, .inr (.inr ⟨.inl (by decide), rfl, rfl⟩)⟩⟩⟩

/-- With no segment at all an accepted header is lost; with three LIVE ones the fourth, FREE, is the lowest that can be taken. -/
theorem witness_allocation_of_headers :
    (arrivingHeader [] none 1 5 0).allocate.2 = none ∧ (running threeSegs).seg? 3 = some free ∧ free.state = .free ∧
      free.outstanding = 0 ∧ ∀ q sq, q < 3 → (running threeSegs).seg? q = some sq → ¬ (sq.state = .free ∧ sq.outstanding = 0) := by
  refine ⟨by decide, rfl, rfl, rfl, ?_⟩
  intro q sq hq h
  match q with
  | 0 => cases h; decide
  | 1 => cases h; decide
  | 2 => cases h; decide

/-- A DISCARD context and a FILLING one, whose segment nothing else names, each displaced by a header on its slot; a FILLING one displaced
by a header on the slot of neither of two; and one displaced behind an older context that is or is not DISCARD. -/
theorem witness_displaced_contexts :
    let d (k : Nat) : Context := { slot := k, state := .discard, body := none }
    let c : Context := { slot := 0, state := .filling, body := some (body .program 64 1) }
    let o : Context := { slot := 1, state := .completeWaiting, body := some { body .maskSource 164 1 with phys := 1 } }
    let s (cs : List Context) : State :=
      withContexts
        (withFlight
          { running [{ free with state := .filling }, { free with state := .filling }, .powerOn .live] with
            timeline := { entries := [entry 0#32 2], nextPi := 1#32 } } (headerFlight 1 5 100)) cs
    (∀ cs ∈ [[], [d 0], [c], [c, o], [o, c], [d 1, c]],
      (s cs).contextsFit ∧ (s cs).captureWrite 5 = some (geometry, headerFlight 1 5 100, 0, 0) ∧
        ∀ x ∈ ((s cs).makeRoom 0).capture.contexts, x.state = .completeWaiting → ∀ b, x.body = some b → 0 < b.writesOut) ∧
      (s [c]).capture.contexts = [] ++ c :: [] ∧ (d 0).body = none ∧ c.slot = 0 ∧ c.body = some (body .program 64 1) ∧
      (s [c]).seg? 0 = some { free with state := .filling } ∧ (∀ e ∈ (s [c]).timeline.entries, e.phys ≠ some 0) ∧
      (∀ r ∈ (s [c]).quarantine.records, r.phys ≠ 0) ∧ (s [c, o]).capture.contexts = [] ++ c :: [o] ∧ [o] ≠ [] ∧
      (∀ x ∈ [c, o], x.slot ≠ 7) ∧ (s [o, c]).capture.contexts = [o] ++ c :: [] ∧ o.state ≠ .discard ∧
      (s [d 1, c]).capture.contexts = [d 1] ++ c :: [] ∧ (d 1).state = .discard := by
  refine ⟨?_, rfl, rfl, rfl, rfl, rfl, by decide, by decide, rfl, by decide, by decide, rfl, by decide, rfl, rfl⟩
  intro cs h
  simp only [List.mem_cons, List.not_mem_nil, or_false] at h
  rcases h with rfl | rfl | rfl | rfl | rfl | rfl <;> exact ⟨⟨by decide, by decide, by decide⟩, by decide, by decide⟩

/-- The pool with nothing allocatable and the oldest record of an UNLOCKED quarantine releasable. -/
theorem witness_pressure_oldest :
    let r : SegmentRecord := ⟨0, 0#32, 0#32, 0, 0, 0#32, 1#4, some .panel⟩
    let s : State := { running [.powerOn .quarantined] with quarantine := { records := [r], lock := .unlocked } }
    (∀ p, ¬ ∃ g, s.seg? p = some g ∧ g.state = .free ∧ g.outstanding = 0) ∧ s.quarantine.records = [r] ∧
      ∃ g, s.seg? r.phys = some g ∧ g.outstanding = 0 ∧ g.retirePending = false := by
  refine ⟨?_, rfl, ⟨_, rfl, rfl, rfl⟩⟩
  rintro p ⟨g, h, hs, -⟩
  match p with
  | 0 => cases h; cases hs
  | n + 1 => cases h

/-- Three LIVE entries, the first inside a DROP that no active tap would play; and without the DROP a plain candidate. -/
theorem witness_pressure_entries :
    let s : State := { running (List.replicate 3 (.powerOn .live)) with timeline := three, edits := [drop 0#32 0#32] }
    (∀ p, ¬ ∃ g, s.seg? p = some g ∧ g.state = .free ∧ g.outstanding = 0) ∧ s.quarantine.records = [] ∧
      s.timeline.entries = [] ++ entry 0#32 0 :: [entry 1#32 1, entry 2#32 2] ∧ (∃ d ∈ s.edits, d.kind = .drop ∧ d.covers 0#32 = true) ∧
      (∀ i, (s.tap i).active = false) ∧ (∀ d ∈ s.edits, d.kind = .drop → d.covers 1#32 = false) ∧
      s.seg? 0 = some (.powerOn .live) ∧ (Segment.powerOn .live).pins = 0 := by
  refine ⟨?_, rfl, rfl, by decide, by decide, by decide, rfl, rfl⟩
  rintro p ⟨g, h, hs, -⟩
  match p with
  | 0 => cases h; cases hs
  | 1 => cases h; cases hs
  | 2 => cases h; cases hs
  | n + 3 => cases h

/-- Payload writes to a slot with a DISCARD context and to one with none. -/
theorem witness_absorbed_payload :
    let s := withFlight (running threeSegs) (payloadFlight 64)
    let d : Context := { slot := 0, state := .discard, body := none }
    s.captureWrite 5 = some (geometry, payloadFlight 64, 0, 64) ∧ s.capture.contexts = [] ∧
      (withContexts s [d]).captureWrite 5 = some (geometry, payloadFlight 64, 0, 64) ∧
      (withContexts s [d]).capture.contexts.find? (fun c => c.slot == 0) = some d ∧ d.body = none := by
  refine ⟨by decide, rfl, by decide, by decide, rfl⟩

/-- Payload writes at the fill offset, below it, above it and past the payload end of 164. -/
theorem witness_payload_writes :
    let c (fill : Nat) : Context := { slot := 0, state := .filling, body := some (body .program fill 1) }
    let s (fill off : Nat) := withContexts (withFlight (running threeSegs) (payloadFlight off)) [c fill]
    ((s 64 64).captureWrite 5 = some (geometry, payloadFlight 64, 0, 64) ∧
        (s 64 64).capture.contexts.find? (fun x => x.slot == 0) = some (c 64) ∧ ((s 64 64).capture.contexts.map (·.slot)).Nodup) ∧
      ((s 128 64).captureWrite 5 = some (geometry, payloadFlight 64, 0, 64) ∧ 64 < (body .program 128 1).fill) ∧
      ((s 64 128).captureWrite 5 = some (geometry, payloadFlight 128, 0, 128) ∧ (body .program 64 1).fill < 128) ∧
      ((s 64 192).captureWrite 5 = some (geometry, payloadFlight 192, 0, 192) ∧ 64 + 100 ≤ 192) := by
  refine ⟨⟨by decide, by decide, by decide⟩, ⟨by decide, by decide⟩, ⟨by decide, by decide⟩, ⟨by decide, by decide⟩⟩

/-- A capture write outstanding to segment 0 with another of its context behind it, and as the last of its context. -/
theorem witness_capture_answers :
    let m := mRequest 5 .write (.captureWrite 0) false
    let c (n : Nat) : Context := { slot := 0, state := .completeWaiting, body := some (body .program 164 n) }
    let s (n : Nat) := withContexts (withOutstanding (running threeSegs) m) [c n]
    (s 2).link.outstanding.find? (fun x => x.tag == (5 : Fin 128)) = some m ∧ m.op = .write ∧ m.use = .captureWrite 0 ∧
      m.draining = false ∧ m.tag = forwardTag 5 ∧ (s 2).seg? 0 = some (.powerOn .live) ∧ 0 < 2 - 1 ∧
      (s 1).link.outstanding.find? (fun x => x.tag == (5 : Fin 128)) = some m ∧ (s 1).capture.contexts = [c 1] ∧
      (body .program 164 1).writesOut = 1 := by
  refine ⟨by decide, rfl, rfl, rfl, by decide, rfl, by decide, by decide, rfl, rfl⟩

/-- The answer to the last write of a context on segment 0, whose body is `b`, after the contexts `before` and before the contexts
`after`; the mask image is segment 3, tap 0 runs and two entries stand in the timeline. -/
def committing (b : ContextBody) (before after : List Context) : State :=
  let filling : Segment := { free with state := .filling, outstanding := 1 }
  let s := running [filling, .powerOn .live, .powerOn .live, .powerOn .maskImage, filling]
  let s1 : State :=
    { s with
      timeline := { entries := [entry 0#32 1, entry 1#32 2], nextPi := 2#32 }
      pool := { s.pool with maskImage := some 3, lmask := 50 } }
  withContexts (withOutstanding (withTap s1 runTap) (mRequest 5 .write (.captureWrite 0) false))
    (before ++ { slot := 0, state := .completeWaiting, body := some b } :: after)

/-- A body that passes its check. -/
def passing (kind : SegmentKind) : ContextBody := { body kind 164 1 with running := 0xFFFFFFFF#32 }

/-- A context of each KIND that passes and one that fails, alone and beside an older DISCARD one, with room for its gap entries, its
segment and the mask image named nowhere else. -/
theorem witness_commits :
    let m := mRequest 5 .write (.captureWrite 0) false
    let d : Context := { slot := 1, state := .discard, body := none }
    let s := committing (passing .program) [] []
    (s.link.outstanding.find? (fun x => x.tag == (5 : Fin 128)) = some m ∧ m.op = .write ∧ m.use = .captureWrite (passing .program).phys ∧
        m.draining = false ∧ m.tag = forwardTag 5 ∧ (passing .program).writesOut = 1) ∧
      (committing (passing .program) [d] []).capture.contexts =
        [d, { slot := 0, state := .completeWaiting, body := some (passing .program) }] ∧
      ((passing .program).coherence = .clean ∧ (passing .program).faultSeen = false ∧
        ~~~ (passing .program).running = (passing .program).header.check ∧ (~~~ (body .program 164 1).running : Word) ≠ 1#32) ∧
      (passing .maskSource).header.kind = .maskSource ∧ (passing .controlOnly).header.kind = .controlOnly ∧
      ((s.tap 0).active = true ∧ s.timeline.entries.length + (s.capture.pendingRun ++ (passing .program).leadRun).length < 4096 ∧
        s.timeline.entries = entry 0#32 1 :: [entry 1#32 2] ∧ serialLt 0#32 s.floor = false) ∧
      ((∀ e ∈ s.timeline.entries, e.phys ≠ some 0 ∧ e.phys ≠ some 3) ∧ s.quarantine.records = [] ∧
        s.seg? 0 = some { free with state := .filling, outstanding := 1 } ∧ s.pool.maskImage = some 3 ∧
        s.seg? 3 = some (.powerOn .maskImage)) ∧
      (s.tap 0).executed ≤ 255 := by
  refine ⟨⟨by decide, rfl, rfl, rfl, by decide, rfl⟩, rfl, ⟨rfl, rfl, by decide, by decide⟩, rfl, rfl, ⟨rfl, by decide, rfl, by decide⟩,
    ⟨by decide, rfl, rfl, rfl, rfl⟩, by decide⟩

/-- Two PROGRAM contexts without runs or commands, the newer one answered before. -/
theorem witness_commits_in_order :
    let b : ContextBody := { passing .program with phys := 4, writesOut := 0 }
    let c : Context := { slot := 1, state := .completeWaiting, body := some b }
    let s := committing (passing .program) [] [c]
    s.capture.contexts = [{ slot := 0, state := .completeWaiting, body := some (passing .program) }, c] ∧
      (passing .program).phys ≠ b.phys ∧ b.writesOut = 0 ∧ b.header.kind = .program ∧
      (∀ e ∈ (passing .program).header.controls ++ b.header.controls, e.code = 0#8) ∧ s.capture.pendingRun = [] ∧
      (passing .program).leadRun = [] ∧ (passing .program).trailingRun = [] ∧ b.leadRun = [] ∧ b.trailingRun = [] ∧
      (s.tap 0).active = true ∧ s.timeline.entries.length + 1 < 4096 := by
  refine ⟨rfl, by decide, rfl, rfl, by decide, rfl, rfl, rfl, rfl, rfl, rfl, by decide⟩

/-- Presentations at PI 3: of a TRAILING drop at, one below and at the end of its reach and its extension; of a CLOSED drop that ends just
below; of an OPEN mask at its limit of 250 and one short of it. -/
theorem witness_presentations :
    let t : Edit := { drop 0#32 2#32 with state := .trailing, stop := none, reach := some 2#32, extension := 48 }
    let c : Edit := { drop 0#32 2#32 with id := 1, cutPending := true }
    let o : Edit := { drop 0#32 0#32 with id := 2, kind := .mask, state := .opened, stop := none, limitBase := some 0#32 }
    let s : State := { running threeSegs with timeline := three, edits := [t, c, o] }
    t ∈ s.edits ∧ c ∈ s.edits ∧ o ∈ s.edits ∧ serialLe 2#32 2#32 = true ∧ serialLe 3#32 2#32 = false ∧ t.cutPending = false ∧
      min (48 + 1) 255 < s.store.config.snapReach ∧ s.store.config.snapReach ≤ min (49 + 1) 255 ∧ serialLt 2#32 3#32 = true ∧
      serialDiff 248#32 0#32 + 1 < s.store.config.maskLimit ∧ (s.store.config.maskLimit : Int) ≤ serialDiff 249#32 0#32 + 1 := by
  refine ⟨by decide, by decide, by decide, by decide, by decide, rfl, by decide, by decide, by decide, by decide, by decide⟩

/-- A segment already counted, a LIVE one reaching the threshold of 2, and a FREE one reaching it. -/
theorem witness_faults :
    let live : Segment := { Segment.powerOn .live with faults := 1 }
    let s := running [{ free with counted := true }, live, { free with faults := 1 }]
    s.seg? 0 = some { free with counted := true } ∧ s.seg? 1 = some live ∧ live.state ≠ .free ∧
      s.seg? 2 = some { free with faults := 1 } ∧ s.store.config.faultThreshold ≤ min (1 + 1) 7 := by
  refine ⟨rfl, rfl, by decide, rfl, by decide⟩

/-- A head entry without a segment, with a pinned one, and with an unpinned one; a HELD segment with one pin and with two. -/
theorem witness_departures :
    let s (e : TimelineEntry) : State := { running threeSegs with timeline := { entries := [e], nextPi := 1#32 } }
    let pinned : Segment := { Segment.powerOn .live with pins := 1 }
    (gapEntry .gap).phys = none ∧ (s (entry 0#32 0)).timeline.entries = [entry 0#32 0] ∧
      ({ running [pinned] with timeline := (s (entry 0#32 0)).timeline } : State).seg? 0 = some pinned ∧ 0 < pinned.pins ∧
      (s (entry 0#32 0)).seg? 0 = some (.powerOn .live) ∧ (Segment.powerOn .live).pins = 0 ∧
      (holding.seg? 0 = some (held 0 4#32 0#4) ∧ (held 0 4#32 0#4).pins ≤ 1 ∧
        (held 0 4#32 0#4).departure = some (heldRecord 0 4#32 0#4) ∧ (heldRecord 0 4#32 0#4).phys = 0) ∧
      1 < { held 0 4#32 0#4 with pins := 2 }.pins := by
  refine ⟨rfl, rfl, rfl, by decide, rfl, rfl, ⟨rfl, by decide, rfl, rfl⟩, by decide⟩

/-- A segment handed on: not withheld; withheld to a list with room, and to a full one that is FROZEN, or UNLOCKED. -/
theorem witness_handed_on :
    let r (p : Nat) : SegmentRecord := heldRecord p 0#32 1#4
    let s (l : LockState) (rs : List SegmentRecord) : State :=
      { running [.powerOn .quarantined, .powerOn .quarantined, held 2 4#32 1#4] with quarantine := { records := rs, lock := l } }
    (heldRecord 0 4#32 0#4).withheld = 0#4 ∧ (r 2).withheld ≠ 0#4 ∧ (s .locked [r 0]).quarantine.records.length < (s .locked []).quarCap ∧
      (0 < (s .frozen []).quarCap ∧ (s .frozen []).quarCap ≤ (s .frozen [r 0, r 1]).quarantine.records.length ∧
        (s .frozen []).quarantine.lock ≠ .unlocked) ∧
      ((s .unlocked [r 0, r 1]).quarantine.records = r 0 :: [r 1] ∧ (r 0).phys ≠ 2 ∧
        (s .unlocked [r 0, r 1]).seg? (r 0).phys = some (.powerOn .quarantined)) := by
  refine ⟨rfl, by decide, by decide, ⟨by decide, by decide, by decide⟩, ⟨rfl, by decide, rfl⟩⟩

/-- The floor test with tap 0 active and with none. -/
theorem witness_floor_test :
    lively.timelineOrdered ∧ lively.boundsFit ∧ (lively.tap 0).active = true ∧ holding.segmentsOwned ∧
      holding.pool.segs.length ≤ 4096 ∧ holding.timelineOrdered ∧ ∀ i, (holding.tap i).active = false :=
  ⟨witness_standing_laws_2.2.2.1, witness_bounds_fit, rfl, witness_link_reset_handover.1, by decide,
    ⟨by decide, fun _ _ h => (nomatch h)⟩, by decide⟩

/-- A table whose head, a gap, two taps have not reached, inside a DROP for both. -/
def draggingTable (rest : List TimelineEntry) : State :=
  { running [] with
    timeline := { entries := gapEntry .gap :: rest, nextPi := 4096#32 }
    taps := { State.reset.taps with t0 := runTap, t1 := runTap }
    edits := [{ drop 0#32 0#32 with taps := 3#4 }] }

theorem witness_forced_departure (rest : List TimelineEntry) :
    (draggingTable rest).timeline.entries = gapEntry .gap :: rest ∧ (gapEntry .gap).withheld = 0#4 ∧
      (((draggingTable rest).tap 0).active = true ∧ serialLt ((draggingTable rest).tap 0).bound 0#32 = true ∧
        (draggingTable rest).dropFor 0 0#32 = some { drop 0#32 0#32 with taps := 3#4 }) ∧
      (((draggingTable rest).tap 1).active = true ∧ serialLt ((draggingTable rest).tap 1).bound 0#32 = true ∧
        (draggingTable rest).droppedFor 1 0#32 = true) ∧
      ((draggingTable rest).tap 2).active = false :=
  have h : serialLt runTap.bound 0#32 = true := by decide
  ⟨rfl, rfl, ⟨rfl, h, rfl⟩, ⟨rfl, h, rfl⟩, rfl⟩

/-- With 4095 gap entries behind it the table is full and in order. -/
theorem witness_full_table :
    ∃ rest, (draggingTable rest).timelineOrdered ∧ 4096 ≤ (draggingTable rest).timeline.entries.length := by
  let e (i : Nat) : TimelineEntry := { gapEntry .gap with pi := BitVec.ofNat 32 (i + 1) }
  have key : ∀ n, n = 4095 → ((draggingTable ((List.range n).map e)).timelineOrdered ∧
      4096 ≤ (draggingTable ((List.range n).map e)).timeline.entries.length) := by
    intro n hn
    have hl : (draggingTable ((List.range n).map e)).timeline.entries.length = n + 1 := by
      simp only [draggingTable, List.length_cons, List.length_map, List.length_range]
    refine ⟨⟨by omega, fun i x h => ?_⟩, by omega⟩
    rw [hl]
    have hp : x.pi = BitVec.ofNat 32 i ∧ i ≤ n := by
      rcases i with - | k
      · cases h
        exact ⟨rfl, Nat.zero_le n⟩
      · simp only [draggingTable, List.getElem?_cons_succ, List.getElem?_map, Option.map_eq_some_iff] at h
        obtain ⟨j, hj, rfl⟩ := h
        obtain ⟨hi, rfl⟩ := List.getElem?_eq_some_iff.mp hj
        simp only [List.length_range] at hi
        exact ⟨by simp only [e, List.getElem_range], hi⟩
    rw [hp.1]
    apply BitVec.eq_of_toNat_eq
    simp only [draggingTable, BitVec.toNat_ofNat, BitVec.toNat_sub]
    omega
  exact ⟨_, key 4095 rfl⟩

/-! ### Witnesses: marks and cancellation -/

/-- A full edit list: an entry of tap 1 that starts highest, and 31 of tap 2. -/
def fullEdits (kind : EditKind) : List Edit :=
  ((List.range 31).map fun i =>
    { drop (BitVec.ofNat 32 (100 + 2 * i)) (BitVec.ofNat 32 (100 + 2 * i)) with id := i, kind := kind, taps := 4#4 }) ++
  [{ drop 200#32 200#32 with id := 31, kind := kind, taps := 2#4 }]

/-- Marks of a SEQ in the timeline, 1 and 1024 ahead, and 1 behind the head with a count of 2. -/
theorem witness_marks :
    let s : State := { running threeSegs with timeline := three }
    s.markMaps 2#32 1 2#32 1 false ∧ s.markMaps 3#32 1 3#32 1 false ∧ s.markMaps 1026#32 1 1026#32 1 false ∧
      s.markMaps 0xFFFFFFFF#32 2 0#32 1 true := by
  have h3 : ∀ y ∈ ([] : List TimelineEntry), y.seq = none := fun y h => (nomatch h)
  refine ⟨.inl ⟨[entry 0#32 0, entry 1#32 1], entry 2#32 2, [], rfl, rfl, fun y h => (nomatch h), rfl, rfl, rfl⟩, .inr ?_, .inr ?_, .inr ?_⟩
  · exact ⟨by decide, [entry 0#32 0, entry 1#32 1], entry 2#32 2, [], entry 0#32 0, 2#32, 0#32, [], [entry 1#32 1, entry 2#32 2], rfl, h3,
      rfl, rfl, h3, rfl, .inl (by decide)⟩
  · exact ⟨by decide, [entry 0#32 0, entry 1#32 1], entry 2#32 2, [], entry 0#32 0, 2#32, 0#32, [], [entry 1#32 1, entry 2#32 2], rfl, h3,
      rfl, rfl, h3, rfl, .inl (by decide)⟩
  · exact ⟨by decide, [entry 0#32 0, entry 1#32 1], entry 2#32 2, [], entry 0#32 0, 2#32, 0#32, [], [entry 1#32 1, entry 2#32 2], rfl, h3,
      rfl, rfl, h3, rfl, .inr (by decide)⟩

/-- No SEQ maps in an empty timeline. -/
theorem witness_marks_that_do_not_map : ∀ q n p m clipped, ¬ (running []).markMaps q n p m clipped := by
  have none (pre : List TimelineEntry) (x post) (h : (running []).timeline.entries = pre ++ x :: post) : False := by
    have h : ([] : List TimelineEntry) = pre ++ x :: post := h
    simp at h
  rintro q n p m clipped (⟨pre, x, post, h, -⟩ | ⟨-, pre, x, post, -, -, -, -, -, h, -⟩) <;> exact none _ _ _ h

/-- A MARK DROP that ends at PI 2 is TRAILING, at PI 0 it closes before the cut point 1; with snap reach 0 its cut check is made there and
pending at PI 2; with snap reach 1 it closes ROUGH on an entry that is no cut point. -/
theorem witness_mark_drop_settles :
    let rough : Timeline := { three with entries := [entry 0#32 0, { entry 1#32 1 with cutOk := false }] }
    let s (snap : Nat) (tl : Timeline) : State :=
      let s0 : State := { running threeSegs with timeline := tl }
      { s0 with store := { s0.store with config := { config with snapReach := snap } } }
    let base (z : Word) := markBase .drop 1#4 0#32 z
    (s 48 three).settledDropIs 1#4 0#32 2#32 { base 2#32 with state := .trailing, stop := none, reach := some 2#32 } ∧
      (s 48 three).settledDropIs 1#4 0#32 0#32 { base 0#32 with stop := some 0#32 } ∧
      (s 0 three).settledDropIs 1#4 0#32 0#32 { base 0#32 with rough := false } ∧
      (s 0 three).settledDropIs 1#4 0#32 2#32 { base 2#32 with cutPending := true } ∧
      (s 1 rough).settledDropIs 1#4 0#32 0#32 { base 0#32 with stop := some 1#32, rough := true, extension := 1 } := by
  refine ⟨.inr (.inr (.inr (.inr ⟨by decide, by decide, by decide⟩))),
    .inr (.inr (.inl ⟨[], entry 1#32 1, [entry 2#32 2], by decide, fun _ h => (nomatch h), by decide, rfl, by decide⟩)),
    .inl ⟨rfl, entry 1#32 1, by decide, rfl, rfl⟩, .inr (.inl ⟨rfl, by decide, rfl⟩),
    .inr (.inr (.inr (.inl ⟨[], { entry 1#32 1 with cutOk := false }, [], by decide, fun _ h => (nomatch h), rfl, rfl, rfl⟩)))⟩

/-- Mark entries, a full list that a range meets and that none meets, and the snap reach in its range. -/
theorem witness_mark_entries :
    let e (code : Byte) (taps : BitVec 4) : ControlEntry := ⟨code, taps, 1#16, 2#32⟩
    (e 0x05#8 1#4).code = 0x05#8 ∧ (e 0x06#8 1#4).taps ≠ 0#4 ∧ (e 0x05#8 0#4).taps = 0#4 ∧ (e 0x05#8 1#4).argA ≠ 0#16 ∧
      config.snapReach ≤ 255 ∧ 32 ≤ (fullEdits .drop).length ∧
      (∀ x ∈ fullEdits .drop, (markBase .drop 1#4 2#32 2#32).mergeable x = false) ∧
      (markBase .drop 2#4 199#32 199#32).mergeable { drop 200#32 200#32 with id := 31, taps := 2#4 } = true := by
  refine ⟨rfl, by decide, rfl, by decide, by decide, by decide, by decide +kernel, by decide⟩

/-- CANCEL EDIT of an id the list does not hold, of an entry that tap 0 has begun, and of one that no tap has. -/
theorem witness_cancel :
    let e (id : BitVec 16) : ControlEntry := ⟨0x07#8, 0#4, id, 0#32⟩
    let s : State := { withTap (running threeSegs) { runTap with bound := 1#32 } with
      timeline := three, edits := [drop 1#32 1#32, { drop 5#32 6#32 with id := 3 }] }
    (∀ x ∈ s.edits, x.id ≠ (e 1#16).argA.toNat) ∧
      (s.edits = [] ++ drop 1#32 1#32 :: [{ drop 5#32 6#32 with id := 3 }] ∧ (drop 1#32 1#32).id = (e 0#16).argA.toNat ∧
        (s.tap 0).active = true ∧ hasTap (drop 1#32 1#32).taps 0 = true ∧ serialLe 1#32 (s.tap 0).bound = true) ∧
      (s.edits = [drop 1#32 1#32] ++ { drop 5#32 6#32 with id := 3 } :: [] ∧ 3 = (e 3#16).argA.toNat ∧
        ∀ i, ¬ ((s.tap i).active = true ∧ hasTap 1#4 i = true ∧ serialLe 5#32 (s.tap i).bound = true)) := by
  refine ⟨by decide, ⟨rfl, by decide, rfl, by decide, by decide⟩, ⟨rfl, by decide, by decide⟩⟩

/-! ### Witnesses: the tap engines and the review window -/

/-- A read of slot 3 of tap window 0 stands accepted, at the offsets 0, 64 and the last of the slot. -/
theorem reading_waits (x : Tap) :
    (reading x 0).tapReadWaits 5 geometry (tapFlight 0) 0 3 0 ∧ (reading x 64).tapReadWaits 5 geometry (tapFlight 64) 0 3 64 ∧
      (reading x 16320).tapReadWaits 5 geometry (tapFlight 16320) 0 3 16320 := by
  refine ⟨⟨rfl, rfl, by decide, by decide⟩, ⟨rfl, rfl, by decide, by decide⟩, ⟨rfl, rfl, by decide, by decide⟩⟩

theorem witness_off_reads : ((reading Tap.powerOn 0).tap 0).state = .off := rfl

theorem witness_out_of_step_reads :
    ((reading runTap 64).tap 0).active = true ∧ 0 < 64 ∧ (∀ b, ((reading runTap 64).tap 0).current = some b → b.slot ≠ 3) ∧
      ∀ b, ((reading runTap 64).tap 0).previous = some b → b.slot ≠ 3 :=
  ⟨rfl, by decide, fun _ h => (nomatch h), fun _ h => (nomatch h)⟩

/-- Reads of the current and of the previous slot that continue the readback, break it, and find it past the payload. -/
theorem witness_re_reads :
    let cur : Tap := { runTap with current := some (slotBinding 3 64) }
    let prev : Tap := { runTap with current := some (slotBinding 2 64), previous := some (slotBinding 3 128) }
    ((reading cur 64).tap 0).active = true ∧ ((reading cur 64).tap 0).current = some (slotBinding 3 64) ∧
      ((reading prev 64).tap 0).previous = some (slotBinding 3 128) ∧
      (∀ b, ((reading prev 64).tap 0).current = some b → b.slot ≠ 3) ∧
      (max 64 64 < min (64 + 64) (64 + 100 + 0) ∧ (slotBinding 3 64).binding.readback.state = .expecting ∧
        max 64 64 = (slotBinding 3 64).binding.readback.next) ∧
      max 64 64 ≠ (slotBinding 3 128).binding.readback.next ∧ min (192 + 64) (64 + 100 + 0) ≤ max 192 64 := by
  refine ⟨rfl, rfl, rfl, fun b h => ?_, by decide, by decide, by decide⟩
  cases h
  decide

theorem witness_advances :
    ((reading runTap 0).tap 0).active = true ∧ (∀ b, ((reading runTap 0).tap 0).current = some b → b.slot ≠ 3) ∧
      ∀ b, ((reading runTap 0).tap 0).previous = some b → b.slot ≠ 3 :=
  ⟨rfl, fun _ h => (nomatch h), fun _ h => (nomatch h)⟩

/-- Three entries stand in their order. -/
theorem three_ordered (s : State) (h : s.timeline = three) : s.timelineOrdered := by
  unfold State.timelineOrdered
  rw [h]
  refine ⟨by decide, fun i e hi => ?_⟩
  match i with
  | 0 => cases hi; rfl
  | 1 => cases hi; rfl
  | 2 => cases hi; rfl
  | n + 3 => cases hi

/-- A PRIMING tap one entry short of its target, and one at its target of 0 with nothing to play; a RUN tap for which every entry is dropped, with
and without a repeat source, one underrun short of the stall limit. -/
theorem witness_priming_and_underrun :
    let p := reading { runTap with state := .priming, dt := 4 } 0
    let q : State := { reading { runTap with state := .priming, dt := 0 } 0 with edits := [drop 0#32 2#32] }
    let r : RepeatSource := { phys := 0, pi := 0#32, seq := 0#32, la := 100, lv := 0, check := 0#32, masked := false }
    let u : State := { reading { runTap with repeatSource := some r, underrunRun := 24 } 0 with edits := [drop 0#32 2#32] }
    ((p.tap 0).state = .priming ∧ p.delay 0 = 3 ∧ p.delay 0 < (p.tap 0).dt) ∧ (u.tap 0).state = .run ∧
      ((q.tap 0).state = .priming ∧ (q.tap 0).dt ≤ q.delay 0 ∧
        ∀ e ∈ q.timeline.entries, serialLt (q.tap 0).bound e.pi = true → q.droppedFor 0 e.pi = true) ∧
      (∀ e ∈ u.timeline.entries, serialLt (u.tap 0).bound e.pi = true → u.droppedFor 0 e.pi = true) ∧
      (u.tap 0).repeatSource = some r ∧ u.store.config.stallLimit ≤ min ((u.tap 0).underrunRun + 1) 255 ∧
      (u.tap 0).stalled = false ∧ (u.tap 0).dropped ≤ 65535 ∧ u.timelineOrdered ∧ ∀ g ∈ u.pool.segs, g.state ≠ .held := by
  refine ⟨⟨rfl, by decide, by decide⟩, rfl, ⟨rfl, by decide, by decide⟩, by decide, rfl, by decide, rfl, by decide,
    three_ordered _ rfl, by decide⟩

theorem witness_program_positions :
    ∃ t sb, exec (.tapReadArrival 5) (reading runTap 0) = .next t ∧ (t.tap 0).current = some sb ∧ sb.binding.kind = .program :=
  ⟨_, _, rfl, rfl, rfl⟩

/-- A candidate behind a dropped entry, for a RUN tap and a PRIMING one at its target; d at, below and above Dt; an insert and a shed just
due, with a cut point to shed to. -/
theorem witness_pacer :
    let r : RepeatSource := { phys := 0, pi := 0#32, seq := 0#32, la := 100, lv := 0, check := 0#32, masked := false }
    let s (dt : Nat) : State :=
      { reading { runTap with dt := dt, acc := 960, sinceLast := 12, repeatSource := some r } 0 with edits := [drop 0#32 0#32] }
    let q : State := { reading { runTap with dt := 2, state := .priming } 0 with edits := [drop 0#32 0#32] }
    ((s 2).tap 0).state = .run ∧ ((q.tap 0).state = .priming ∧ (q.tap 0).dt = q.delay 0) ∧
      (s 2).above ((s 2).tap 0).bound = [entry 0#32 0] ++ entry 1#32 1 :: [entry 2#32 2] ∧
      (∀ e ∈ [entry 0#32 0], (s 2).droppedFor 0 e.pi = true) ∧ (s 2).droppedFor 0 1#32 = false ∧ (s 2).delay 0 = 2 ∧
      (s 3).delay 0 < ((s 3).tap 0).dt ∧ ((s 1).tap 0).dt < (s 1).delay 0 ∧ ((s 3).tap 0).repeatSource = some r ∧
      ((s 3).settings 0).p ≤ ((s 3).tap 0).acc + ((s 3).settings 0).k ∧ ((s 3).settings 0).g ≤ ((s 3).tap 0).sinceLast ∧
      [entry 2#32 2] = [] ++ entry 2#32 2 :: [] ∧ (s 1).droppedFor 0 2#32 = false ∧ (entry 2#32 2).cutOk = true := by
  refine ⟨rfl, ⟨rfl, by decide⟩, by decide, by decide, by decide, by decide, by decide, by decide, rfl, by decide, by decide, rfl,
    by decide, rfl⟩

/-- The candidates of Table 44 behind a dropped entry: a gap entry, one that failed its check under either policy, one to be read back and
one that is masked. -/
theorem witness_candidates :
    let gap : TimelineEntry := { gapEntry .gap with pi := 1#32 }
    let failed : TimelineEntry := { entry 1#32 1 with checkPass := some false }
    let s (policy : CheckPolicy) (c : TimelineEntry) (es : List Edit) : State :=
      { reading runTap 0 with
        timeline := { three with entries := [entry 0#32 0, c, entry 2#32 2] }
        edits := drop 0#32 0#32 :: es
        store := { (running []).store with config := { config with checkPolicy := policy } } }
    (∀ c ∈ [gap, failed, entry 1#32 1], (s .serve c []).above runTap.bound = [entry 0#32 0] ++ c :: [entry 2#32 2]) ∧
      gap.gap ≠ none ∧ gap.phys = none ∧ failed.gap = none ∧ failed.phys = some 1 ∧ failed.checkPass = some false ∧
      (s .repeatSource failed []).store.config.checkPolicy = .repeatSource ∧ (s .serve failed []).store.config.checkPolicy = .serve ∧
      (entry 1#32 1).checkPass = some true ∧ 0 < (entry 1#32 1).la + (entry 1#32 1).lv ∧
      (s .serve (entry 1#32 1) [{ drop 1#32 1#32 with kind := .mask, id := 1 }]).maskedFor 0 1#32 = true ∧
      (s .serve (entry 1#32 1) []).maskedFor 0 1#32 = false := by
  refine ⟨by decide, by decide, rfl, rfl, rfl, rfl, rfl, rfl, rfl, by decide, by decide, by decide⟩

/-- The longest burst, its audio masked from an image of 700 bytes up to offset 1000 and its last bytes from a segment. -/
theorem witness_split_reads :
    let f : FillPlan := { offset := 0, length := 1024, header := some [], segment := some ⟨1, 1000, 1024⟩, mask := some ⟨2, 700, 64, 1000⟩ }
    f.offset % 64 = 0 ∧ f.length % 64 = 0 ∧ f.offset % 1024 + f.length ≤ 1024 ∧
      (∀ r, f.segment = some r → f.offset ≤ r.lo ∧ r.lo < r.hi ∧ r.hi ≤ f.offset + f.length) ∧
      (∀ m, f.mask = some m → f.offset ≤ m.lo ∧ m.lo < m.hi ∧ m.hi ≤ f.offset + f.length ∧ 64 ≤ m.lo ∧ 0 < m.lmask) := by
  refine ⟨rfl, rfl, Nat.le_refl _, fun r h => ?_, fun m h => ?_⟩
  · cases h
    decide
  · cases h
    decide

/-- The parts answered for the READs of a plan, in another order, hold exactly the bytes asked for. -/
theorem witness_split_reads_answered :
    let f : FillPlan := { offset := 64, length := 64, header := none, segment := some ⟨1, 100, 128⟩, mask := some ⟨2, 7, 64, 100⟩ }
    let bytes (p lo n : Nat) : List Byte := (List.range n).map fun k => BitVec.ofNat 8 (p + lo + k)
    let part (r : PartRead) : PartData :=
      if r.isMask then ⟨true, r.lo, bytes r.phys r.lo (r.hi - r.lo)⟩ else ⟨false, r.base, bytes r.phys r.base r.length⟩
    (∀ d ∈ f.reads.reverse.map part, ∃ r ∈ f.reads, d = part r) ∧ (∀ r ∈ f.reads, part r ∈ f.reads.reverse.map part) ∧
      f.reads = [⟨false, 1, 64, 64, 100, 128⟩, ⟨true, 2, 64, 64, 64, 71⟩] := by
  refine ⟨fun d h => ?_, fun r h => ?_, by decide⟩
  · obtain ⟨r, hr, rfl⟩ := List.mem_map.mp h
    exact ⟨r, List.mem_reverse.mp hr, rfl⟩
  · exact List.mem_map.mpr ⟨r, List.mem_reverse.mpr h, rfl⟩

/-- Reads of review slot 1, which is empty, and slot 0, which holds a record. -/
theorem witness_review_reads :
    let r : SegmentRecord := ⟨0, 9#32, 8#32, 100, 0, 0#32, 1#4, some .inband⟩
    let s (j off : Nat) : State :=
      { withFlight (running [.powerOn .quarantined]) (reviewFlight j off) with quarantine := { records := [r], lock := .locked } }
    ((s 1 0).link.geometry = some geometry ∧ (s 1 0).arriving 5 .review = some (reviewFlight 1 0) ∧
        windowOf (geometry.slotOf (reviewFlight 1 0).req.addr) = .review 1 ∧ geometry.offsetOf (reviewFlight 1 0).req.addr = 0 ∧
        (s 1 0).quarantine.records[1]? = none) ∧
      ((s 0 128).arriving 5 .review = some (reviewFlight 0 128) ∧
        windowOf (geometry.slotOf (reviewFlight 0 128).req.addr) = .review 0 ∧
        geometry.offsetOf (reviewFlight 0 128).req.addr = 128 ∧ (s 0 128).quarantine.records[0]? = some r) := by
  refine ⟨⟨rfl, rfl, by decide, by decide, rfl⟩, ⟨rfl, by decide, by decide, rfl⟩⟩

/-- The last part of a tap read, the first of two mask parts and the only part of a review read. -/
theorem witness_part_answers :
    let plan : FillPlan := { offset := 64, length := 64, header := none, segment := some ⟨0, 64, 128⟩, mask := none }
    let f (n : Nat) : InFlight := { tapFlight 64 with phase := .waitingM, reserved := [], parts := n, plan := some plan }
    let s (n : Nat) (u : MUse) : State := withOutstanding (withFlight (running threeSegs) (f n)) (mRequest 64 .read u false)
    (s 1 (.tapSegment 5 0 0 64)).link.outstanding.find? (fun x => x.tag == (64 : Fin 128)) =
        some (mRequest 64 .read (.tapSegment 5 0 0 64) false) ∧
      (s 2 (.maskPart 5 0 64 64 128)).link.outstanding.find? (fun x => x.tag == (64 : Fin 128)) =
        some (mRequest 64 .read (.maskPart 5 0 64 64 128) false) ∧
      (s 1 (.reviewPart 5 0 64)).link.outstanding.find? (fun x => x.tag == (64 : Fin 128)) =
        some (mRequest 64 .read (.reviewPart 5 0 64) false) ∧
      (s 1 (.tapSegment 5 0 0 64)).entry 5 = some (f 1) ∧ (s 2 (.maskPart 5 0 64 64 128)).entry 5 = some (f 2) ∧ (f 1).plan = some plan ∧
      0 < (f 1).parts ∧ 1 < (f 2).parts ∧ (zeros 64).length = (mRequest 64 .read (.reviewPart 5 0 64) false).length ∧
      (s 1 (.reviewPart 5 0 64)).seg? 0 = some (.powerOn .live) := by
  refine ⟨by decide, by decide, by decide, rfl, rfl, rfl, by decide, by decide, by decide, rfl⟩

/-- Segment parts under tag 5 that a readback awaits: the last of a payload of 64 bytes, whose word is and is not CHECK, and the first of
100 bytes. -/
theorem witness_readback :
    let c : ReadbackChunk := ⟨5, 64, 128, none⟩
    let sb (la : Nat) (check : Word) : SlotBinding :=
      { slotBinding 3 128 with binding :=
        { (slotBinding 3 128).binding with la := la, check := check, readback := { Readback.start with next := 128, chunks := [c] } } }
    let word := crcRun crcInit ([zeros 64] : List (List Byte)).flatten
    ((sb 64 0#32).binding.readback.state = .expecting ∧ c ∈ (sb 64 0#32).binding.readback.chunks ∧ c.tag = 5 ∧ c.bytes = none) ∧
      ((zeros 64).drop (64 - 64)).take (128 - 64) = zeros 64 ∧ (sb 64 0#32).binding.readback.next = 64 + 64 + 0 ∧
      (sb 100 0#32).binding.readback.next ≠ 64 + 100 + 0 ∧ (sb 64 (~~~ word)).binding.check = ~~~ word ∧ ~~~ word ≠ 0#32 := by
  refine ⟨⟨rfl, by decide, rfl, rfl⟩, by decide, rfl, by decide, rfl, by decide +kernel⟩

/-! ### Witnesses: the pattern test -/

/-- A machine testing segment 1 of three, the run being `r`. -/
def testing (r : PatternRun) : State :=
  let s := running [free, .powerOn .testing, free]
  { s with pool := { s.pool with pattern := some r } }

/-- PATTERN TEST ranges in a pool of four whose first segment is LIVE and third has a request outstanding: past the pool, empty, cut by one,
and with nothing to test; and while a run is on. -/
theorem witness_pattern_test :
    let s := running [.powerOn .live, free, { free with outstanding := 1 }, free]
    let e (first : Word) (count : BitVec 16) : ControlEntry := ⟨0x1C#8, 0#4, count, first⟩
    let testable (e : ControlEntry) (p : Nat) : Bool :=
      decide (e.argB.toNat ≤ p ∧ p < min (e.argB.toNat + e.argA.toNat) 4) &&
        (s.seg? p).any fun g => g.state == .free && g.outstanding == 0
    s.pool.pattern = none ∧ (testing (.start 1 3)).pool.pattern ≠ none ∧ s.pool.segs.length ≤ (e 4#32 1#16).argB.toNat ∧
      (e 0#32 0#16).argA = 0#16 ∧ (e 2#32 3#16).argB.toNat < s.pool.segs.length ∧ (e 2#32 3#16).argA ≠ 0#16 ∧
      (testable (e 2#32 3#16) 3 = true ∧ ∀ p, p < 3 → testable (e 2#32 3#16) p = false) ∧
      s.pool.segs.length < (e 2#32 3#16).argB.toNat + (e 2#32 3#16).argA.toNat ∧ ∀ p, p < 4 → testable (e 2#32 1#16) p = false := by
  refine ⟨rfl, by decide, by decide, rfl, by decide, by decide, ⟨by decide, by decide⟩, by decide, by decide⟩

/-- The run before its first write, its last write, its first read and its last read, with exactly six tags free; and waiting. -/
theorem witness_pattern_issues :
    let r := PatternRun.start 1 3
    let s := withFlight (testing r) (tagHolder 6)
    s.pool.pattern = some r ∧ s.link.geometry = some geometry ∧ s.link.mHoldOff = false ∧ s.patternHolds < 8 ∧
      s.freeTags.length = 6 ∧ r.failed = false ∧ r.writesIssued < geometry.segSize / 1024 ∧
      { r with writesIssued := 15 }.writesIssued < geometry.segSize / 1024 ∧
      { r with writesIssued := 16, writesAnswered := 16 }.writesIssued = geometry.segSize / 1024 ∧
      { r with writesIssued := 16, writesAnswered := 16, readsIssued := 15 }.readsIssued < geometry.segSize / 1024 ∧
      { r with writesIssued := 16, writesAnswered := 15 }.writesAnswered ≠ 16 := by
  refine ⟨rfl, rfl, rfl, by decide, by decide +kernel, rfl, by decide, by decide, by decide, by decide, by decide⟩

/-- A write's answer with another outstanding, the last read's answer of a run without and with a failure, a segment left in the
range and none left. -/
theorem witness_pattern_answers :
    let w := mRequest 64 .write (.patternWrite 1) false
    let d := mRequest 64 .read (.patternRead 1 15360) false
    let r : PatternRun := { PatternRun.start 1 3 with writesIssued := 2, writesAnswered := 0 }
    let q (stop : Nat) : PatternRun :=
      { PatternRun.start 1 stop with writesIssued := 16, writesAnswered := 16, readsIssued := 16, readsAnswered := 15 }
    (withOutstanding (testing r) w).link.outstanding.find? (fun x => x.tag == (64 : Fin 128)) = some w ∧ w.draining = false ∧
      (testing r).pool.pattern = some r ∧ (testing r).seg? 1 = some (.powerOn .testing) ∧
      ¬ (r.writesAnswered + 1 = r.writesIssued) ∧
      (withOutstanding (testing (q 3)) d).link.outstanding.find? (fun x => x.tag == (64 : Fin 128)) = some d ∧
      (zeros 64).length = d.length ∧ (q 3).readsAnswered + 1 = geometry.segSize / 1024 ∧
      ((testing (q 3)).seg? 2 = some free ∧ 1 < 2 ∧ 2 < (q 3).stop) ∧ (q 2).stop = 2 ∧ (testing (q 3)).timeline.entries = [] ∧
      (testing (q 3)).quarantine.records = [] := by
  refine ⟨by decide, rfl, rfl, rfl, by decide, by decide, by decide, by decide, ⟨rfl, by decide, by decide⟩, rfl, rfl, rfl⟩

/-! ### Witnesses: the panel, the store and in-band control -/

/-- `s` with the panel lines settled at a level. -/
def pressing (level : Bool) (s : State) : State :=
  { s with panel :=
      { s.panel with
        dumpLine := settled level, maskLine := settled level, enterLine := settled level, exitLine := settled level } }

theorem witness_panel_lines :
    let first : LineState := { raw := false, debounced := none, interval := true }
    let s : State := { running [] with panel := { (running []).panel with dumpLine := first } }
    s.startUp.phase = .running ∧ (s.line .dump).interval = true ∧ (s.line .dump).debounced = none ∧ (s.line .dump).raw ≠ true ∧
      (s.line .dump).raw = false ∧ (((pressing false (running [])).line .exit).debounced = some true) ∧ PanelLine.exit ≠ .mask :=
  ⟨rfl, rfl, rfl, by decide, rfl, rfl, by decide⟩

/-- A machine with three entries and tap 0, a panel tap, at work. -/
def panelled (level : Bool) (edits : List Edit) : State :=
  pressing level { withTap (running threeSegs) runTap with timeline := three, edits := edits }

theorem witness_panel_floor :
    (∀ level edits, (panelled level edits).panelFloorIs 0xFFFFFFFF#32) ∧ (running threeSegs).panelFloorIs (running threeSegs).liveEdge := by
  refine ⟨fun level edits => ⟨fun h => (nomatch h), fun e rest h => ?_⟩, fun _ => rfl, fun e rest h => (nomatch h)⟩
  cases h
  exact ⟨0xFFFFFFFF#32, .inl ⟨0, ⟨show hasTap config.panelTaps 0 = true by decide, rfl⟩, rfl, forall_tap (fun _ => .inl rfl) (fun h => (nomatch h.2)) (fun h => (nomatch h.2))
    fun h => (nomatch h.2)⟩, by decide⟩

/-- DUMP presses with everything dropped, on an empty list, beside an entry it meets, and on a full list of DROPs and of MASKs, the newest
being the last. -/
theorem witness_dump_presses :
    let s := panelled true
    let new := (s []).dumpRange 0#32
    let undropped := (s []).above 0xFFFFFFFF#32
    (s []).startUp.phase = .running ∧ (s []).panel.dumpLine = { raw := true, debounced := some false, interval := true } ∧
      1 ≤ (s []).store.config.dumpLength ∧ (s []).store.config.panelTaps ≠ 0#4 ∧ 0 < (s []).store.config.snapReach ∧
      undropped[undropped.length - min (s []).store.config.dumpLength undropped.length]? = some (entry 0#32 0) ∧
      (∀ e ∈ undropped, ∀ i, hasTap (s []).store.config.panelTaps i = true → (s [drop 0#32 2#32]).droppedFor i e.pi = true) ∧
      new.mergeable (drop 1#32 1#32) = true ∧
      (∀ kind, (fullEdits kind).length = 32 ∧ (∀ x ∈ fullEdits kind, new.mergeable x = false) ∧
        ∀ x ∈ fullEdits kind, x.id = 31 ∨ (serialLt x.start 200#32 = true ∧ serialLt 200#32 x.start = false)) ∧
      (∀ x ∈ fullEdits .mask, x.kind = .mask) ∧
      ∀ x ∈ (fullEdits .drop).take 31, x.id ≠ 31 ∧
        ({ drop 200#32 200#32 with id := 31, taps := 2#4 }.join new).mergeable x = false := by
  refine ⟨rfl, rfl, by decide, by decide, by decide, by decide, by decide, by decide, fun kind => ?_, by decide +kernel, by decide +kernel⟩
  cases kind <;> exact ⟨by decide +kernel, by decide +kernel, by decide +kernel⟩

/-- MASK presses on an empty list, beside an OPEN entry and on a full list; releases without an OPEN entry and with one that covers
something and one that covers nothing. -/
theorem witness_mask_presses :
    let s := panelled
    let m : Edit := { (s true []).maskRange with limitBase := some 0#32 }
    ((s true []).startUp.phase = .running ∧ (s true []).panel.maskLine.interval = true ∧ (s true []).panel.maskLine.raw = true ∧
        (s true []).panel.maskLine.debounced = some false ∧ (s true []).store.config.panelTaps ≠ 0#4) ∧
      m.state = .opened ∧ (∀ kind, ∀ x ∈ fullEdits kind, (s true []).maskRange.mergeable x = false ∧ x.state ≠ .opened) ∧
      (∀ x ∈ fullEdits .drop, x.kind = .drop) ∧
      ((s false []).panel.maskLine.raw = false ∧ (s false []).panel.maskLine.debounced = some true ∧
        (∀ e ∈ [drop 0#32 0#32], e.state ≠ .opened ∧ (s false [drop 0#32 0#32]).spent e = false)) ∧
      (s false [drop 0#32 0#32, m]).edits = [drop 0#32 0#32] ++ m :: [] ∧ (∀ x ∈ [drop 0#32 0#32], x.state ≠ .opened) ∧
      serialLt 2#32 m.start = false ∧ serialLt 2#32 3#32 = true := by
  refine ⟨⟨rfl, rfl, rfl, rfl, by decide⟩, rfl, fun kind => ?_, by decide +kernel, ⟨rfl, rfl, by decide +kernel⟩, rfl, by decide, by decide,
    by decide⟩
  cases kind <;> decide +kernel

theorem witness_build_blink :
    ({ State.reset with panel := { State.reset.panel with tallies := { Tallies.dark with build := true } } } :
        State).panel.tallies.build = true ∧
      State.reset.panel.tallies.build = false := ⟨rfl, rfl⟩

theorem witness_enter_and_exit :
    (pressing true (running [])).startUp.phase = .running ∧
      (pressing true (running [])).panel.enterLine = { raw := true, debounced := some false, interval := true } ∧
      (pressing true (running [])).panel.exitLine = { raw := true, debounced := some false, interval := true } := ⟨rfl, rfl, rfl⟩

/-- A store write before its first and before its last page. -/
theorem witness_store_pages :
    let w (n : Nat) : StoreWrite := { record := zeros 256, page := n }
    let s (n : Nat) : State := { running [] with store := { (running []).store with write := some (w n) } }
    (s 0).store.write = some (w 0) ∧ (s 0).store.contents.length = 256 ∧ (w 0).record.length = 256 ∧ (w 0).page < 15 ∧
      (s 15).store.write = some (w 15) ∧ (w 15).page = 15 := by
  refine ⟨rfl, by decide +kernel, by decide +kernel, by decide, rfl, rfl⟩

/-- SAVE CONFIG, and COMMIT RETIRE past the guard, while a write is in progress, with STORE_EN 0, and when a write can start; the items of
SET GEOMETRY at and past the ends of their ranges. -/
theorem witness_store_commands :
    let e (code : Byte) (a : BitVec 16) (b : Word) : ControlEntry := ⟨code, 0#4, a, b⟩
    let s (en : Bool) : State := { running [] with guardStep := 4, startUp := { (running []).startUp with straps := ⟨0, false, en⟩ } }
    (e 0x1A#8 0#16 0#32).code = 0x1A#8 ∧ ((e 0x19#8 0#16 0#32).code = 0x19#8 ∧ (s true).guardStep = 4) ∧ (s true).store.write = none ∧
      ({ (s true).store with write := some ⟨[], 0⟩ } : StoreController).write ≠ none ∧ (s false).startUp.straps.storeEn = false ∧
      (s true).startUp.straps.storeEn = true ∧
      ((e 0x1B#8 0#16 16383#32).argB.toNat ≤ 16383 ∧ (e 0x1B#8 1#16 16777215#32).argB.toNat ≤ 16777215 ∧
        (e 0x1B#8 2#16 3#32).argB.toNat = (3 : Fin 4).val ∧ 64 ≤ (e 0x1B#8 3#16 64#32).argB.toNat ∧
        (e 0x1B#8 3#16 4096#32).argB.toNat ≤ 4096 ∧ (e 0x1B#8 4#16 256#32).argB.toNat ≤ 256) ∧
      (4 < (e 0x1B#8 5#16 0#32).argA.toNat ∧ 16383 < (e 0x1B#8 0#16 16384#32).argB.toNat ∧
        16777215 < (e 0x1B#8 1#16 16777216#32).argB.toNat ∧ 3 < (e 0x1B#8 2#16 4#32).argB.toNat ∧
        (e 0x1B#8 3#16 63#32).argB.toNat < 64 ∧ 4096 < (e 0x1B#8 3#16 4097#32).argB.toNat ∧
        256 < (e 0x1B#8 4#16 257#32).argB.toNat) := by
  refine ⟨rfl, ⟨rfl, rfl⟩, rfl, by decide, rfl, rfl, by decide, by decide⟩

/-- Steps and entries that the statement about the guard divides into its cases. -/
theorem witness_guard :
    (⟨0x12#8, 0#4, 0#16, 0#32⟩ : ControlEntry).code ≠ 0#8 ∧ (running []).guardStep ≠ 4 ∧
      ({ running [] with guardStep := 3 } : State).guardStep = 3 := by
  refine ⟨by decide, by decide, rfl⟩

theorem witness_clear_counters :
    (⟨0x0D#8, 15#4, 0#16, 0#32⟩ : ControlEntry).code = 0x0D#8 ∧ (⟨0x0D#8, 15#4, 0#16, 0#32⟩ : ControlEntry).taps ≠ 0#4 := by decide

/-- Entries of the tap and setting commands with taps 1 and 3 named, and a pool with nothing retire-pending. -/
theorem witness_tap_and_setting_commands :
    let e (code : Byte) (b : Word) : ControlEntry := ⟨code, 10#4, 1#16, b⟩
    (e 0x01#8 0#32).taps ≠ 0#4 ∧ (e 0x02#8 0#32).code = 0x02#8 ∧ (e 0x03#8 0#32).code = 0x03#8 ∧ (e 0x04#8 0#32).code = 0x04#8 ∧
      hasTap (e 0x01#8 0#32).taps 1 = true ∧ hasTap (e 0x01#8 0#32).taps 0 = false ∧ (e 0x08#8 0#32).code = 0x08#8 ∧
      (e 0x09#8 0#32).code = 0x09#8 ∧ (e 0x0A#8 0#32).code = 0x0A#8 ∧ (e 0x0C#8 0#32).code = 0x0C#8 ∧
      (3 : Fin 4).val = (e 0x0B#8 0x3F#32).argB.toNat / 16 % 4 ∧ (∀ g ∈ (running threeSegs).pool.segs, g.retirePending = false) ∧
      (⟨0x0D#8, 0#4, 0#16, 0#32⟩ : ControlEntry).taps = 0#4 := by
  refine ⟨by decide, rfl, rfl, rfl, by decide, by decide, rfl, rfl, rfl, rfl, by decide, by decide, rfl⟩

/-- QUARANTINE RELEASE of one record of an UNLOCKED list past the guard, the head at the floor; and of a LOCKED one. -/
theorem witness_release :
    let s : State := { lively with quarantine := { lively.quarantine with lock := .unlocked }, guardStep := 4 }
    s.guardStep = 4 ∧ s.quarantine.lock = .unlocked ∧ s.segmentsOwned ∧
      (∀ r ∈ s.quarantine.records.take 1, ∀ g, s.seg? r.phys = some g → g.retirePending = false) ∧
      s.timeline.entries = entry 0#32 0 :: [entry 1#32 1, entry 2#32 2] ∧ serialLt 0#32 s.floor = false ∧
      lively.quarantine.lock ≠ .unlocked := by
  refine ⟨rfl, rfl, witness_segments_owned, ?_, rfl, by decide, by decide⟩
  intro r hr g hg
  cases List.mem_singleton.mp hr
  cases hg
  rfl

/-- A LOCKED quarantine, full, whose oldest record's segment is releasable, in a pool with nothing FREE; an UNLOCKED and a FROZEN one. -/
theorem witness_unlock :
    let r (p : Nat) : SegmentRecord := ⟨p, 0#32, 0#32, 0, 0, 0#32, 1#4, some .panel⟩
    let s (l : LockState) : State :=
      { running [.powerOn .quarantined, .powerOn .quarantined] with
        quarantine := { records := [r 0, r 1], lock := l }, guardStep := 4 }
    (s .locked).guardStep = 4 ∧ (s .locked).quarantine.lock ≠ .frozen ∧ (s .locked).quarantine.records = r 0 :: [r 1] ∧
      (s .locked).quarantine.records.length = (s .locked).quarCap ∧ (s .locked).seg? 0 = some (.powerOn .quarantined) ∧
      (s .frozen).quarantine.lock = .frozen := by
  refine ⟨rfl, by decide, rfl, by decide, rfl, rfl⟩

end Sys2Proof.Tests
end

/-! SUPPORT. The link path of a presented request: its class (R6, R7), its acceptance while nothing holds it off (R4, Table 6) and the
return of a response that is composed at acceptance (R2). -/

namespace Sys2Proof.Machine

/-! ### Legal requests and the regions they touch (R6) -/

theorem request_length_pos (r : LinkRequest) : 0 < r.length :=
  Nat.mul_pos (by decide) (Nat.succ_pos r.units.val)

/-- The model's bound on the offset in a 1024-byte block says that first and last byte share that block (Table 4, Note 1). -/
theorem requestLegal_iff (r : LinkRequest) : requestLegal r = true ↔ isLegal r := by
  have hpos := request_length_pos r
  simp only [requestLegal, isLegal, Bool.and_eq_true, beq_iff_eq, decide_eq_true_eq]
  omega

theorem requestLegal_eq_false {r : LinkRequest} (h : ¬ isLegal r) : requestLegal r = false :=
  Bool.eq_false_iff.mpr fun hl => h ((requestLegal_iff r).mp hl)

/-- Two byte intervals meet exactly when the later of their first bytes lies in both. -/
theorem rangesMeet_iff (a n b m : Nat) : rangesMeet a n b m = true ↔ ∃ x, (a ≤ x ∧ x < a + n) ∧ b ≤ x ∧ x < b + m := by
  rw [rangesMeet, decide_eq_true_eq]
  constructor
  · intro h
    exact ⟨max a b, by omega⟩
  · rintro ⟨x, hfirst, hsecond⟩
    omega

theorem Geometry.touchesAperture_iff (g : Geometry) (r : LinkRequest) :
    g.touchesAperture r = true ↔ ∃ a, requestHas r a ∧ g.inAperture a := rangesMeet_iff ..

theorem Geometry.touchesBacking_iff (g : Geometry) (r : LinkRequest) :
    g.touchesBacking r = true ↔ ∃ a, requestHas r a ∧ g.inBacking a := rangesMeet_iff ..

/-- The first row of Table 7. -/
theorem Geometry.classify_illegal {g : Geometry} {r : LinkRequest} (hl : ¬ isLegal r)
    (ht : ∃ a, requestHas r a ∧ (g.inAperture a ∨ g.inBacking a)) : g.classify r = .illegal := by
  have htouch : (g.touchesAperture r || g.touchesBacking r) = true := by
    rw [Bool.or_eq_true, g.touchesAperture_iff, g.touchesBacking_iff]
    obtain ⟨a, ha, hin | hin⟩ := ht
    · exact .inl ⟨a, ha, hin⟩
    · exact .inr ⟨a, ha, hin⟩
  simp [Geometry.classify, requestLegal_eq_false hl, htouch]

/-! ### The in-flight table (Table 5) -/

theorem State.entry_eq_none_iff (s : State) (tag : Fin 64) : s.entry tag = none ↔ ∀ f ∈ s.link.inflight, f.req.tag ≠ tag := by
  simp [State.entry]

/-- A new entry is the entry of its tag when that tag was IDLE. -/
theorem State.entry_addFlight {s : State} {f : InFlight} (h : s.entry f.req.tag = none) :
    (s.addFlight f).entry f.req.tag = some f := by
  rw [State.entry] at h
  simp [State.entry, State.addFlight, List.find?_append, h]

/-- An entry that joins under an IDLE tag and leaves again leaves the table as it was. -/
theorem State.dropFlight_addFlight {s : State} {f : InFlight} (h : s.entry f.req.tag = none) :
    (s.addFlight f).dropFlight f.req.tag = s := by
  have hkeep : (s.link.inflight.filter fun x => x.req.tag != f.req.tag) = s.link.inflight :=
    List.filter_eq_self.mpr fun x hx => bne_iff_ne.mpr ((s.entry_eq_none_iff _).mp h x hx)
  simp [State.addFlight, State.dropFlight, List.filter_append, hkeep]

/-! ### Acceptance (R4, Table 6) -/

theorem exec_pRequestAccept (r : LinkRequest) (s : State) : exec (.pRequestAccept r) s = execPRequestAccept r s := rfl

/-- Nothing waits but, at most, the request itself, so it is tested now. -/
theorem exec_pRequestAccept_of_admits {s : State} {r : LinkRequest} (ha : s.admits r) :
    exec (.pRequestAccept r) s = .next (s.meetRequest r) := by
  obtain ⟨hwf, hfront, -⟩ := ha
  rw [exec_pRequestAccept, execPRequestAccept, if_pos hwf]
  obtain hnone | hsame := hfront
  · rw [hnone]
  · rw [hsame]
    exact if_pos rfl

theorem State.entry_of_admits {s : State} {r : LinkRequest} (ha : s.admits r) : s.entry r.tag = none := by
  obtain ⟨-, -, -, -, -, hfree⟩ := ha
  exact (s.entry_eq_none_iff r.tag).mpr fun f hf => (hfree f hf).2

/-- Of the conditions of Table 6 only the want of internal tags is left. -/
theorem State.holdsOff_of_admits {s : State} {r : LinkRequest} (ha : s.admits r) : s.holdsOff r = s.lacksTags r := by
  have hentry := State.entry_of_admits ha
  obtain ⟨-, -, hrun, hlrst, hm, hfree⟩ := ha
  have howes : s.owes = false := List.any_eq_false.mpr fun f hf => by simp [(hfree f hf).1]
  simp [State.holdsOff, hrun, hlrst, hm, howes, hentry]

/-- Only reads of a tap window or of the review window need internal tags (R15). -/
theorem State.lacksTags_eq_false {s : State} {g : Geometry} {r : LinkRequest} (hg : s.link.geometry = some g)
    (htap : g.classify r ≠ .tap) (hreview : g.classify r ≠ .review) : s.lacksTags r = false := by
  simp [State.lacksTags, hg, htap, hreview]

/-- An admitted request for which internal tags suffice is accepted in its class. -/
theorem exec_pRequestAccept_accepts {s : State} {g : Geometry} {r : LinkRequest} (ha : s.admits r)
    (hg : s.link.geometry = some g) (htags : s.lacksTags r = false) :
    exec (.pRequestAccept r) s = .next ((s.setPresented none).accept g r) := by
  rw [exec_pRequestAccept_of_admits ha]
  simp [State.meetRequest, hg, State.holdsOff_of_admits ha, htags]

/-! ### The return of a composed response (R2) -/

theorem exec_responseReturn (tag : Fin 64) (s : State) : exec (.responseReturn tag) s = execResponseReturn tag s := rfl

/-- A response composed for an IDLE tag and not owed returns at once; what stays is the response on the P-side. -/
theorem exec_responseReturn_addFlight {s : State} {f : InFlight} {reply : Reply} (hidle : s.entry f.req.tag = none)
    (hphase : f.phase = .ready) (hreply : f.reply = some reply) (howed : f.owed = false) :
    exec (.responseReturn f.req.tag) (s.addFlight f) = .next (s.putReply f.req.tag reply) := by
  have hdrop : ((s.putReply f.req.tag reply).addFlight f).dropFlight f.req.tag = s.putReply f.req.tag reply :=
    State.dropFlight_addFlight hidle
  have hput : (s.addFlight f).putReply f.req.tag reply = (s.putReply f.req.tag reply).addFlight f := rfl
  simp [exec_responseReturn, execResponseReturn, State.entry_addFlight hidle, hphase, hreply, howed, State.returnReply, hput, hdrop]

/-! ### ILLEGAL requests (R7) -/

/-- The entry of an ILLEGAL request: its FAULT response is composed at acceptance. -/
def illegalFlight (r : LinkRequest) : InFlight := (flight r .illegal .ready).answer ⟨.fault, zeroData r⟩

theorem State.accept_illegal {s : State} {g : Geometry} {r : LinkRequest} (hc : g.classify r = .illegal) :
    s.accept g r = (s.raiseAll .misalign).addFlight (illegalFlight r) := by
  rw [State.accept, hc]
  rfl

/-- Settles O23: an illegal request needs no internal tags, so it is accepted as ILLEGAL, and its composed response returns. -/
theorem illegalRequestsAreAnsweredFault : Obligations.IllegalRequestsAreAnsweredFault := by
  intro s g r ha hg hl htouch
  have hc : g.classify r = .illegal := Geometry.classify_illegal hl htouch
  have htags : s.lacksTags r = false := State.lacksTags_eq_false hg (by simp [hc]) (by simp [hc])
  have haccept := exec_pRequestAccept_accepts ha hg htags
  rw [State.accept_illegal hc] at haccept
  have hentry := State.entry_of_admits ha
  have hidle : ((s.setPresented none).raiseAll .misalign).entry r.tag = none := hentry
  exact ⟨_, _, haccept, exec_responseReturn_addFlight (f := illegalFlight r) hidle rfl rfl rfl, rfl, rfl⟩

end Sys2Proof.Machine

/-! SUPPORT. The arrival of a payload write at the capture unit: the request it names, the latch of STRAY_WRITE, and the writes that the
unit absorbs (R33). -/

namespace Sys2Proof.Machine

/-! ### The request that arrives (R11) -/

theorem State.tag_of_entry {s : State} {tag : Fin 64} {f : InFlight} (h : s.entry tag = some f) : f.req.tag = tag :=
  eq_of_beq (List.find?_some (p := fun x : InFlight => x.req.tag == tag) h)

/-- An arriving request is the entry of its tag. -/
theorem State.entry_of_arriving {s : State} {tag : Fin 64} {cls : ReqClass} {f : InFlight} (h : s.arriving tag cls = some f) :
    s.entry tag = some f :=
  (Option.filter_eq_some_iff.mp h).1

/-- A capture write at the capture unit is an accepted request that arrives, in class CAPTURE. -/
theorem State.arriving_of_captureWrite {s : State} {tag : Fin 64} {g : Geometry} {f : InFlight} {k o : Nat}
    (h : s.captureWrite tag = some (g, f, k, o)) : s.arriving tag .capture = some f := by
  unfold State.captureWrite at h
  split at h
  next _ _ _ harr =>
    split at h
    next =>
      cases h
      exact harr
    next => cases h
  next => cases h

theorem State.tag_of_captureWrite {s : State} {tag : Fin 64} {g : Geometry} {f : InFlight} {k o : Nat}
    (h : s.captureWrite tag = some (g, f, k, o)) : f.req.tag = tag :=
  State.tag_of_entry (State.entry_of_arriving (State.arriving_of_captureWrite h))

/-- Past offset 0, where the header stands, a capture write is a payload write. -/
theorem exec_payloadWriteArrival_of_captureWrite {s : State} {tag : Fin 64} {g : Geometry} {f : InFlight} {k o : Nat}
    (h : s.captureWrite tag = some (g, f, k, o)) (ho : 0 < o) :
    exec (.payloadWriteArrival tag) s = .next (s.payloadWrite g f k o) := by
  have hexec : exec (.payloadWriteArrival tag) s = execPayloadWriteArrival tag s := rfl
  rw [hexec, execPayloadWriteArrival, h]
  exact if_neg (Nat.ne_of_gt ho)

/-! ### Absorbing (R33) -/

/-- The entry of an absorbed write: answered OK, without data. -/
theorem State.absorbWrite_eq (s : State) (f : InFlight) :
    s.absorbWrite f =
      { s with link := { s.link with inflight := s.link.inflight.map fun x =>
          if x.req.tag = f.req.tag then { x with cls := .absorbed, phase := .ready, reply := some ⟨.ok, []⟩ } else x } } := by
  simp [State.absorbWrite, State.modifyFlight, InFlight.answer]

/-- STRAY_WRITE is bit 11 of the latch (Table 14). -/
theorem Tap.raise_strayWrite (x : Tap) : x.raise .strayWrite = { x with latch := x.latch ||| 0x800#32 } := rfl

theorem State.raiseAll_strayWrite (s : State) :
    s.raiseAll .strayWrite = { s with taps := s.taps.map fun x => { x with latch := x.latch ||| 0x800#32 } } :=
  congrArg (fun raise => { s with taps := s.taps.map raise }) (funext Tap.raise_strayWrite)

theorem State.payloadWrite_of_discard {s : State} {k : Nat} {c : Context} (g : Geometry) (f : InFlight) (o : Nat)
    (hfind : s.capture.contexts.find? (fun c => c.slot == k) = some c) (hbody : c.body = none) :
    s.payloadWrite g f k o = s.absorbWrite f := by
  simp [State.payloadWrite, hfind, hbody]

theorem State.payloadWrite_of_unopened {s : State} {k : Nat} (g : Geometry) (f : InFlight) (o : Nat)
    (hnone : ∀ c ∈ s.capture.contexts, c.slot ≠ k) :
    s.payloadWrite g f k o = (s.raiseAll .strayWrite).absorbWrite f := by
  have hfind : s.capture.contexts.find? (fun c => c.slot == k) = none :=
    List.find?_eq_none.mpr fun c hc => by simp [hnone c hc]
  simp [State.payloadWrite, hfind]

/-- Settles O35: the slot's context, or the want of one, selects the branch of R33; both absorb the write, the second after STRAY_WRITE. -/
theorem payloadWritesAreAbsorbed : Obligations.PayloadWritesAreAbsorbed := by
  intro s tag g f k o hwrite ho absorbed
  have hexec := exec_payloadWriteArrival_of_captureWrite hwrite ho
  obtain rfl := State.tag_of_captureWrite hwrite
  constructor
  · intro c hfind hbody
    rw [hexec, State.payloadWrite_of_discard g f o hfind hbody, State.absorbWrite_eq]
  · intro hnone
    rw [hexec, State.payloadWrite_of_unopened g f o hnone, State.absorbWrite_eq, State.raiseAll_strayWrite]

end Sys2Proof.Machine

/-! SUPPORT. The arrival of a read at an OFF tap: the tap window it names, the plan without a part, and the OFF header (R109, R112). -/

namespace Sys2Proof.Machine

/-! ### The tap read that arrives (R109) -/

theorem State.tag_of_tapReadWaits {s : State} {tag : Fin 64} {g : Geometry} {f : InFlight} {i : Fin 4} {j o : Nat}
    (h : s.tapReadWaits tag g f i j o) : f.req.tag = tag := by
  obtain ⟨-, harr, -, -⟩ := h
  exact State.tag_of_entry (State.entry_of_arriving harr)

/-- A waiting tap read is handed to the engine of its window, after which the tally lines take their conditions. -/
theorem exec_tapReadArrival_of_waits {s : State} {tag : Fin 64} {g : Geometry} {f : InFlight} {i : Fin 4} {j o : Nat}
    (h : s.tapReadWaits tag g f i j o) :
    exec (.tapReadArrival tag) s = .next (s.tapRead g f.req i j o).refreshTally := by
  obtain ⟨hgeom, harr, hwindow, hoffset⟩ := h
  have hexec : exec (.tapReadArrival tag) s = execTapReadArrival tag s := rfl
  simp [hexec, execTapReadArrival, hgeom, harr, hwindow, hoffset]

theorem Tap.active_of_off {x : Tap} (h : x.state = .off) : x.active = false := by
  simp [Tap.active, h]

/-- The first row of Table 42 asks neither for the slot nor for the offset. -/
theorem State.tapRead_of_off {s : State} {i : Fin 4} (g : Geometry) (r : LinkRequest) (j o : Nat) (h : (s.tap i).state = .off) :
    s.tapRead g r i j o = s.servePlan r.tag g (headerPlan (s.offHeader i) o r.length) (tapUse r.tag i) := by
  have hkind : (s.tap i).classifyRead j o = .off := if_pos (Tap.active_of_off h)
  rw [State.tapRead, hkind]

/-! ### Plans without a part (R13, R14) -/

/-- A plan that needs no READ is answered at once: the read gives back its reserved tags, and nothing joins the M-side. -/
theorem State.servePlan_of_no_reads {plan : FillPlan} (s : State) (tag : Fin 64) (g : Geometry) (use : PartRead → MUse)
    (h : plan.reads = []) :
    s.servePlan tag g plan use =
      { s with link := { s.link with inflight := s.link.inflight.map fun y =>
          if y.req.tag = tag then
            { y with
              reserved := []
              parts := 0
              targets := plan.targets
              plan := some plan
              phase := .ready
              reply := some ⟨.ok, plan.compose []⟩ }
          else y } } := by
  simp [State.servePlan, h, State.modifyFlight, InFlight.answer]

@[simp] theorem headerPlan_reads (h : List Byte) (off len : Nat) : (headerPlan h off len).reads = [] := rfl

@[simp] theorem headerPlan_targets (h : List Byte) (off len : Nat) : (headerPlan h off len).targets = [] := rfl

/-- A byte below offset 64 that the burst reaches comes from the header, since the burst then starts below 64 as well. -/
theorem headerPlan_byteAt (h : List Byte) (received : List PartData) (off len n : Nat) :
    (headerPlan h off len).byteAt received (off + n) = if off + n < 64 then byteOf h (off + n) else 0#8 := by
  by_cases hlow : off + n < 64
  · have hstart : off < 64 := by omega
    simp [FillPlan.byteAt, FillPlan.source, headerPlan, headerPart, hlow, hstart]
  · simp [FillPlan.byteAt, FillPlan.source, headerPlan, hlow]

theorem headerPlan_compose (h : List Byte) (received : List PartData) (off len : Nat) :
    (headerPlan h off len).compose received =
      (List.range len).map fun n => if off + n < 64 then byteOf h (off + n) else 0#8 :=
  List.map_congr_left fun n _ => headerPlan_byteAt h received off len n

/-! ### The OFF header (R112, R172) -/

theorem toLE_one (n : Nat) : toLE 1 n = [BitVec.ofNat 8 n] := rfl

/-- A byte is its own field of one byte. -/
theorem toLE_one_toNat (b : Byte) : toLE 1 b.toNat = [b] := by
  rw [toLE_one, BitVec.ofNat_toNat, BitVec.setWidth_eq]

/-- Bytes 40 to 63: an empty report shows as code 0, ACCEPTED and SEQ 0. -/
theorem State.statusBytes_eq (s : State) (i : Fin 4) :
    let x := s.tap i
    let report : RefusalReport := x.report.getD ⟨0#8, .accepted, 0#32⟩
    s.statusBytes i =
      toLE 4 x.latch.toNat ++ toLE 2 x.dropped ++ toLE 2 x.repeats ++ toLE 2 x.shed ++ toLE 2 x.stepErrors ++
        toLE 2 s.quarantine.records.length ++ toLE 1 s.quarantine.lock.value ++ toLE 1 s.edits.length ++ [report.code] ++
        toLE 1 report.result.value ++ toLE 1 x.executed ++ toLE 1 s.pool.patternFailures ++ toLE 4 report.seq.toNat := by
  intro x report
  cases hreport : (s.tap i).report with
  | none => simp [State.statusBytes, x, report, hreport, toLE_one, CmdResult.value]
  | some r => simp [State.statusBytes, x, report, hreport, toLE_one_toNat]

/-- The fields of R120 that an OFF header leaves empty are zeros: bytes 8 to 18 and 20 to 35. -/
theorem State.offHeader_eq (s : State) (i : Fin 4) :
    s.offHeader i =
      [0x51#8, 0x4F#8, 0x55#8, 0x54#8] ++ toLE 4 (s.tap i).op.toNat ++ zeros 11 ++ [BitVec.ofNat 8 i.val] ++ zeros 16 ++
        toLE 4 (s.tap i).dt ++ s.statusBytes i := by
  have hlow : zeros 8 ++ zeros 1 ++ zeros 1 ++ toLE 1 TapState.off.value = zeros 11 := by decide
  have hhigh : zeros 12 ++ toLE 4 0 = zeros 16 := by decide
  rw [← hlow, ← hhigh, State.offHeader, outMark, toLE_one i.val]
  simp only [List.append_assoc]

/-- Settles O41: an OFF read's plan is its header alone, so it needs no READ and is answered in the step of its arrival. -/
theorem offReadsShowTheTap : Obligations.OffReadsShowTheTap := by
  intro s tag g f i j o hwaits hoff x report header bytes
  have hheader : s.offHeader i = header := by
    rw [State.offHeader_eq, State.statusBytes_eq]
    simp only [header, x, report, List.append_assoc]
  rw [exec_tapReadArrival_of_waits hwaits, State.tapRead_of_off g f.req j o hoff, State.tag_of_tapReadWaits hwaits,
    State.servePlan_of_no_reads _ _ _ _ (headerPlan_reads ..), headerPlan_targets, headerPlan_compose, hheader]

end Sys2Proof.Machine

/-! SUPPORT. The guard step: one control entry moves it as Table 56 gives, past the guard or refused by it, and making room for a header
write leaves it (R27, R161). -/

namespace Sys2Proof.Machine

/-! ### Table 56 -/

/-- The value that raises step `n` is 0x5A01 + `n`, for `n` below 4. -/
theorem guardAfter_eq (n : Nat) (e : ControlEntry) :
    guardAfter n e =
      if e.code = 0x18#8 ∧
        ((n = 0 ∧ e.argA = 0x5A01#16) ∨ (n = 1 ∧ e.argA = 0x5A02#16) ∨ (n = 2 ∧ e.argA = 0x5A03#16) ∨
          (n = 3 ∧ e.argA = 0x5A04#16)) then n + 1 else 0 := by
  have hraises : (n < 4 ∧ e.argA.toNat = 0x5A01 + n) ↔
      (n = 0 ∧ e.argA = 0x5A01#16) ∨ (n = 1 ∧ e.argA = 0x5A02#16) ∨ (n = 2 ∧ e.argA = 0x5A03#16) ∨
        (n = 3 ∧ e.argA = 0x5A04#16) := by
    simp only [BitVec.toNat_eq, BitVec.toNat_ofNat]
    omega
  simp only [guardAfter, hraises]

theorem guardAfter_of_not_guard {n : Nat} {e : ControlEntry} (h : e.code ≠ 0x18#8) : guardAfter n e = 0 :=
  if_neg fun hraise => h hraise.1

theorem guarded_iff (code : Byte) : guarded code = true ↔ code = 0x12#8 ∨ code = 0x13#8 ∨ code = 0x19#8 := by
  simp [guarded, or_assoc]

/-! ### One control entry (R158 to R161) -/

theorem Tap.takeResult_accepted (code : Byte) (q : Word) (x : Tap) :
    Tap.takeResult code q .accepted x = { x with executed := min (x.executed + 1) 255 } := rfl

theorem Tap.takeResult_refusedGuard (code : Byte) (q : Word) (x : Tap) :
    Tap.takeResult code q .refusedGuard x =
      { x with executed := min (x.executed + 1) 255, report := x.report.or (some ⟨code, .refusedGuard, q⟩) } := rfl

/-- An empty entry is skipped. -/
theorem State.executeEntry_empty {e : ControlEntry} (q : Word) (s : State) (h : e.code = 0#8) : State.executeEntry q s e = s :=
  if_pos h

/-- The guard step moves after the command, from its value before the command. -/
theorem State.executeEntry_guardStep {e : ControlEntry} (q : Word) (s : State) (h : e.code ≠ 0#8) :
    (State.executeEntry q s e).guardStep = guardAfter s.guardStep e := by
  rw [State.executeEntry, if_neg h]

/-- An entry that the guard does not hold back runs its command. -/
theorem State.executeEntry_of_passes {e : ControlEntry} (q : Word) {s : State} (h : e.code ≠ 0#8)
    (hpass : guarded e.code = true → s.guardStep = 4) :
    State.executeEntry q s e =
      { (runCommand s e).1.report e.code q (runCommand s e).2 with guardStep := guardAfter s.guardStep e } := by
  have hopen : ¬ (guarded e.code = true ∧ s.guardStep ≠ 4) := fun ⟨hguarded, hstep⟩ => hstep (hpass hguarded)
  rw [State.executeEntry, if_neg h, if_neg hopen]

/-- A guarded command at a step other than 4 changes nothing but what its refusal reports. -/
theorem State.executeEntry_of_held {e : ControlEntry} (q : Word) {s : State} (hguarded : guarded e.code = true)
    (hstep : s.guardStep ≠ 4) :
    State.executeEntry q s e = { s.report e.code q .refusedGuard with guardStep := guardAfter s.guardStep e } := by
  have hcode : e.code ≠ 0#8 := by
    intro h
    rw [h] at hguarded
    exact absurd hguarded (by decide)
  rw [State.executeEntry, if_neg hcode, if_pos ⟨hguarded, hstep⟩]

theorem runCommand_guard {e : ControlEntry} (s : State) (h : e.code = 0x18#8) : runCommand s e = (s, .accepted) := by
  simp [runCommand, h]

/-- A GUARD entry has no effect but its count and the guard step. -/
theorem State.executeEntry_guard {e : ControlEntry} (q : Word) (s : State) (h : e.code = 0x18#8) :
    State.executeEntry q s e = { s.report e.code q .accepted with guardStep := guardAfter s.guardStep e } := by
  have hcode : e.code ≠ 0#8 := by simp [h]
  have hfree : guarded e.code = true → s.guardStep = 4 := by simp [guarded, h]
  rw [State.executeEntry_of_passes q hcode hfree, runCommand_guard s h]

/-! ### Making room (R27, R28) -/

@[simp] theorem State.carryRun_guardStep (s : State) (older : List Context) (run : List GapCause) :
    (s.carryRun older run).guardStep = s.guardStep := by
  unfold State.carryRun
  split <;> rfl

/-- The control entries of an abandoned context never execute. -/
@[simp] theorem State.displace_guardStep (s : State) (k : Nat) : (s.displace k).guardStep = s.guardStep := by
  unfold State.displace
  split
  · rfl
  · dsimp only
    split
    · rfl
    · rw [(Interior.settle _).guardStep, (Interior.freeSeg ..).guardStep, State.carryRun_guardStep, State.raiseAll_guardStep,
        State.setContexts_guardStep]

@[simp] theorem State.makeRoom_guardStep (s : State) (k : Nat) : (s.makeRoom k).guardStep = s.guardStep := by
  unfold State.makeRoom
  dsimp only
  split
  · rw [State.displace_guardStep, State.displace_guardStep]
  · rw [State.displace_guardStep]

/-- Settles O58: an entry is empty, a GUARD, held back by the guard or past it; each that executes moves the step by `guardAfter`. -/
theorem guardFollowsItsTable : Obligations.GuardFollowsItsTable := by
  intro s q e t
  refine ⟨State.executeEntry_empty q s, fun hcode => ?_, fun hguard => ?_, fun hcodes hstep => ?_, s.makeRoom_guardStep⟩
  · exact (State.executeEntry_guardStep q s hcode).trans (guardAfter_eq ..)
  · have ht : t = { s.report e.code q .accepted with guardStep := guardAfter s.guardStep e } := State.executeEntry_guard q s hguard
    rw [ht, State.report, funext (Tap.takeResult_accepted e.code q)]
  · have hreset : guardAfter s.guardStep e = 0 :=
      guardAfter_of_not_guard (by obtain h | h | h := hcodes <;> simp [h])
    have ht : t = { s.report e.code q .refusedGuard with guardStep := guardAfter s.guardStep e } :=
      State.executeEntry_of_held q ((guarded_iff _).mpr hcodes) hstep
    rw [ht, hreset, State.report, funext (Tap.takeResult_refusedGuard e.code q)]

end Sys2Proof.Machine

/-! SUPPORT. Facts about lists and conditionals that the model's files, which import core Lean alone, do not bring with them. -/

namespace Sys2Proof.Machine

/-! ### Conditionals -/

theorem ite_congr_cond {α : Sort _} {p q : Prop} [Decidable p] [Decidable q] {x y x' y' : α} (h : p ↔ q) (hx : x = x') (hy : y = y') :
    (if p then x else y) = if q then x' else y' := ite_congr (propext h) (fun _ => hx) fun _ => hy

theorem ite_of_and {α : Sort _} {p q : Prop} [Decidable p] [Decidable q] (x y : α) :
    (if p ∧ q then x else y) = if p then if q then x else y else y := by
  by_cases hp : p
  · rw [if_pos hp]
    exact ite_congr_cond (and_iff_right hp) rfl rfl
  · rw [if_neg hp, if_neg fun h => hp h.1]

/-! ### Lists without duplicates -/

theorem nodup_one {α : Type} (a : α) : [a].Nodup := List.nodup_cons.mpr ⟨List.not_mem_nil, List.nodup_nil⟩

theorem nodup_iff_count {α : Type} [BEq α] [LawfulBEq α] {l : List α} : l.Nodup ↔ ∀ a, l.count a ≤ 1 := by
  induction l with
  | nil => simp
  | cons x l ih =>
    rw [List.nodup_cons, ih]
    constructor
    · rintro ⟨hx, hl⟩ a
      rw [List.count_cons]
      split
      · next h =>
        have hzero : l.count a = 0 := List.count_eq_zero.mpr (eq_of_beq h ▸ hx)
        exact Nat.le_of_eq (congrArg (· + 1) hzero)
      · exact hl a
    · intro h
      refine ⟨fun hx => ?_, fun a => Nat.le_trans (List.count_le_count_cons) (h a)⟩
      have hcount := h x
      rw [List.count_cons_self] at hcount
      have := List.count_pos_iff.mpr hx
      omega

theorem injOn_of_nodup_map {α β : Type} {f : α → β} {l : List α} (h : (l.map f).Nodup) {a b : α} (ha : a ∈ l) (hb : b ∈ l) (hab : f a = f b) :
    a = b := by
  induction l with
  | nil => cases ha
  | cons x l ih =>
    rw [List.map_cons, List.nodup_cons] at h
    obtain ⟨hx, hl⟩ := h
    have hfar (y : α) (hy : y ∈ l) : f x ≠ f y := fun heq => hx (heq ▸ List.mem_map_of_mem hy)
    cases ha with
    | head =>
      cases hb with
      | head => rfl
      | tail _ hb => exact absurd hab (hfar b hb)
    | tail _ ha =>
      cases hb with
      | head => exact absurd hab.symm (hfar a ha)
      | tail _ hb => exact ih hl ha hb

theorem length_le_of_nodup_subset {α : Type} [BEq α] [LawfulBEq α] {l m : List α} (hl : l.Nodup) (h : ∀ a ∈ l, a ∈ m) : l.length ≤ m.length := by
  induction l generalizing m with
  | nil => exact Nat.zero_le _
  | cons a l ih =>
    obtain ⟨ha, hl⟩ := List.nodup_cons.mp hl
    obtain ⟨ham, hlm⟩ := List.forall_mem_cons.mp h
    have hrest := ih (m := m.erase a) hl fun b hb => (List.mem_erase_of_ne (ne_of_mem_of_not_mem hb ha)).mpr (hlm b hb)
    rw [List.length_erase_of_mem ham] at hrest
    have := List.length_pos_of_mem ham
    rw [List.length_cons]
    omega

/-! ### Filters, folds and prefixes -/

theorem mem_of_mem_kept {α : Type} {p : α → Bool} {a : α} {l : List α} (h : a ∈ l.filter p) : a ∈ l := (List.mem_filter.mp h).1

/-- A fold that chooses between two at each step ends at one of the list. -/
theorem foldl_mem_of_choice {α : Type} {f : α → α → α} (h : ∀ a b, f a b = a ∨ f a b = b) (e : α) (l : List α) : l.foldl f e ∈ e :: l := by
  induction l generalizing e with
  | nil => exact List.mem_cons_self
  | cons x l ih =>
    rw [List.foldl_cons]
    obtain hlast | hlater := List.mem_cons.mp (ih (f e x))
    · rw [hlast]
      obtain hstep | hstep := h e x
      · rw [hstep]
        exact List.mem_cons_self
      · rw [hstep]
        exact List.mem_cons_of_mem _ List.mem_cons_self
    · exact List.mem_cons_of_mem _ (List.mem_cons_of_mem _ hlater)

theorem filterMap_eq_of_mem {α β : Type} {f g : α → Option β} {l : List α} (h : ∀ a ∈ l, f a = g a) : l.filterMap f = l.filterMap g := by
  induction l with
  | nil => rfl
  | cons a l ih =>
    obtain ⟨ha, hl⟩ := List.forall_mem_cons.mp h
    rw [List.filterMap_cons, List.filterMap_cons, ha, ih hl]

theorem foldl_eq_of_mem {α β : Type} {f g : β → α → β} {l : List α} (h : ∀ b, ∀ a ∈ l, f b a = g b a) (b : β) : l.foldl f b = l.foldl g b := by
  induction l generalizing b with
  | nil => rfl
  | cons a l ih =>
    rw [List.foldl_cons, List.foldl_cons, h b a List.mem_cons_self]
    exact ih (fun b a ha => h b a (List.mem_cons_of_mem _ ha)) _

section
variable {α : Type} {p : α → Bool} {l : List α}

theorem takeWhile_of_forall (h : ∀ a ∈ l, p a = true) : l.takeWhile p = l := by
  induction l with
  | nil => rfl
  | cons a l ih =>
    obtain ⟨ha, hl⟩ := List.forall_mem_cons.mp h
    rw [List.takeWhile_cons_of_pos ha, ih hl]

theorem dropWhile_of_forall (h : ∀ a ∈ l, p a = true) : l.dropWhile p = [] := by
  induction l with
  | nil => rfl
  | cons a l ih =>
    obtain ⟨ha, hl⟩ := List.forall_mem_cons.mp h
    rw [List.dropWhile_cons_of_pos ha, ih hl]

theorem of_mem_takeWhile {a : α} (h : a ∈ l.takeWhile p) : p a = true := by
  induction l with
  | nil => cases h
  | cons x l ih =>
    by_cases hx : p x = true
    · rw [List.takeWhile_cons_of_pos hx] at h
      obtain rfl | h := List.mem_cons.mp h
      · exact hx
      · exact ih h
    · rw [List.takeWhile_cons_of_neg hx] at h
      cases h

end

/-! ### Lists related place by place -/

/-- Two lists of one length whose members are related place by place. -/
inductive Pointwise {α : Type} (R : α → α → Prop) : List α → List α → Prop
  | nil : Pointwise R [] []
  | cons {a b : α} {l m : List α} : R a b → Pointwise R l m → Pointwise R (a :: l) (b :: m)

theorem Pointwise.map {α : Type} {R : α → α → Prop} {f : α → α} {l : List α} (h : ∀ a ∈ l, R a (f a)) : Pointwise R l (l.map f) := by
  induction l with
  | nil => exact .nil
  | cons a l ih =>
    obtain ⟨ha, hl⟩ := List.forall_mem_cons.mp h
    exact .cons ha (ih hl)

theorem Pointwise.refl {α : Type} {R : α → α → Prop} (l : List α) (h : ∀ a ∈ l, R a a) : Pointwise R l l := by
  have := Pointwise.map (f := id) h
  rwa [List.map_id] at this

theorem Pointwise.length_eq {α : Type} {R : α → α → Prop} {l m : List α} (h : Pointwise R l m) : l.length = m.length := by
  induction h with
  | nil => rfl
  | cons _ _ ih => rw [List.length_cons, List.length_cons, ih]

end Sys2Proof.Machine

/-! SUPPORT. The edit list as a list: what merging (R83), adding (R84) and widening (R98, R99) leave of the laws on the list. -/

namespace Sys2Proof.Machine

/-! ### Touching ranges (R83) -/

/-- Two taps masks share a tap exactly when their conjunction is not empty. -/
theorem taps_meet_iff (a b : BitVec 4) : (a &&& b != 0#4) = true ↔ ∃ i : Fin 4, hasTap a i = true ∧ hasTap b i = true := by
  rw [bne_iff_ne]
  constructor
  · intro h
    refine Classical.byContradiction fun hnone => ?_
    apply h
    apply BitVec.eq_of_getLsbD_eq
    intro i hi
    have hbits : ¬(a.getLsbD i = true ∧ b.getLsbD i = true) := fun hboth => hnone ⟨⟨i, hi⟩, hboth⟩
    rw [BitVec.getLsbD_and, BitVec.getLsbD_zero, Bool.and_eq_false_iff]
    cases ha : a.getLsbD i
    · exact .inl rfl
    · exact .inr (Bool.eq_false_iff.mpr fun hb => hbits ⟨ha, hb⟩)
  · rintro ⟨i, ha, hb⟩ hzero
    have hbit : (a &&& b).getLsbD i.val = true := by
      rw [BitVec.getLsbD_and]
      exact Bool.and_eq_true_iff.mpr ⟨ha, hb⟩
    rw [hzero, BitVec.getLsbD_zero] at hbit
    exact Bool.false_ne_true hbit

theorem endCheck_iff (x : Word) (stop : Option Word) :
    (match stop with | none => true | some z => serialLe x (z + 1#32)) = true ↔
      ∀ z, stop = some z → serialLe x (z + 1#32) = true := by
  cases stop with
  | none => simp
  | some z => simp

/-- The list's merge test is the manual's relation between entries (R83). -/
theorem Edit.mergeable_iff (a b : Edit) : a.mergeable b = true ↔ a.touches b := by
  unfold Edit.mergeable Edit.meets Edit.touches
  simp only [Bool.and_eq_true]
  rw [taps_meet_iff, beq_iff_eq]
  refine ⟨fun ⟨⟨hk, ht⟩, hb, ha⟩ => ⟨hk, ht, (endCheck_iff _ _).mp hb, (endCheck_iff _ _).mp ha⟩,
    fun ⟨hk, ht, hb, ha⟩ => ⟨⟨hk, ht⟩, (endCheck_iff _ _).mpr hb, (endCheck_iff _ _).mpr ha⟩⟩

theorem Edit.mergeable_eq_false_iff (a b : Edit) : a.mergeable b = false ↔ ¬ a.touches b := by
  rw [← Edit.mergeable_iff, Bool.not_eq_true]

theorem Edit.touches.symm {a b : Edit} (h : a.touches b) : b.touches a := by
  obtain ⟨hkind, ⟨i, ha, hb⟩, hstopb, hstopa⟩ := h
  exact ⟨hkind.symm, ⟨i, hb, ha⟩, hstopa, hstopb⟩

/-- An entry with the same kind, start, end and taps touches the same entries. -/
theorem Edit.touches.congr {a a' b : Edit} (hkind : a'.kind = a.kind) (hstart : a'.start = a.start) (hstop : a'.stop = a.stop)
    (htaps : a'.taps = a.taps) (h : a'.touches b) : a.touches b := by
  unfold Edit.touches at h ⊢
  rwa [hkind, hstart, hstop, htaps] at h

/-! ### The laws on a list of entries -/

/-- `State.editsNamed` of a list. -/
def EditsNamed (es : List Edit) : Prop := es.length ≤ 32 ∧ (es.map (·.id)).Nodup ∧ ∀ e ∈ es, e.id < 32 ∧ e.taps ≠ 0#4

theorem State.editsNamed_iff (s : State) : s.editsNamed ↔ EditsNamed s.edits := Iff.rfl

/-- The form of one entry: exactly a CLOSED one has an end, an OPEN one is a mask and a TRAILING one a drop (Table 32). -/
def Edit.formed (e : Edit) : Prop :=
  (e.state = .closed ↔ e.stop ≠ none) ∧ (e.state = .opened → e.kind = .mask) ∧ (e.state = .trailing → e.kind = .drop)

/-- The OPEN entries of a list. -/
def openCount (es : List Edit) : Nat := (es.filter fun e => e.state == .opened).length

/-- `State.editsApart` of a list. -/
def EditsApart (es : List Edit) : Prop := (es.Pairwise fun a b => ¬ a.touches b) ∧ openCount es ≤ 1 ∧ ∀ e ∈ es, e.formed

theorem State.editsApart_iff (s : State) : s.editsApart ↔ EditsApart s.edits := Iff.rfl

/-- Every extension count is within its maximum (R81). -/
def EditsCounted (es : List Edit) : Prop := ∀ e ∈ es, e.extension ≤ 255

theorem openCount_perm {as bs : List Edit} (h : as.Perm bs) : openCount as = openCount bs :=
  (h.filter _).length_eq

theorem openCount_sublist {as bs : List Edit} (h : as.Sublist bs) : openCount as ≤ openCount bs :=
  (h.filter _).length_le

theorem openCount_cons (e : Edit) (es : List Edit) : openCount (e :: es) = (if e.state = .opened then 1 else 0) + openCount es := by
  unfold openCount
  rw [List.filter_cons]
  by_cases h : e.state = .opened
  · simp [h]; omega
  · simp [h]

theorem openCount_append (as bs : List Edit) : openCount (as ++ bs) = openCount as + openCount bs := by
  unfold openCount
  rw [List.filter_append, List.length_append]

theorem openCount_eq_zero {es : List Edit} : openCount es = 0 ↔ ∀ e ∈ es, e.state ≠ .opened := by
  unfold openCount
  simp [List.filter_eq_nil_iff]

theorem EditsNamed.sublist {as bs : List Edit} (h : EditsNamed bs) (hsub : as.Sublist bs) : EditsNamed as := by
  obtain ⟨hlen, hnodup, hall⟩ := h
  exact ⟨Nat.le_trans hsub.length_le hlen, (hsub.map _).nodup hnodup, fun e he => hall e (hsub.subset he)⟩

theorem EditsApart.sublist {as bs : List Edit} (h : EditsApart bs) (hsub : as.Sublist bs) : EditsApart as := by
  obtain ⟨hpair, hopen, hformed⟩ := h
  exact ⟨hpair.sublist hsub, Nat.le_trans (openCount_sublist hsub) hopen, fun e he => hformed e (hsub.subset he)⟩

theorem EditsCounted.sublist {as bs : List Edit} (h : EditsCounted bs) (hsub : as.Sublist bs) : EditsCounted as :=
  fun e he => h e (hsub.subset he)

theorem EditsNamed.perm {as bs : List Edit} (h : EditsNamed bs) (hperm : as.Perm bs) : EditsNamed as := by
  obtain ⟨hlen, hnodup, hall⟩ := h
  exact ⟨hperm.length_eq ▸ hlen, (hperm.map _).nodup_iff.mpr hnodup, fun e he => hall e (hperm.mem_iff.mp he)⟩

theorem EditsApart.perm {as bs : List Edit} (h : EditsApart bs) (hperm : as.Perm bs) : EditsApart as := by
  obtain ⟨hpair, hopen, hformed⟩ := h
  refine ⟨?_, openCount_perm hperm ▸ hopen, fun e he => hformed e (hperm.mem_iff.mp he)⟩
  exact (hperm.pairwise_iff (R := fun a b : Edit => ¬ a.touches b) fun h k => h k.symm).mpr hpair

/-- Entries replaced one by one by entries of the same id and taps keep their names. -/
theorem EditsNamed.map {es : List Edit} {f : Edit → Edit} (h : EditsNamed es) (hid : ∀ e, (f e).id = e.id)
    (htaps : ∀ e, (f e).taps = e.taps) : EditsNamed (es.map f) := by
  obtain ⟨hlen, hnodup, hall⟩ := h
  have hids : (es.map f).map (·.id) = es.map (·.id) := by
    rw [List.map_map]
    exact List.map_congr_left fun e _ => hid e
  refine ⟨by rwa [List.length_map], by rwa [hids], fun e he => ?_⟩
  obtain ⟨x, hx, rfl⟩ := List.mem_map.mp he
  rw [hid, htaps]
  exact hall x hx

/-- One entry becomes another of the same kind, start and taps whose range is no longer: what the events of an entry's life do. -/
structure Edit.Shrinks (e e' : Edit) : Prop where
  kind : e'.kind = e.kind
  start : e'.start = e.start
  taps : e'.taps = e.taps
  stop : e'.stop = e.stop ∨ e.stop = none
  opened : e'.state = .opened → e.state = .opened
  formed : e.formed → e'.formed

theorem Edit.Shrinks.refl (e : Edit) : e.Shrinks e := ⟨rfl, rfl, rfl, .inl rfl, fun h => h, fun h => h⟩

theorem Edit.Shrinks.trans {a b c : Edit} (h : a.Shrinks b) (k : b.Shrinks c) : a.Shrinks c where
  kind := k.kind.trans h.kind
  start := k.start.trans h.start
  taps := k.taps.trans h.taps
  stop := by
    obtain hk | hk := k.stop
    · rw [hk]; exact h.stop
    · obtain hh | hh := h.stop
      · exact .inr (hh ▸ hk)
      · exact .inr hh
  opened := fun hc => h.opened (k.opened hc)
  formed := fun ha => k.formed (h.formed ha)

theorem Edit.Shrinks.touches {a a' b : Edit} (h : a.Shrinks a') (ht : a'.touches b) : a.touches b := by
  obtain ⟨hkind, htaps, hstopb, hstopa⟩ := ht
  refine ⟨h.kind ▸ hkind, h.taps ▸ htaps, h.start ▸ hstopb, fun z hz => ?_⟩
  obtain hstop | hstop := h.stop
  · exact hstopa z (hstop.trans hz)
  · rw [hstop] at hz; cases hz

theorem openCount_map_le {es : List Edit} {f : Edit → Edit} (h : ∀ e ∈ es, (f e).state = .opened → e.state = .opened) :
    openCount (es.map f) ≤ openCount es := by
  induction es with
  | nil => exact Nat.le_refl _
  | cons e es ih =>
    rw [List.map_cons, openCount_cons, openCount_cons]
    have hrest := ih fun x hx => h x (List.mem_cons_of_mem _ hx)
    have hhead := h e List.mem_cons_self
    split
    · next ho => rw [if_pos (hhead ho)]; omega
    · omega

theorem EditsApart.map {es : List Edit} {f : Edit → Edit} (h : EditsApart es) (hf : ∀ e, e.formed → Edit.Shrinks e (f e)) :
    EditsApart (es.map f) := by
  obtain ⟨hpair, hopen, hformed⟩ := h
  refine ⟨?_, Nat.le_trans (openCount_map_le fun e he => (hf e (hformed e he)).opened) hopen, fun e he => ?_⟩
  · rw [List.pairwise_map]
    exact hpair.imp_of_mem fun {a b} ha hb hab ht =>
      hab ((hf b (hformed b hb)).touches ((hf a (hformed a ha)).touches ht).symm).symm
  · obtain ⟨x, hx, rfl⟩ := List.mem_map.mp he
    exact (hf x (hformed x hx)).formed (hformed x hx)

/-! ### Merging (R83) -/

theorem Edit.join_taps_ne {a : Edit} (b : Edit) (h : a.taps ≠ 0#4) : (a.join b).taps ≠ 0#4 := by
  intro hzero
  have hor : a.taps ||| b.taps = 0#4 := hzero
  exact h (BitVec.or_eq_zero_iff.mp hor).1

theorem joinState_eq_trailing_iff (a b : EditState) : joinState a b = .trailing ↔ a = .trailing ∨ b = .trailing := by
  cases a <;> cases b <;> decide

theorem joinState_eq_opened {a b : EditState} (h : joinState a b = .opened) : a = .opened ∨ b = .opened := by
  revert h
  cases a <;> cases b <;> decide

theorem joinState_eq_closed_iff (a b : EditState) : joinState a b = .closed ↔ a = .closed ∧ b = .closed := by
  cases a <;> cases b <;> decide

theorem serialMaxOpt_ne_none {a b : Option Word} (h : a ≠ none) : serialMaxOpt a b ≠ none := by
  cases a with
  | none => exact absurd rfl h
  | some x => cases b <;> exact Option.some_ne_none _

theorem Edit.join_formed {a b : Edit} (hkind : b.kind = a.kind) (ha : a.formed) (hb : b.formed) : (a.join b).formed := by
  obtain ⟨hstopa, hopena, htraila⟩ := ha
  obtain ⟨_, hopenb, htrailb⟩ := hb
  refine ⟨?_, fun h => ?_, fun h => ?_⟩
  · show joinState a.state b.state = .closed ↔ (if joinState a.state b.state = .closed then serialMaxOpt a.stop b.stop else none) ≠ none
    split
    · next hclosed =>
      have hends := serialMaxOpt_ne_none (b := b.stop) (hstopa.mp ((joinState_eq_closed_iff _ _).mp hclosed).1)
      exact ⟨fun _ => hends, fun _ => hclosed⟩
    · next hclosed => exact ⟨fun h => absurd h hclosed, fun h => absurd rfl h⟩
  · obtain h | h := joinState_eq_opened h
    · exact hopena h
    · exact hkind ▸ hopenb h
  · obtain h | h := (joinState_eq_trailing_iff _ _).mp h
    · exact htraila h
    · exact hkind ▸ htrailb h

theorem Edit.join_extension_le {a b : Edit} (ha : a.extension ≤ 255) (hb : b.extension ≤ 255) : (a.join b).extension ≤ 255 := by
  show max a.trailingCount b.trailingCount ≤ 255
  have hcount : ∀ e : Edit, e.extension ≤ 255 → e.trailingCount ≤ 255 := by
    intro e he
    unfold Edit.trailingCount
    split
    · exact he
    · exact Nat.zero_le _
  exact Nat.max_le.mpr ⟨hcount a ha, hcount b hb⟩

theorem foldl_join_kind (l : List Edit) (m : Edit) : (l.foldl Edit.join m).kind = m.kind := by
  induction l generalizing m with
  | nil => rfl
  | cons e l ih => exact ih (m.join e)

theorem foldl_join_taps_ne (l : List Edit) {m : Edit} (h : m.taps ≠ 0#4) : (l.foldl Edit.join m).taps ≠ 0#4 := by
  induction l generalizing m with
  | nil => exact h
  | cons e l ih => exact ih (Edit.join_taps_ne e h)

theorem foldl_join_formed {l : List Edit} {m : Edit} (hm : m.formed) (hl : ∀ e ∈ l, e.formed ∧ e.kind = m.kind) :
    (l.foldl Edit.join m).formed := by
  induction l generalizing m with
  | nil => exact hm
  | cons e l ih =>
    obtain ⟨he, hkind⟩ := hl e List.mem_cons_self
    exact ih (Edit.join_formed hkind hm he) fun x hx => hl x (List.mem_cons_of_mem _ hx)

theorem foldl_join_extension_le {l : List Edit} {m : Edit} (hm : m.extension ≤ 255) (hl : EditsCounted l) :
    (l.foldl Edit.join m).extension ≤ 255 := by
  induction l generalizing m with
  | nil => exact hm
  | cons e l ih =>
    exact ih (Edit.join_extension_le hm (hl e List.mem_cons_self)) fun x hx => hl x (List.mem_cons_of_mem _ hx)

/-- A merged entry is OPEN only when one of its parts is. -/
theorem openCount_foldl_join (l : List Edit) (m : Edit) : openCount [l.foldl Edit.join m] ≤ openCount (m :: l) := by
  induction l generalizing m with
  | nil => exact Nat.le_refl _
  | cons e l ih =>
    refine Nat.le_trans (ih (m.join e)) ?_
    rw [openCount_cons, openCount_cons, openCount_cons]
    split
    · next h =>
      obtain h | h := joinState_eq_opened h
      · rw [if_pos h]; omega
      · rw [if_pos h]; omega
    · omega

/-- What repeated merging gives: the entries absorbed, of the range's kind, joined in their order, and the entries left, none of which
touches the merged range once merging has come to its end. -/
structure Absorbed (n : Nat) (m : Edit) (taken rest : List Edit) (r : Edit × List Edit × List Edit) (hit : List Edit) : Prop where
  merged : r.1 = hit.foldl Edit.join m
  taken : r.2.1 = taken ++ hit
  left : r.2.2.Sublist rest
  perm : (hit ++ r.2.2).Perm rest
  kinds : ∀ e ∈ hit, e.kind = m.kind
  apart : rest.length < n → ∀ e ∈ r.2.2, ¬ r.1.touches e

theorem kind_of_mergeable {a b : Edit} (h : a.mergeable b = true) : b.kind = a.kind :=
  ((Edit.mergeable_iff a b).mp h).1.symm

theorem absorb_absorbed (n : Nat) (m : Edit) (taken rest : List Edit) : ∃ hit, Absorbed n m taken rest (absorb n m taken rest) hit := by
  induction n generalizing m taken rest with
  | zero =>
    exact ⟨[], rfl, (List.append_nil _).symm, .refl _, .refl _, (fun _ he => absurd he List.not_mem_nil), fun h => absurd h (Nat.not_lt_zero _)⟩
  | succ n ih =>
    unfold absorb
    dsimp only
    split
    · next hnone =>
      refine ⟨[], rfl, (List.append_nil _).symm, .refl _, .refl _, (fun _ he => absurd he List.not_mem_nil), fun _ e he ht => ?_⟩
      have hfilter := List.isEmpty_iff.mp hnone
      exact List.filter_eq_nil_iff.mp hfilter e he ((Edit.mergeable_iff m e).mpr ht)
    · next hsome =>
      obtain ⟨hit, hmerged, htaken, hleft, hperm, hkinds, hapart⟩ :=
        ih ((rest.filter m.mergeable).foldl Edit.join m) (taken ++ rest.filter m.mergeable) (rest.filter fun e => !m.mergeable e)
      have hsplit : (rest.filter m.mergeable ++ rest.filter fun e => !m.mergeable e).Perm rest := List.filter_append_perm ..
      refine ⟨rest.filter m.mergeable ++ hit, ?_, ?_, hleft.trans List.filter_sublist, ?_, fun e he => ?_, fun hlen => hapart ?_⟩
      · rw [hmerged, List.foldl_append]
      · rw [htaken, List.append_assoc]
      · rw [List.append_assoc]
        exact (hperm.append_left _).trans hsplit
      · obtain he | he := List.mem_append.mp he
        · exact kind_of_mergeable (List.mem_filter.mp he).2
        · exact (hkinds e he).trans (foldl_join_kind _ m)
      · have hpos : 0 < (rest.filter m.mergeable).length :=
          List.length_pos_iff.mpr fun hnil => hsome (List.isEmpty_iff.mpr hnil)
        have hsum := hsplit.length_eq
        rw [List.length_append] at hsum
        omega

/-! ### Adding and naming (R84) -/

theorem insertById_perm (e : Edit) (es : List Edit) : (insertById e es).Perm (e :: es) := by
  induction es with
  | nil => exact .refl _
  | cons x xs ih =>
    unfold insertById
    split
    · exact .refl _
    · exact (ih.cons x).trans (.swap e x xs)

theorem lowestFreeId_spec {es : List Edit} (h : es.length < 32) :
    lowestFreeId es < 32 ∧ ∀ e ∈ es, e.id ≠ lowestFreeId es := by
  unfold lowestFreeId
  cases hfind : (List.range Config.editCapacity).find? fun i => es.all fun e => e.id != i with
  | none =>
    rw [List.find?_eq_none] at hfind
    have hsub : List.range 32 ⊆ es.map (·.id) := by
      intro i hi
      have hused := hfind i hi
      rw [Bool.not_eq_true, List.all_eq_false] at hused
      obtain ⟨e, he, hid⟩ := hused
      exact List.mem_map.mpr ⟨e, he, by simpa using hid⟩
    have hle := length_le_of_nodup_subset List.nodup_range hsub
    rw [List.length_range, List.length_map] at hle
    omega
  | some i =>
    have hi := List.mem_range.mp (List.mem_of_find?_eq_some hfind)
    have hfree := List.find?_some hfind
    rw [List.all_eq_true] at hfree
    exact ⟨hi, fun e he => by simpa using hfree e he⟩

/-- The merged entry takes its id from an absorbed entry or a free one, and its origin with it; nothing else of it changes. -/
theorem nameMerged_eq (new merged : Edit) (taken rest : List Edit) :
    ∃ id origin, nameMerged new merged taken rest = { merged with id := id, origin := origin } ∧
      ((∃ e ∈ taken, id = e.id) ∨ id = lowestFreeId rest) := by
  unfold nameMerged
  split
  · exact ⟨_, _, rfl, .inr rfl⟩
  · next e es =>
    have hlead : es.foldl Edit.leading e ∈ e :: es := foldl_mem_of_choice (fun a b => by
      unfold Edit.leading
      split
      · exact .inr rfl
      · exact .inl rfl) e es
    dsimp only
    split
    · exact ⟨_, _, rfl, .inl ⟨_, hlead, rfl⟩⟩
    · exact ⟨_, _, rfl, .inr rfl⟩

/-- The list that merging and naming give, up to its order. -/
theorem named_after_merge {rest taken : List Edit} {new merged : Edit} (hrest : EditsNamed rest) (hlen : rest.length < 32)
    (htaps : merged.taps ≠ 0#4) (htaken : ∀ e ∈ taken, e.id < 32 ∧ ∀ x ∈ rest, x.id ≠ e.id) :
    EditsNamed (insertById (nameMerged new merged taken rest) rest) := by
  refine EditsNamed.perm ?_ (insertById_perm _ _)
  obtain ⟨id, origin, hname, hid⟩ := nameMerged_eq new merged taken rest
  obtain ⟨_, hnodup, hall⟩ := hrest
  have hfree : id < 32 ∧ ∀ e ∈ rest, e.id ≠ id := by
    obtain ⟨e, he, rfl⟩ | rfl := hid
    · exact htaken e he
    · exact lowestFreeId_spec hlen
  rw [hname]
  refine ⟨by rw [List.length_cons]; omega, ?_, ?_⟩
  · rw [List.map_cons, List.nodup_cons]
    refine ⟨fun hmem => ?_, hnodup⟩
    obtain ⟨e, he, heq⟩ := List.mem_map.mp hmem
    exact hfree.2 e he heq
  · intro e he
    obtain rfl | he := List.mem_cons.mp he
    · exact ⟨hfree.1, htaps⟩
    · exact hall e he

theorem apart_after_merge {rest taken : List Edit} {new merged : Edit} (hrest : EditsApart rest)
    (hopen : openCount [merged] + openCount rest ≤ 1) (hformed : merged.formed) (hapart : ∀ e ∈ rest, ¬ merged.touches e) :
    EditsApart (insertById (nameMerged new merged taken rest) rest) := by
  refine EditsApart.perm ?_ (insertById_perm _ _)
  obtain ⟨id, origin, hname, -⟩ := nameMerged_eq new merged taken rest
  obtain ⟨hpair, _, hall⟩ := hrest
  rw [hname]
  refine ⟨List.pairwise_cons.mpr ⟨fun e he ht => hapart e he (ht.congr rfl rfl rfl rfl), hpair⟩, ?_, ?_⟩
  · rw [openCount_cons]
    rw [openCount_cons] at hopen
    exact hopen
  · intro e he
    obtain rfl | he := List.mem_cons.mp he
    · exact hformed
    · exact hall e he

theorem counted_after_merge {rest taken : List Edit} {new merged : Edit} (hrest : EditsCounted rest) (hext : merged.extension ≤ 255) :
    EditsCounted (insertById (nameMerged new merged taken rest) rest) := by
  obtain ⟨id, origin, hname, -⟩ := nameMerged_eq new merged taken rest
  intro e he
  rw [hname, (insertById_perm _ _).mem_iff] at he
  obtain rfl | he := List.mem_cons.mp he
  · exact hext
  · exact hrest e he

/-- A range that was taken into a list: what was absorbed and what stands after. -/
theorem offerRange_eq_some {es es' : List Edit} {new : Edit} (h : offerRange es new = some es') :
    ∃ (r : Edit × List Edit × List Edit) (hit : List Edit), Absorbed (es.length + 1) new [] es r hit ∧
      (hit = [] → es.length < 32) ∧ es' = insertById (nameMerged new r.1 hit r.2.2) r.2.2 := by
  obtain ⟨hit, habs⟩ := absorb_absorbed (es.length + 1) new [] es
  refine ⟨_, hit, habs, ?_⟩
  have htaken := habs.taken
  rw [List.nil_append] at htaken
  unfold offerRange at h
  dsimp only at h
  split at h
  · cases h
  · next hfull =>
    rw [htaken] at hfull h
    refine ⟨fun hnil => ?_, (Option.some.inj h).symm⟩
    refine Classical.byContradiction fun hlen => ?_
    exact hfull ⟨List.isEmpty_iff.mpr hnil, Nat.le_of_not_lt hlen⟩

theorem Absorbed.hit_sub {n : Nat} {m : Edit} {taken rest hit : List Edit} {r : Edit × List Edit × List Edit}
    (h : Absorbed n m taken rest r hit) {e : Edit} (he : e ∈ hit) : e ∈ rest :=
  h.perm.mem_iff.mp (List.mem_append_left _ he)

/-- Absorbed entries and entries left have different ids. -/
theorem Absorbed.ids {n : Nat} {m : Edit} {taken rest hit : List Edit} {r : Edit × List Edit × List Edit}
    (h : Absorbed n m taken rest r hit) (hrest : EditsNamed rest) {e : Edit} (he : e ∈ hit) :
    e.id < 32 ∧ ∀ x ∈ r.2.2, x.id ≠ e.id := by
  refine ⟨(hrest.2.2 e (h.hit_sub he)).1, fun x hx heq => ?_⟩
  obtain ⟨-, hnodup, -⟩ := hrest.perm h.perm
  rw [List.map_append, List.nodup_append] at hnodup
  exact hnodup.2.2 _ (List.mem_map_of_mem he) _ (List.mem_map_of_mem hx) heq.symm

theorem offerRange_named {es es' : List Edit} {new : Edit} (h : EditsNamed es) (htaps : new.taps ≠ 0#4)
    (hoffer : offerRange es new = some es') : EditsNamed es' := by
  obtain ⟨r, hit, habs, hroom, rfl⟩ := offerRange_eq_some hoffer
  have hlen : hit.length + r.2.2.length = es.length := by rw [← List.length_append]; exact habs.perm.length_eq
  refine named_after_merge (h.sublist habs.left) ?_ (habs.merged ▸ foldl_join_taps_ne hit htaps) fun e he => habs.ids h he
  have hcap := h.1
  cases hit with
  | nil =>
    have := hroom rfl
    rw [List.length_nil] at hlen
    omega
  | cons x xs =>
    rw [List.length_cons] at hlen
    omega

theorem Absorbed.openCount_le {n : Nat} {m : Edit} {taken rest hit : List Edit} {r : Edit × List Edit × List Edit}
    (h : Absorbed n m taken rest r hit) : openCount [r.1] + openCount r.2.2 ≤ openCount (m :: rest) := by
  have hmerged := openCount_foldl_join hit m
  have hperm := openCount_perm h.perm
  rw [openCount_append] at hperm
  rw [openCount_cons m hit] at hmerged
  rw [openCount_cons m rest, h.merged]
  omega

theorem offerRange_apart {es es' : List Edit} {new : Edit} (h : EditsApart es) (hformed : new.formed)
    (hopen : openCount (new :: es) ≤ 1) (hoffer : offerRange es new = some es') : EditsApart es' := by
  obtain ⟨r, hit, habs, -, rfl⟩ := offerRange_eq_some hoffer
  refine apart_after_merge (h.sublist habs.left) (Nat.le_trans habs.openCount_le hopen) ?_ (habs.apart (Nat.lt_succ_self _))
  rw [habs.merged]
  exact foldl_join_formed hformed fun e he => ⟨h.2.2 e (habs.hit_sub he), habs.kinds e he⟩

theorem offerRange_counted {es es' : List Edit} {new : Edit} (h : EditsCounted es) (hext : new.extension ≤ 255)
    (hoffer : offerRange es new = some es') : EditsCounted es' := by
  obtain ⟨r, hit, habs, -, rfl⟩ := offerRange_eq_some hoffer
  refine counted_after_merge (h.sublist habs.left) ?_
  rw [habs.merged]
  exact foldl_join_extension_le hext fun e he => h e (habs.hit_sub he)

/-! ### Widening (R98, R99) -/

theorem newestOf_mem {kind : EditKind} {es : List Edit} {w : Edit} (h : newestOf kind es = some w) : w ∈ es ∧ w.kind = kind := by
  unfold newestOf at h
  split at h
  · cases h
  · next e rest hfilter =>
    cases h
    have hmem : rest.foldl Edit.newer e ∈ e :: rest := foldl_mem_of_choice (fun a b => by
      unfold Edit.newer
      split
      · exact .inr rfl
      · exact .inl rfl) e rest
    rw [← hfilter] at hmem
    obtain ⟨hin, hkind⟩ := List.mem_filter.mp hmem
    exact ⟨hin, beq_iff_eq.mp hkind⟩

/-- The entries beside a widened one are a sublist that the widened one left. -/
theorem others_sublist (es : List Edit) (w : Edit) : (es.filter fun e => e.id != w.id).Sublist es := List.filter_sublist

theorem others_length {es : List Edit} {w : Edit} (hw : w ∈ es) : (es.filter fun e => e.id != w.id).length < es.length := by
  refine List.length_filter_lt_length_iff_exists.mpr ⟨w, hw, by simp⟩

/-- What a widening absorbs and leaves. -/
theorem widen_eq (es : List Edit) (w w' new : Edit) :
    ∃ (r : Edit × List Edit × List Edit) (hit : List Edit),
      Absorbed (es.length + 1) (w'.join new) [w'] (es.filter fun e => e.id != w.id) r hit ∧
        widen es w w' new = insertById (nameMerged new r.1 (w' :: hit) r.2.2) r.2.2 := by
  obtain ⟨hit, habs⟩ := absorb_absorbed (es.length + 1) (w'.join new) [w'] (es.filter fun e => e.id != w.id)
  refine ⟨_, hit, habs, ?_⟩
  unfold widen
  dsimp only
  rw [habs.taken]
  rfl

theorem widen_named {es : List Edit} {w w' new : Edit} (h : EditsNamed es) (hw : w ∈ es) (hid : w'.id = w.id)
    (htaps : w'.taps = w.taps) : EditsNamed (widen es w w' new) := by
  obtain ⟨r, hit, habs, heq⟩ := widen_eq es w w' new
  rw [heq]
  have hothers := h.sublist (others_sublist es w)
  obtain ⟨hwid, hwtaps⟩ := h.2.2 w hw
  refine named_after_merge (hothers.sublist habs.left) ?_ ?_ fun e he => ?_
  · have := habs.left.length_le
    have := others_length hw
    have := h.1
    omega
  · rw [habs.merged]
    exact foldl_join_taps_ne hit (Edit.join_taps_ne _ (htaps ▸ hwtaps))
  · obtain rfl | he := List.mem_cons.mp he
    · refine ⟨hid ▸ hwid, fun x hx => ?_⟩
      have hx := (List.mem_filter.mp (habs.left.subset hx)).2
      rw [hid]
      simpa using hx
    · exact habs.ids hothers he

theorem widen_apart {es : List Edit} {w w' new : Edit} (h : EditsApart es) (hformed : (w'.join new).formed)
    (hopen : openCount [w'.join new] + openCount (es.filter fun e => e.id != w.id) ≤ 1) : EditsApart (widen es w w' new) := by
  obtain ⟨r, hit, habs, heq⟩ := widen_eq es w w' new
  rw [heq]
  have hothers := h.sublist (others_sublist es w)
  refine apart_after_merge (hothers.sublist habs.left) ?_ ?_ (habs.apart ?_)
  · refine Nat.le_trans habs.openCount_le ?_
    rw [openCount_cons] at hopen ⊢
    exact hopen
  · rw [habs.merged]
    exact foldl_join_formed hformed fun e he => ⟨hothers.2.2 e (habs.hit_sub he), habs.kinds e he⟩
  · exact Nat.lt_succ_of_le (List.length_filter_le _ _)

theorem widen_counted {es : List Edit} {w w' new : Edit} (h : EditsCounted es) (hw : w'.extension ≤ 255) (hnew : new.extension ≤ 255) :
    EditsCounted (widen es w w' new) := by
  obtain ⟨r, hit, habs, heq⟩ := widen_eq es w w' new
  rw [heq]
  have hothers := h.sublist (others_sublist es w)
  refine counted_after_merge (hothers.sublist habs.left) ?_
  rw [habs.merged]
  exact foldl_join_extension_le (Edit.join_extension_le hw hnew) fun e he => hothers e (habs.hit_sub he)

end Sys2Proof.Machine

/-! SUPPORT. A state that refutes O8: the laws on the timeline say nothing of the runs that the capture unit still carries. -/

namespace Sys2Proof.Machine

/-- A CONTROL_ONLY context that waits for its last answer. -/
def evictedRunContext : Context :=
  { slot := 0
    state := .completeWaiting
    body := some
      { phys := 0
        header := { seq := 0#32, kind := .controlOnly, cutOk := false, la := 0, lv := 0, check := 0#32, controls := [] }
        fill := 64, running := crcInit, coherence := .clean, writesOut := 1, faultSeen := false, leadRun := [], trailingRun := [] } }

/-- An empty timeline, a pending run that names the cause EVICTED, and the answer that lets the context commit at the front of the queue. -/
def evictedRunState : State :=
  { State.reset with
    startUp := { State.reset.startUp with phase := .running }
    capture := { contexts := [evictedRunContext], expected := none, pendingRun := [.evicted] }
    link := { State.reset.link with
      outstanding := [{ tag := 0, op := .write, addr := 0#40, length := 64, data := [], use := .captureWrite 0, draining := false }] }
    pending := [.captureWriteResponse { tag := 0, status := .ok, data := [] }] }

/-- The commit appends the run as it stands: a gap entry of cause EVICTED without a SEQ. -/
theorem evictedRunState_appends :
    ∃ t, step evictedRunState = .next t ∧ t.timeline.entries = [{ gapEntry .evicted with pi := 0#32 }] := ⟨_, rfl, by decide⟩

/-- Refutes O8: a pending run may name the cause EVICTED, which no law of the statement's premises rules out, and its commit appends an
EVICTED gap entry that carries no SEQ. -/
theorem not_timelineStaysOrdered : ¬ Obligations.TimelineStaysOrdered := by
  intro h
  obtain ⟨t, hstep, hentries⟩ := evictedRunState_appends
  have hordered : evictedRunState.timelineOrdered := ⟨Nat.zero_le _, fun i e hi => by cases hi⟩
  have hfit : evictedRunState.entriesFit := fun e he => by cases he
  obtain ⟨-, -, hkeeps⟩ := h evictedRunState t hordered hstep
  have hentry := hkeeps hfit { gapEntry .evicted with pi := 0#32 } (by rw [hentries]; exact List.mem_singleton_self _)
  exact hentry.2.2.mpr (.inr rfl) rfl

end Sys2Proof.Machine

/-! SUPPORT. The changes a step is made of: every operation of the part is a chain of a few kinds of change to the segment records, the
taps with their settings, the quarantine, the timeline and the edit list, each with what it respects. A law that each kind of change
keeps is kept by every operation. -/

namespace Sys2Proof.Machine

/-! ### Taps and their settings -/

/-- One tap and its settings are replaced. -/
def State.setControl (s : State) (i : Fin 4) (w : TapSettings) (x : Tap) : State := (s.setSettings i w).setTap i x

theorem PerTap.set_get {α : Type} (v : PerTap α) (t : Fin 4) : v.set t (v.get t) = v := by
  match t with
  | 0 => rfl
  | 1 => rfl
  | 2 => rfl
  | 3 => rfl

theorem State.setSettings_self (s : State) (i : Fin 4) : s.setSettings i (s.settings i) = s := by
  show { s with store := { s.store with config := { s.store.config with taps := s.store.config.taps.set i (s.store.config.taps.get i) } } } = s
  rw [PerTap.set_get]

theorem State.setControl_settings (s : State) (i : Fin 4) (x : Tap) : s.setControl i (s.settings i) x = s.setTap i x := by
  unfold State.setControl
  rw [State.setSettings_self]

theorem State.setTap_self (s : State) (i : Fin 4) : s.setTap i (s.tap i) = s := by
  show { s with taps := s.taps.set i (s.taps.get i) } = s
  rw [PerTap.set_get]

theorem State.setControl_tap (s : State) (i : Fin 4) (w : TapSettings) : s.setControl i w (s.tap i) = s.setSettings i w :=
  State.setTap_self (s.setSettings i w) i

@[simp] theorem State.setControl_tap_get (s : State) (i j : Fin 4) (w : TapSettings) (x : Tap) :
    (s.setControl i w x).tap j = if j = i then x else s.tap j := State.tap_setTap ..

@[simp] theorem State.setControl_settings_get (s : State) (i j : Fin 4) (w : TapSettings) (x : Tap) :
    (s.setControl i w x).settings j = if j = i then w else s.settings j := State.settings_setSettings ..

/-- A tap's accumulator and the pacer settings it runs on are in their ranges (R132). -/
def PacerFits (w : TapSettings) (x : Tap) : Prop := 2 ≤ w.p ∧ w.p ≤ 4095 ∧ w.k ≤ w.p / 2 ∧ x.acc ≤ w.p

theorem State.pacersInRange_iff (s : State) : s.pacersInRange ↔ ∀ t, PacerFits (s.settings t) (s.tap t) := Iff.rfl

/-- What the change of one tap and its settings to `x` and `w` respects: its counts, its pacer and Dmax. -/
structure ControlFits (s : State) (i : Fin 4) (w : TapSettings) (x : Tap) : Prop where
  counts : (s.tap i).countsInRange → x.countsInRange
  pacer : PacerFits (s.settings i) (s.tap i) → PacerFits w x
  delay : (s.tap i).dt ≤ s.dmax → (s.settings i).de ≤ s.dmax → x.dt ≤ s.dmax ∧ w.de ≤ s.dmax

/-- What a change made to every tap alike respects. -/
structure TapFits (f : Tap → Tap) : Prop where
  counts : ∀ x : Tap, x.countsInRange → (f x).countsInRange
  acc : ∀ x : Tap, (f x).acc ≤ x.acc
  dt : ∀ x : Tap, (f x).dt = x.dt

/-! ### Segment records -/

/-- What the change of one segment record respects, under a fault threshold: the fault count, and RETIRED is not entered. -/
structure SegmentFits (threshold : Nat) (g g' : Segment) : Prop where
  faults : threshold ≤ 7 → g.faults ≤ 7 → g'.faults ≤ 7
  retired : g'.state = .retired → g.state = .retired

theorem SegmentFits.refl (n : Nat) (g : Segment) : SegmentFits n g g := ⟨fun _ h => h, fun h => h⟩

theorem pointwise_modify {R : Segment → Segment → Prop} (hrefl : ∀ g, R g g) {f : Segment → Segment} (hf : ∀ g, R g (f g)) :
    ∀ (l : List Segment) (p : Nat), Pointwise R l (l.modify p f)
  | [], p => by rw [List.modify_nil]; exact .nil
  | g :: l, 0 => by rw [List.modify_zero_cons]; exact .cons (hf g) (.refl _ fun x _ => hrefl x)
  | g :: l, p + 1 => by rw [List.modify_succ_cons]; exact .cons (hrefl g) (pointwise_modify hrefl hf l p)

/-- The segments of a list that are not RETIRED. -/
def unretired (l : List Segment) : Nat := (l.filter fun g => g.state != .retired).length

theorem unretired_cons (g : Segment) (l : List Segment) :
    unretired (g :: l) = (if g.state = .retired then 0 else 1) + unretired l := by
  unfold unretired
  by_cases h : g.state = .retired
  · simp [h]
  · simp [h]; omega

theorem unretired_le_of_fits {n : Nat} {l l' : List Segment} (h : Pointwise (SegmentFits n) l l') : unretired l ≤ unretired l' := by
  induction h with
  | nil => exact Nat.le_refl _
  | @cons g g' l l' hg _ ih =>
    rw [unretired_cons, unretired_cons]
    split
    · omega
    · next hlive => rw [if_neg fun h => hlive (hg.retired h)]; omega

/-! ### Retirement (R50, R51) -/

/-- `t` is `s` but for delays, clamp flags and latches of its taps. -/
structure Clamped (s t : State) : Prop where
  rest : t = { s with taps := t.taps, store := { s.store with config := { s.store.config with taps := t.store.config.taps } } }
  tap : ∀ i, t.tap i = { s.tap i with dt := (t.tap i).dt, clampFlag := (t.tap i).clampFlag, latch := (t.tap i).latch }
  settings : ∀ i, t.settings i = { s.settings i with de := (t.settings i).de }

theorem Clamped.refl (s : State) : Clamped s s := ⟨rfl, fun _ => rfl, fun _ => rfl⟩

theorem Clamped.trans {s t u : State} (h : Clamped s t) (k : Clamped t u) : Clamped s u where
  rest := by
    have hrest := k.rest
    rw [h.rest] at hrest
    exact hrest
  tap := fun i => by
    have htap := k.tap i
    rw [h.tap i] at htap
    exact htap
  settings := fun i => by
    have hset := k.settings i
    rw [h.settings i] at hset
    exact hset

theorem Clamped.raiseAll (s : State) (e : Event) : Clamped s (s.raiseAll e) :=
  ⟨rfl, fun i => by rw [State.tap_raiseAll]; rfl, fun _ => rfl⟩

theorem Clamped.clampTap (ceil : Nat) (s : State) (i : Fin 4) : Clamped s (State.clampTap ceil s i) := by
  unfold State.clampTap
  dsimp only
  split
  · refine ⟨rfl, fun j => ?_, fun j => ?_⟩
    · rw [State.tap_setTap]
      split
      · next h => subst h; rfl
      · rfl
    · rw [State.settings_setTap, State.settings_setSettings]
      split
      · next h => subst h; rfl
      · rfl
  · exact .refl s

theorem Clamped.foldl {α : Type} {f : State → α → State} (h : ∀ s x, Clamped s (f s x)) :
    ∀ (l : List α) (s : State), Clamped s (l.foldl f s)
  | [], s => .refl s
  | x :: l, s => (h s x).trans (Clamped.foldl h l (f s x))

theorem Clamped.retire (s : State) (p : Nat) : Clamped (s.modifySeg p fun g => { g with state := .retired }) (s.retire p) := by
  unfold State.retire
  dsimp only
  split
  · exact ((Clamped.raiseAll ..).trans (.raiseAll ..)).trans (.foldl (fun s t => .clampTap _ s t) ..)
  · exact .raiseAll ..

theorem Clamped.dmax {s t : State} (h : Clamped s t) : t.dmax = s.dmax := by
  have hrest := h.rest
  unfold State.dmax State.nEff State.quarCap
  rw [hrest]

/-- The clamp of a tap brings its two delays down to the ceiling and leaves the other taps'. -/
theorem State.clampTap_delays (ceil : Nat) (s : State) (i j : Fin 4) :
    ((State.clampTap ceil s i).tap j).dt = (if j = i then min (s.tap j).dt ceil else (s.tap j).dt) ∧
      ((State.clampTap ceil s i).settings j).de = if j = i then min (s.settings j).de ceil else (s.settings j).de := by
  unfold State.clampTap
  dsimp only
  split
  · constructor
    · show ((s.setControl i _ _).tap j).dt = _
      rw [State.setControl_tap_get]
      split
      · next h => subst h; rfl
      · rfl
    · show ((s.setControl i _ _).settings j).de = _
      rw [State.setControl_settings_get]
      split
      · next h => subst h; rfl
      · rfl
  · next h =>
    rw [not_or, Nat.not_lt, Nat.not_lt] at h
    constructor
    · split
      · next hj => subst hj; exact (Nat.min_eq_left h.1).symm
      · rfl
    · split
      · next hj => subst hj; exact (Nat.min_eq_left h.2).symm
      · rfl

theorem foldl_clampTap_delays (ceil : Nat) (s : State) (j : Fin 4) :
    ((tapIds.foldl (State.clampTap ceil) s).tap j).dt = min (s.tap j).dt ceil ∧
      ((tapIds.foldl (State.clampTap ceil) s).settings j).de = min (s.settings j).de ceil := by
  show (((State.clampTap ceil (State.clampTap ceil (State.clampTap ceil (State.clampTap ceil s 0) 1) 2) 3).tap j).dt = _) ∧ _ = _
  have hdt : ∀ (s : State) (i : Fin 4), ((State.clampTap ceil s i).tap j).dt = if j = i then min (s.tap j).dt ceil else (s.tap j).dt :=
    fun s i => (State.clampTap_delays ceil s i j).1
  have hde : ∀ (s : State) (i : Fin 4),
      ((State.clampTap ceil s i).settings j).de = if j = i then min (s.settings j).de ceil else (s.settings j).de :=
    fun s i => (State.clampTap_delays ceil s i j).2
  constructor
  · rw [hdt, hdt, hdt, hdt]
    match j with
    | 0 => rfl
    | 1 => rfl
    | 2 => rfl
    | 3 => rfl
  · show ((State.clampTap ceil (State.clampTap ceil (State.clampTap ceil (State.clampTap ceil s 0) 1) 2) 3).settings j).de = _
    rw [hde, hde, hde, hde]
    match j with
    | 0 => rfl
    | 1 => rfl
    | 2 => rfl
    | 3 => rfl

/-- The delays of a retirement end within the ceiling that it leaves (R51). -/
theorem State.retire_delaysBounded {s : State} (p : Nat) (h : s.delaysBounded) : (s.retire p).delaysBounded := by
  intro j
  have hdmax : (s.retire p).dmax = ((s.modifySeg p fun g => { g with state := .retired }).raiseAll .retired).dmax :=
    (Clamped.retire s p).dmax.trans (Clamped.raiseAll _ _).dmax.symm
  obtain ⟨hdt, hde⟩ := h j
  rw [hdmax]
  unfold State.retire
  dsimp only
  split
  · have hfold := foldl_clampTap_delays ((s.modifySeg p fun g => { g with state := .retired }).raiseAll .retired).dmax
      (((s.modifySeg p fun g => { g with state := .retired }).raiseAll .retired).raiseAll .capacityReduced) j
    rw [hfold.1, hfold.2]
    exact ⟨Nat.min_le_right .., Nat.min_le_right ..⟩
  · next hlow =>
    rw [State.tap_raiseAll]
    exact ⟨Nat.le_trans hdt (Nat.le_of_not_lt hlow), Nat.le_trans hde (Nat.le_of_not_lt hlow)⟩

/-! ### Everything else -/

/-- `t` differs from `s` at most in blocks that the laws on taps, segments, quarantine and edits do not speak of, and in settings and
counts that stay in their ranges. -/
structure Aside (s t : State) : Prop where
  phase : s.startUp.phase = .running → t.startUp.phase = .running
  linkGeometry : t.link.geometry = s.link.geometry
  segs : t.pool.segs = s.pool.segs
  edits : t.edits = s.edits
  taps : t.taps = s.taps
  quarantine : t.quarantine = s.quarantine
  geometry : t.store.config.geometry = s.store.config.geometry
  settings : t.store.config.taps = s.store.config.taps
  threshold : s.store.config.faultThreshold ≤ 7 → t.store.config.faultThreshold ≤ 7
  guardStep : s.guardStep ≤ 4 → t.guardStep ≤ 4
  failures : s.pool.patternFailures ≤ 255 → t.pool.patternFailures ≤ 255

/-- What new edit entries in place of a list respect. -/
structure EditsFit (es es' : List Edit) : Prop where
  named : EditsNamed es → EditsNamed es'
  apart : EditsApart es → EditsApart es'
  counted : EditsCounted es → EditsCounted es'

/-- The kinds of change a step is made of. -/
inductive Change : State → State → Prop
  | control (s : State) (i : Fin 4) (w : TapSettings) (x : Tap) (h : ControlFits s i w x) : Change s (s.setControl i w x)
  | allTaps (s : State) (f : Tap → Tap) (h : TapFits f) : Change s { s with taps := s.taps.map f }
  | segments (s : State) (l : List Segment) (h : Pointwise (SegmentFits s.store.config.faultThreshold) s.pool.segs l) :
      Change s { s with pool := { s.pool with segs := l } }
  | retire (s : State) (p : Nat) : Change s (s.retire p)
  | records (s : State) (rs : List SegmentRecord) (hfits : s.quarantineFits → rs.length ≤ s.quarCap)
      (hfrozen : s.quarantine.lock = .frozen → s.quarantine.records <+: rs) :
      Change s { s with quarantine := { s.quarantine with records := rs } }
  | lock (s : State) (l : LockState) (h : s.quarantine.lock = .frozen → l = .frozen) :
      Change s { s with quarantine := { s.quarantine with lock := l } }
  | edits (s : State) (es : List Edit) (h : EditsFit s.edits es) : Change s { s with edits := es }
  | aside (s t : State) (h : Aside s t) : Change s t

/-- A chain of changes. -/
inductive Evolves (s : State) : State → Prop
  | refl : Evolves s s
  | tail {t u : State} (h : Evolves s t) (k : Change t u) : Evolves s u

/-- A law that every kind of change keeps is kept by a chain of changes. -/
theorem Evolves.keeps {P : State → Prop} (h : ∀ s t, Change s t → P s → P t) {s t : State} (hst : Evolves s t) (hs : P s) : P t := by
  induction hst with
  | refl => exact hs
  | tail _ hstep ih => exact h _ _ hstep ih

theorem Evolves.single {s t : State} (h : Change s t) : Evolves s t := .tail .refl h

theorem Evolves.trans {s t u : State} (h : Evolves s t) (k : Evolves t u) : Evolves s u := by
  induction k with
  | refl => exact h
  | tail _ hstep ih => exact ih.tail hstep

theorem Evolves.foldl {α : Type} {f : State → α → State} (h : ∀ s x, Evolves s (f s x)) :
    ∀ (l : List α) (s : State), Evolves s (l.foldl f s)
  | [], _ => .refl
  | x :: l, s => (h s x).trans (Evolves.foldl h l (f s x))

theorem Evolves.ite {s t u : State} {c : Prop} [Decidable c] (h : Evolves s t) (k : Evolves s u) : Evolves s (if c then t else u) := by
  split <;> assumption

/-! ### Chains of one change -/

theorem Evolves.setControl {s : State} {i : Fin 4} {w : TapSettings} {x : Tap} (h : ControlFits s i w x) : Evolves s (s.setControl i w x) :=
  .single (.control s i w x h)

/-- A change of a tap alone: its counts, its accumulator and Dt. -/
theorem Evolves.setTap {s : State} {i : Fin 4} {x : Tap} (hcounts : (s.tap i).countsInRange → x.countsInRange)
    (hacc : PacerFits (s.settings i) (s.tap i) → x.acc ≤ (s.settings i).p)
    (hdt : (s.tap i).dt ≤ s.dmax → (s.settings i).de ≤ s.dmax → x.dt ≤ s.dmax) : Evolves s (s.setTap i x) := by
  rw [← State.setControl_settings]
  exact .setControl ⟨hcounts, fun h => ⟨h.1, h.2.1, h.2.2.1, hacc h⟩, fun h k => ⟨hdt h k, k⟩⟩

/-- A change of a tap that keeps its accumulator and Dt. -/
theorem Evolves.setTap_calm {s : State} {i : Fin 4} {x : Tap} (hcounts : (s.tap i).countsInRange → x.countsInRange)
    (hacc : x.acc = (s.tap i).acc) (hdt : x.dt = (s.tap i).dt) : Evolves s (s.setTap i x) :=
  .setTap hcounts (fun h => hacc ▸ h.2.2.2) fun h _ => hdt ▸ h

/-- A change of settings that keeps De and the pacer's. -/
theorem Evolves.setSettings {s : State} {i : Fin 4} {w : TapSettings} (hp : w.p = (s.settings i).p) (hk : w.k = (s.settings i).k)
    (hde : w.de = (s.settings i).de) : Evolves s (s.setSettings i w) := by
  rw [← State.setControl_tap]
  refine .setControl ⟨fun h => h, fun h => ?_, fun h k => ⟨h, hde ▸ k⟩⟩
  unfold PacerFits at h ⊢
  rwa [hp, hk]

theorem TapFits.raise (e : Event) : TapFits (·.raise e) := ⟨fun _ h => h, fun _ => Nat.le_refl _, fun _ => rfl⟩

theorem bump_le (cap n : Nat) : bump cap n ≤ cap := Nat.min_le_right ..

theorem TapFits.takeResult (c : Byte) (q : Word) (r : CmdResult) : TapFits (Tap.takeResult c q r) := by
  refine ⟨fun x h => ?_, fun _ => Nat.le_refl _, fun _ => rfl⟩
  obtain ⟨hdropped, hrepeats, hshed, herrors, hsince, hrun, -⟩ := h
  exact ⟨hdropped, hrepeats, hshed, herrors, hsince, hrun, bump_le ..⟩

theorem Evolves.raiseAll (s : State) (e : Event) : Evolves s (s.raiseAll e) := .single (.allTaps s _ (.raise e))

theorem Evolves.raiseUnless (s : State) (q : Bool) (e : Event) : Evolves s (s.raiseUnless q e) := .ite .refl (.raiseAll s e)

theorem Evolves.report (s : State) (c : Byte) (q : Word) (r : CmdResult) : Evolves s (s.report c q r) :=
  .single (.allTaps s _ (.takeResult c q r))

theorem Evolves.raiseTap (s : State) (i : Fin 4) (e : Event) : Evolves s (s.raiseTap i e) :=
  .setTap_calm (fun h => h) rfl rfl

theorem Evolves.modifySeg (s : State) (p : Nat) {f : Segment → Segment}
    (hf : ∀ g, SegmentFits s.store.config.faultThreshold g (f g)) : Evolves s (s.modifySeg p f) :=
  .single (.segments s _ (pointwise_modify (SegmentFits.refl _) hf _ p))

theorem Evolves.retire (s : State) (p : Nat) : Evolves s (s.retire p) := .single (.retire s p)

theorem Evolves.aside {s t : State} (h : Aside s t) : Evolves s t := .single (.aside s t h)

theorem Evolves.withTimeline (s : State) (tl : Timeline) : Evolves s { s with timeline := tl } :=
  .aside ⟨id, rfl, rfl, rfl, rfl, rfl, rfl, rfl, id, id, id⟩

theorem Evolves.modifyEntry (s : State) (x : Word) (f : TimelineEntry → TimelineEntry) : Evolves s (s.modifyEntry x f) :=
  .withTimeline s _

theorem Evolves.withEdits {s : State} {es : List Edit} (h : EditsFit s.edits es) : Evolves s { s with edits := es } :=
  .single (.edits s es h)

theorem EditsFit.sublist {es es' : List Edit} (h : es'.Sublist es) : EditsFit es es' :=
  ⟨fun k => k.sublist h, fun k => k.sublist h, fun k => k.sublist h⟩

theorem Evolves.pruneSpent (s : State) : Evolves s s.pruneSpent := .withEdits (.sublist List.filter_sublist)

theorem Evolves.pin (s : State) (p : Nat) : Evolves s (s.pin p) := .modifySeg s p fun _ => ⟨fun _ h => h, fun h => h⟩
theorem Evolves.raiseOutstanding (s : State) (p : Nat) : Evolves s (s.raiseOutstanding p) :=
  .modifySeg s p fun _ => ⟨fun _ h => h, fun h => h⟩
theorem Evolves.lowerOutstanding (s : State) (p : Nat) : Evolves s (s.lowerOutstanding p) :=
  .modifySeg s p fun _ => ⟨fun _ h => h, fun h => h⟩
theorem Evolves.takeSegment (s : State) (p : Nat) : Evolves s (s.takeSegment p) :=
  .modifySeg s p fun _ => ⟨fun _ h => h, fun h => SegState.noConfusion h⟩

/-! ### Pool and quarantine -/

theorem Evolves.freeSeg (s : State) (p : Nat) : Evolves s (s.freeSeg p) := by
  have hdrop : Evolves s (s.modifySeg p fun g => { g with departure := none }) := .modifySeg s p fun _ => ⟨fun _ h => h, fun h => h⟩
  unfold State.freeSeg
  split
  · exact .refl
  · exact .ite (hdrop.trans (.retire ..)) (hdrop.trans (.modifySeg _ p fun _ => ⟨fun _ h => h, fun h => SegState.noConfusion h⟩))

theorem Evolves.countFault (s : State) (p : Nat) : Evolves s (s.countFault p) := by
  unfold State.countFault
  split
  · exact .refl
  · next g _ =>
    have hcount : Evolves s (s.modifySeg p fun x =>
        { x with
          faults := bump Config.faultMax g.faults
          counted := true
          retirePending := x.retirePending ||
            (decide (s.store.config.faultThreshold ≤ bump Config.faultMax g.faults) && x.state != .retired) }) :=
      .modifySeg s p fun _ => ⟨fun _ _ => bump_le .., fun h => h⟩
    exact .ite .refl (.ite (hcount.trans (.retire ..)) hcount)

theorem Evolves.takeRecord {s : State} (r : SegmentRecord) (h : s.quarantine.records.length < s.quarCap) : Evolves s (s.takeRecord r) := by
  refine .trans (.single (.records s (s.quarantine.records ++ [r]) (fun _ => ?_) fun _ => List.prefix_append ..))
    (.modifySeg _ r.phys fun _ => ⟨fun _ h => h, fun h => SegState.noConfusion h⟩)
  rw [List.length_append]
  exact h

/-- The records of a quarantine that is not FROZEN lose some at the front. -/
theorem Evolves.dropRecords {s : State} {rs : List SegmentRecord} (hlock : s.quarantine.lock ≠ .frozen)
    (hsuffix : rs <:+ s.quarantine.records) : Evolves s { s with quarantine := { s.quarantine with records := rs } } :=
  .single (.records s rs (fun h => Nat.le_trans hsuffix.length_le h) fun h => absurd h hlock)

/-- Freeing a segment leaves the quarantine. -/
theorem State.retire_quarantine (s : State) (p : Nat) : (s.retire p).quarantine = s.quarantine := by
  rw [(Clamped.retire s p).rest]; rfl

theorem State.freeSeg_quarantine (s : State) (p : Nat) : (s.freeSeg p).quarantine = s.quarantine := by
  unfold State.freeSeg
  split
  · rfl
  · split
    · rw [State.retire_quarantine]; rfl
    · rfl

/-- `s` with the quarantine replaced. -/
def State.withQuarantine (s : State) (q : Quarantine) : State := { s with quarantine := q }

/-! Retirement and freeing do not read the quarantine. -/

theorem State.clampTap_withQuarantine (s : State) (q : Quarantine) (ceil : Nat) (i : Fin 4) :
    State.clampTap ceil (s.withQuarantine q) i = (State.clampTap ceil s i).withQuarantine q := by
  by_cases h : ceil < (s.tap i).dt ∨ ceil < (s.settings i).de
  · have hleft : State.clampTap ceil (s.withQuarantine q) i = _ := if_pos h
    have hright : State.clampTap ceil s i = _ := if_pos h
    rw [hleft, hright]
    rfl
  · have hleft : State.clampTap ceil (s.withQuarantine q) i = _ := if_neg h
    have hright : State.clampTap ceil s i = _ := if_neg h
    rw [hleft, hright]

theorem State.foldl_clampTap_withQuarantine (q : Quarantine) (ceil : Nat) (l : List (Fin 4)) (s : State) :
    l.foldl (State.clampTap ceil) (s.withQuarantine q) = (l.foldl (State.clampTap ceil) s).withQuarantine q := by
  induction l generalizing s with
  | nil => rfl
  | cons i l ih => rw [List.foldl_cons, List.foldl_cons, State.clampTap_withQuarantine, ih]

/-- The segment is RETIRED and RETIRED latched: a retirement before its clamps. -/
def State.enterRetired (s : State) (p : Nat) : State := (s.modifySeg p fun g => { g with state := .retired }).raiseAll .retired

theorem State.retire_eq (s : State) (p : Nat) :
    s.retire p =
      if (s.enterRetired p).dmax < s.dmax then
        tapIds.foldl (State.clampTap (s.enterRetired p).dmax) ((s.enterRetired p).raiseAll .capacityReduced)
      else s.enterRetired p := rfl

theorem State.enterRetired_withQuarantine (s : State) (q : Quarantine) (p : Nat) :
    (s.withQuarantine q).enterRetired p = (s.enterRetired p).withQuarantine q := rfl

theorem State.dmax_withQuarantine (s : State) (q : Quarantine) : (s.withQuarantine q).dmax = s.dmax := rfl

theorem State.raiseAll_withQuarantine (s : State) (q : Quarantine) (e : Event) :
    (s.withQuarantine q).raiseAll e = (s.raiseAll e).withQuarantine q := rfl

theorem State.retire_withQuarantine (s : State) (q : Quarantine) (p : Nat) :
    (s.withQuarantine q).retire p = (s.retire p).withQuarantine q := by
  rw [State.retire_eq, State.retire_eq, State.enterRetired_withQuarantine, State.dmax_withQuarantine, State.dmax_withQuarantine,
    State.raiseAll_withQuarantine, State.foldl_clampTap_withQuarantine]
  split
  · rfl
  · rfl

theorem State.freeSeg_withQuarantine (s : State) (q : Quarantine) (p : Nat) :
    (s.withQuarantine q).freeSeg p = (s.freeSeg p).withQuarantine q := by
  unfold State.freeSeg
  have hseg : (s.withQuarantine q).seg? p = s.seg? p := rfl
  rw [hseg]
  cases s.seg? p with
  | none => rfl
  | some g =>
    dsimp only
    split
    · exact State.retire_withQuarantine (s.modifySeg p fun g => { g with departure := none }) q p
    · rfl

theorem State.raiseUnless_withQuarantine (s : State) (q : Quarantine) (quiet : Bool) (e : Event) :
    (s.withQuarantine q).raiseUnless quiet e = (s.raiseUnless quiet e).withQuarantine q := by
  cases quiet <;> rfl

/-- A newcomer that overwrites the oldest record of a full list: the records are exchanged in one change. -/
theorem Evolves.takeOver {s : State} {old : SegmentRecord} {rest : List SegmentRecord} (quiet : Bool) (r : SegmentRecord)
    (hlock : s.quarantine.lock = .unlocked) (hrecords : s.quarantine.records = old :: rest) :
    Evolves s (((({ s with quarantine := { s.quarantine with records := rest } } : State).raiseUnless quiet .quarOverwrite).freeSeg
      old.phys).takeRecord r) := by
  have hexchange : Evolves s { s with quarantine := { s.quarantine with records := rest ++ [r] } } := by
    refine .single (.records s _ (fun h => ?_) fun h => ?_)
    · have hlen : (old :: rest).length ≤ s.quarCap := hrecords ▸ h
      rw [List.length_append]
      exact hlen
    · rw [hlock] at h; cases h
  have heq : ((({ s with quarantine := { s.quarantine with records := rest } } : State).raiseUnless quiet .quarOverwrite).freeSeg
      old.phys).takeRecord r =
      ((({ s with quarantine := { s.quarantine with records := rest ++ [r] } } : State).raiseUnless quiet .quarOverwrite).freeSeg
        old.phys).modifySeg r.phys fun g => { g with state := .quarantined, departure := none } := by
    have hfreed (rs : List SegmentRecord) :
        (({ s with quarantine := { s.quarantine with records := rs } } : State).raiseUnless quiet .quarOverwrite).freeSeg old.phys =
          ((s.raiseUnless quiet .quarOverwrite).freeSeg old.phys).withQuarantine { s.quarantine with records := rs } :=
      (congrArg (·.freeSeg old.phys) (State.raiseUnless_withQuarantine s _ quiet .quarOverwrite)).trans
        (State.freeSeg_withQuarantine ..)
    exact (congrArg (·.takeRecord r) (hfreed rest)).trans
      (congrArg (·.modifySeg r.phys fun g => { g with state := .quarantined, departure := none }) (hfreed (rest ++ [r])).symm)
  rw [heq]
  exact ((hexchange.trans (.raiseUnless ..)).trans (.freeSeg ..)).trans
    (.modifySeg _ r.phys fun _ => ⟨fun _ h => h, fun h => SegState.noConfusion h⟩)

theorem Evolves.offer (quiet : Bool) (s : State) (r : SegmentRecord) : Evolves s (State.offer quiet s r) := by
  unfold State.offer
  refine .ite (.freeSeg ..) ?_
  split
  · next h => exact .takeRecord r h
  · split
    · next hlock hrecords => exact .takeOver quiet r hlock hrecords
    · exact (Evolves.raiseUnless ..).trans (.freeSeg ..)

theorem Evolves.handOver (s : State) (p : Nat) (r : Option SegmentRecord) : Evolves s (s.handOver p r) := by
  unfold State.handOver
  split
  · exact .freeSeg ..
  · exact .ite (.freeSeg ..) (.offer ..)

theorem Evolves.unpin (s : State) (p : Nat) : Evolves s (s.unpin p) := by
  have hlower : Evolves s (s.modifySeg p fun g => { g with pins := g.pins - 1 }) := .modifySeg s p fun _ => ⟨fun _ h => h, fun h => h⟩
  unfold State.unpin
  split
  · exact .refl
  · exact .ite (hlower.trans (.handOver ..)) hlower

theorem Evolves.pinOpt (s : State) (p : Option Nat) : Evolves s (s.pinOpt p) := by
  cases p
  · exact .refl
  · exact .pin ..

theorem Evolves.unpinOpt (s : State) (p : Option Nat) : Evolves s (s.unpinOpt p) := by
  cases p
  · exact .refl
  · exact .unpin ..

/-! ### Timeline -/

theorem Evolves.handOn (s : State) (e : TimelineEntry) : Evolves s (s.handOn e) := by
  unfold State.handOn
  split
  · exact .refl
  · split
    · exact .refl
    · exact .ite (.modifySeg _ _ fun _ => ⟨fun _ h => h, fun h => SegState.noConfusion h⟩) (.ite (.freeSeg ..) (.offer ..))

theorem Evolves.departHead (s : State) : Evolves s s.departHead := by
  unfold State.departHead
  split
  · exact .refl
  · exact (Evolves.withTimeline ..).trans (.handOn ..)

theorem Evolves.departDue : ∀ (n : Nat) (s : State), Evolves s (State.departDue n s)
  | 0, _ => .refl
  | n + 1, s => by
    unfold State.departDue
    split
    · exact .refl
    · exact .ite ((Evolves.departHead s).trans (Evolves.departDue n _)) .refl

theorem Evolves.settle (s : State) : Evolves s s.settle := by
  unfold State.settle; exact (Evolves.departDue ..).trans (.pruneSpent ..)

theorem Evolves.markWithheld (s : State) (t : Fin 4) (x : Word) : Evolves s (s.markWithheld t x) := by
  unfold State.markWithheld
  split
  · exact .refl
  · exact .modifyEntry ..

theorem Evolves.modifyTap_calm {s : State} {i : Fin 4} {f : Tap → Tap} (hcounts : ∀ x : Tap, x.countsInRange → (f x).countsInRange)
    (hacc : ∀ x, (f x).acc = x.acc) (hdt : ∀ x, (f x).dt = x.dt) : Evolves s (s.modifyTap i f) :=
  .setTap_calm (hcounts _) (hacc _) (hdt _)

theorem Tap.halfScale_eq (x : Tap) (n : Nat) : x.halfScale n = { x with latch := (x.halfScale n).latch } := by
  unfold Tap.halfScale
  split
  · rfl
  · rfl

theorem TapFits.countDropped : TapFits Tap.countDropped := by
  refine ⟨fun x h => ?_, fun x => Nat.le_of_eq ?_, fun x => ?_⟩ <;> rw [Tap.countDropped, Tap.halfScale_eq]
  obtain ⟨-, hrest⟩ := h
  exact ⟨bump_le .., hrest⟩

theorem TapFits.countRepeat : TapFits Tap.countRepeat := by
  refine ⟨fun x h => ?_, fun x => Nat.le_of_eq ?_, fun x => ?_⟩ <;> rw [Tap.countRepeat, Tap.halfScale_eq]
  obtain ⟨hdropped, -, hrest⟩ := h
  exact ⟨hdropped, bump_le .., hrest⟩

theorem TapFits.countShed : TapFits Tap.countShed := by
  refine ⟨fun x h => ?_, fun x => Nat.le_of_eq ?_, fun x => ?_⟩ <;> rw [Tap.countShed, Tap.halfScale_eq]
  obtain ⟨hdropped, hrepeats, -, hrest⟩ := h
  exact ⟨hdropped, hrepeats, bump_le .., hrest⟩

theorem TapFits.countStepError : TapFits Tap.countStepError := by
  refine ⟨fun x h => ?_, fun x => Nat.le_of_eq ?_, fun x => ?_⟩ <;> rw [Tap.countStepError, Tap.halfScale_eq]
  obtain ⟨hdropped, hrepeats, hshed, -, hrest⟩ := h
  exact ⟨hdropped, hrepeats, hshed, bump_le .., hrest⟩

theorem Evolves.modifyTap {s : State} {i : Fin 4} {f : Tap → Tap} (h : TapFits f) : Evolves s (s.modifyTap i f) :=
  .setTap (h.counts _) (fun k => Nat.le_trans (h.acc _) k.2.2.2) fun k _ => Nat.le_trans (Nat.le_of_eq (h.dt _)) k

theorem Evolves.passOver (t : Fin 4) (s : State) (e : TimelineEntry) : Evolves s (State.passOver t s e) := by
  unfold State.passOver
  exact .ite .refl ((Evolves.markWithheld ..).trans (.modifyTap .countDropped))

theorem State.tap_markWithheld (s : State) (t i : Fin 4) (x : Word) : (s.markWithheld t x).tap i = s.tap i := by
  unfold State.markWithheld; split <;> rfl

theorem Evolves.dragTap (h : Word) (s : State) (t : Fin 4) : Evolves s (State.dragTap h s t) := by
  unfold State.dragTap
  refine .ite ((Evolves.markWithheld ..).trans (.setTap_calm ?_ ?_ ?_)) .refl
  all_goals rw [State.tap_markWithheld]
  · exact fun h => h
  · rfl
  · rfl

theorem Evolves.forceDepart (s : State) : Evolves s s.forceDepart := by
  unfold State.forceDepart
  split
  · exact .refl
  · exact ((Evolves.foldl (fun s t => .dragTap _ s t) ..).trans (.departHead ..)).trans (.pruneSpent ..)

theorem Evolves.append (s : State) (e : TimelineEntry) : Evolves s (s.append e) := by
  have h : Evolves s (if Config.timelineCapacity ≤ s.timeline.entries.length then s.forceDepart else s) :=
    .ite (.forceDepart s) .refl
  have hpush : ∀ u : State, Evolves u (u.pushEntry e) := fun u => .withTimeline u _
  unfold State.append
  exact .ite ((h.trans (hpush _)).trans (.settle ..)) (h.trans (hpush _))

theorem Evolves.appendRun (s : State) (run : List GapCause) : Evolves s (s.appendRun run) :=
  Evolves.foldl (f := fun s c => s.append (gapEntry c)) (fun _ _ => .append ..) run s

/-! ### Allocation -/

theorem Evolves.evictFor (s : State) (e : TimelineEntry) : Evolves s (s.evictFor e).1 := by
  unfold State.evictFor
  split
  · exact .refl
  · exact ((Evolves.modifyEntry ..).trans (.freeSeg ..)).trans (.takeSegment ..)

theorem State.pressureOldest_eq_some {s : State} {r : SegmentRecord} (h : s.pressureOldest = some r) :
    s.quarantine.lock = .unlocked ∧ s.quarantine.records = r :: s.quarantine.records.drop 1 ∧
      (s.seg? r.phys).any Segment.releasable = true := by
  unfold State.pressureOldest at h
  split at h
  · next r' rest hlock hrecords =>
    split at h
    · next hrel =>
      cases h
      exact ⟨hlock, by rw [hrecords]; rfl, hrel⟩
    · cases h
  · cases h

theorem Evolves.relieve (s : State) : Evolves s s.relieve.1 := by
  unfold State.relieve
  split
  · next r hr =>
    obtain ⟨hlock, -, -⟩ := State.pressureOldest_eq_some hr
    have hdrop : Evolves s { s with quarantine := { s.quarantine with records := s.quarantine.records.drop 1 } } :=
      .dropRecords (by rw [hlock]; exact fun h => LockState.noConfusion h) (List.drop_suffix ..)
    exact ((hdrop.trans (.raiseAll ..)).trans (.freeSeg ..)).trans (.takeSegment ..)
  · split
    · exact (Evolves.raiseAll ..).trans (.evictFor ..)
    · split
      · exact (Evolves.ite (.raiseAll ..) ((Evolves.raiseAll ..).trans (.raiseAll ..))).trans (.evictFor ..)
      · exact .refl

theorem Evolves.allocate (s : State) : Evolves s s.allocate.1 := by
  unfold State.allocate
  split
  · exact .takeSegment ..
  · exact .relieve s

/-! ### Edit list -/

theorem Evolves.raiseLate (new : Edit) (s : State) (t : Fin 4) : Evolves s (State.raiseLate new s t) := by
  unfold State.raiseLate; exact .ite (.raiseTap ..) .refl

theorem Evolves.tookRange {s : State} {new : Edit} {es : List Edit} (h : EditsFit s.edits es) : Evolves s (s.tookRange new es) := by
  unfold State.tookRange
  exact ((Evolves.withEdits h).trans (.foldl (fun s t => .raiseLate _ s t) ..)).trans (.pruneSpent ..)

/-- A new range that may join the list: it is for some tap, in its form and alone OPEN, and its count is in range. -/
structure RangeFits (es : List Edit) (new : Edit) : Prop where
  taps : new.taps ≠ 0#4
  formed : new.formed
  opened : new.state = .opened → openCount es = 0
  counted : new.extension ≤ 255

theorem RangeFits.openCount_le {es : List Edit} {new : Edit} (h : RangeFits es new) (hes : openCount es ≤ 1) :
    openCount (new :: es) ≤ 1 := by
  rw [openCount_cons]
  split
  · next ho => exact Nat.le_of_eq (congrArg (1 + ·) (h.opened ho))
  · omega

theorem EditsFit.offerRange {es es' : List Edit} {new : Edit} (h : RangeFits es new) (hoffer : offerRange es new = some es') :
    EditsFit es es' where
  named := fun k => offerRange_named k h.taps hoffer
  apart := fun k => offerRange_apart k h.formed (h.openCount_le k.2.1) hoffer
  counted := fun k => offerRange_counted k h.counted hoffer

theorem Edit.asDrop_formed {e : Edit} (l : Word) (h : e.formed) (hkind : e.kind = .mask) : (e.asDrop l).formed := by
  obtain ⟨hstop, -, htrail⟩ := h
  refine ⟨⟨fun _ => ?_, fun _ => rfl⟩, fun h => EditState.noConfusion h, fun h => EditState.noConfusion h⟩
  show (if e.state = .opened then some (e.reach.getD l) else e.stop) ≠ none
  split
  · exact Option.some_ne_none _
  · next hopen =>
    refine hstop.mp ?_
    cases hs : e.state with
    | opened => exact absurd hs hopen
    | trailing => rw [htrail hs] at hkind; cases hkind
    | closed => rfl

theorem openCount_others (es : List Edit) (w : Edit) : openCount (es.filter fun e => e.id != w.id) ≤ openCount es :=
  openCount_sublist (others_sublist es w)

/-- A widened entry is OPEN only when the entry it was widened from or the new range is. -/
theorem openCount_join {a b : Edit} (ha : a.state ≠ .opened) (hb : b.state ≠ .opened) : openCount [a.join b] = 0 := by
  rw [openCount_eq_zero]
  intro e he
  rw [List.mem_singleton.mp he]
  intro h
  exact (joinState_eq_opened h).elim ha hb

theorem EditsFit.widen {es : List Edit} {w w' new : Edit} (hw : w ∈ es) (hid : w'.id = w.id) (htaps : w'.taps = w.taps)
    (hext : w'.extension = w.extension) (hnew : new.extension ≤ 255) (hkind : new.kind = w'.kind) (hform : new.formed)
    (hwform : w.formed → w'.formed) (hopen : EditsApart es → openCount [w'.join new] + openCount (es.filter fun e => e.id != w.id) ≤ 1) :
    EditsFit es (widen es w w' new) where
  named := fun k => widen_named k hw hid htaps
  apart := fun k => widen_apart k (Edit.join_formed hkind (hwform (k.2.2 w hw)) hform) (hopen k)
  counted := fun k => widen_counted k (hext ▸ k w hw) hnew

theorem EditsFit.widenForDump {es : List Edit} {new : Edit} (l : Word) (h : RangeFits es new) (hkind : new.kind = .drop) :
    EditsFit es (widenForDump l es new) := by
  have hclosed : new.state ≠ .opened := fun ho => by
    have hmask := h.formed.2.1 ho
    rw [hkind] at hmask
    cases hmask
  unfold Machine.widenForDump
  split
  · next w hw =>
    obtain ⟨hmem, hwkind⟩ := newestOf_mem hw
    refine .widen hmem rfl rfl rfl h.counted (hkind.trans hwkind.symm) h.formed (fun k => k) fun k => ?_
    have hwclosed : w.state ≠ .opened := fun ho => by
      have hmask := (k.2.2 w hmem).2.1 ho
      rw [hwkind] at hmask
      cases hmask
    rw [openCount_join hwclosed hclosed, Nat.zero_add]
    exact Nat.le_trans (openCount_others es w) k.2.1
  · split
    · next w hw =>
      obtain ⟨hmem, hwkind⟩ := newestOf_mem hw
      refine .widen hmem rfl rfl rfl h.counted hkind h.formed (fun k => Edit.asDrop_formed l k hwkind) fun k => ?_
      rw [openCount_join (a := w.asDrop l) (fun ho => EditState.noConfusion ho) hclosed, Nat.zero_add]
      exact Nat.le_trans (openCount_others es w) k.2.1
    · exact .sublist (.refl _)

end Sys2Proof.Machine

/-! SUPPORT. The same for the edit list, the tap engines, the commands, commits, the link and the resets: every command's step is a chain of
changes, but for the power-on and the configuration that the end of the load brings. -/

namespace Sys2Proof.Machine

/-! ### Panel actions and marks -/

theorem EditsFit.widenForMask {es : List Edit} {new : Edit} (l : Word) (h : RangeFits es new) (hkind : new.kind = .mask)
    (hopen : openCount es = 0) : EditsFit es (widenForMask l es new) := by
  have hnone (w : Edit) : openCount (es.filter fun e => e.id != w.id) = 0 := Nat.le_zero.mp (hopen ▸ openCount_others es w)
  unfold Machine.widenForMask
  split
  · next w hw =>
    obtain ⟨hmem, hwkind⟩ := newestOf_mem hw
    refine .widen hmem rfl rfl rfl h.counted (hkind.trans hwkind.symm) h.formed (fun k => k) fun _ => ?_
    rw [hnone, openCount_cons]
    split <;> exact Nat.le_of_ble_eq_true rfl
  · split
    · next w hw =>
      obtain ⟨hmem, hwkind⟩ := newestOf_mem hw
      have hform : (new.asTrailingDrop l).formed :=
        ⟨⟨fun k => EditState.noConfusion k, fun k => absurd rfl k⟩, fun k => EditState.noConfusion k, fun _ => rfl⟩
      refine .widen hmem rfl rfl rfl h.counted hwkind.symm hform (fun k => k) fun _ => ?_
      rw [hnone, openCount_cons]
      split <;> exact Nat.le_of_ble_eq_true rfl
    · exact .sublist (.refl _)

theorem State.hasOpen_iff (s : State) : s.hasOpen = true ↔ openCount s.edits ≠ 0 := by
  rw [Ne, openCount_eq_zero]
  unfold State.hasOpen
  rw [List.any_eq_true]
  simp

theorem State.dumpRange_fits {s : State} (start : Word) (h : s.store.config.panelTaps ≠ 0#4) : RangeFits s.edits (s.dumpRange start) := by
  have hstate : (s.dumpRange start).state = .trailing ∧ (s.dumpRange start).stop = none ∨
      (s.dumpRange start).state = .closed ∧ (s.dumpRange start).stop = some s.liveEdge := by
    unfold State.dumpRange
    dsimp only
    cases decide (0 < s.store.config.snapReach)
    · exact .inr ⟨rfl, rfl⟩
    · exact .inl ⟨rfl, rfl⟩
  have hopened : (s.dumpRange start).state ≠ .opened := by
    obtain ⟨hs, -⟩ | ⟨hs, -⟩ := hstate <;> rw [hs] <;> exact fun k => EditState.noConfusion k
  refine ⟨h, ⟨?_, fun k => absurd k hopened, fun _ => rfl⟩, fun k => absurd k hopened, Nat.zero_le _⟩
  obtain ⟨hs, hz⟩ | ⟨hs, hz⟩ := hstate <;> rw [hs, hz] <;> simp

theorem Evolves.dump (s : State) : Evolves s s.dump := by
  unfold State.dump
  split
  · exact .raiseAll ..
  · next start hstart =>
    have htaps : s.store.config.panelTaps ≠ 0#4 := fun h => by
      unfold State.dumpStart at hstart
      rw [if_pos h] at hstart
      cases hstart
    have hfits := State.dumpRange_fits start htaps
    dsimp only
    split
    · next es hes => exact .tookRange (.offerRange hfits hes)
    · exact (Evolves.tookRange (.widenForDump _ hfits rfl)).trans (.raiseAll ..)

theorem Evolves.openMask (s : State) : Evolves s s.openMask := by
  unfold State.openMask
  split
  · exact .refl
  · next hno =>
    rw [not_or] at hno
    have hopen : openCount s.edits = 0 := by
      refine Classical.byContradiction fun hne => ?_
      exact hno.1 ((State.hasOpen_iff s).mpr hne)
    have hfits : RangeFits s.edits s.maskRange :=
      ⟨hno.2, ⟨⟨fun k => EditState.noConfusion k, fun k => absurd rfl k⟩, fun _ => rfl, fun k => EditState.noConfusion k⟩,
        fun _ => hopen, Nat.zero_le _⟩
    dsimp only
    split
    · next es hes => exact .tookRange (.offerRange hfits hes)
    · exact (Evolves.tookRange (.widenForMask _ hfits rfl hopen)).trans (.raiseAll ..)

theorem EditsFit.trans {as bs cs : List Edit} (h : EditsFit as bs) (k : EditsFit bs cs) : EditsFit as cs :=
  ⟨k.named ∘ h.named, k.apart ∘ h.apart, k.counted ∘ h.counted⟩

/-- Entries replaced one by one by what an event of their life makes of them. -/
theorem EditsFit.map {es : List Edit} {f : Edit → Edit} (hid : ∀ e, (f e).id = e.id) (htaps : ∀ e, (f e).taps = e.taps)
    (hf : ∀ e, e.formed → Edit.Shrinks e (f e)) (hext : ∀ e, e.extension ≤ 255 → (f e).extension ≤ 255) : EditsFit es (es.map f) where
  named := fun k => k.map hid htaps
  apart := fun k => k.map hf
  counted := fun k e he => by
    obtain ⟨x, hx, rfl⟩ := List.mem_map.mp he
    exact hext x (k x hx)

theorem Edit.close_formed (e : Edit) (z : Word) : (e.close z).formed :=
  ⟨⟨fun _ => Option.some_ne_none _, fun _ => rfl⟩, fun k => EditState.noConfusion k, fun k => EditState.noConfusion k⟩

theorem Edit.formed.stop_eq_none {e : Edit} (h : e.formed) (hs : e.state ≠ .closed) : e.stop = none := by
  refine Classical.byContradiction fun hne => ?_
  exact hs (h.1.mpr hne)

/-- An entry that is not CLOSED closes. -/
theorem Edit.Shrinks.close {e : Edit} (z : Word) (hform : e.formed) (hs : e.state ≠ .closed) : e.Shrinks (e.close z) :=
  ⟨rfl, rfl, rfl, .inr (hform.stop_eq_none hs), fun k => EditState.noConfusion k, fun _ => e.close_formed z⟩

/-- What one event does to an entry on its own: id and taps stay, the range does not grow and the extension count keeps its range. -/
structure Edit.Settles (f : Edit → Edit) : Prop where
  id : ∀ e, (f e).id = e.id
  taps : ∀ e, (f e).taps = e.taps
  shrinks : ∀ e, e.formed → Edit.Shrinks e (f e)
  counted : ∀ e : Edit, e.extension ≤ 255 → (f e).extension ≤ 255

theorem Edit.Settles.comp {f g : Edit → Edit} (hf : Edit.Settles f) (hg : Edit.Settles g) : Edit.Settles fun e => g (f e) where
  id := fun e => (hg.id _).trans (hf.id e)
  taps := fun e => (hg.taps _).trans (hf.taps e)
  shrinks := fun e he => (hf.shrinks e he).trans (hg.shrinks _ ((hf.shrinks e he).formed he))
  counted := fun e he => hg.counted _ (hf.counted e he)

theorem Edit.Settles.map {f : Edit → Edit} (h : Edit.Settles f) (es : List Edit) : EditsFit es (es.map f) :=
  .map h.id h.taps h.shrinks h.counted

/-- The four ways an entry goes on at an event: as it is, with other marks, with a longer reach, or closed. -/
theorem Edit.Settles.of_cases {f : Edit → Edit}
    (h : ∀ e, f e = e ∨ (∃ rough ext cut reach, ext ≤ max e.extension 255 ∧
        f e = { e with rough := rough, extension := ext, cutPending := cut, reach := reach }) ∨
      ∃ z rough ext, e.state ≠ .closed ∧ ext ≤ max e.extension 255 ∧ f e = { e.close z with rough := rough, extension := ext }) :
    Edit.Settles f where
  id := fun e => by obtain h | ⟨_, _, _, _, -, h⟩ | ⟨_, _, _, -, -, h⟩ := h e <;> rw [h]; rfl
  taps := fun e => by obtain h | ⟨_, _, _, _, -, h⟩ | ⟨_, _, _, -, -, h⟩ := h e <;> rw [h]; rfl
  shrinks := fun e he => by
    obtain h | ⟨_, _, _, _, -, h⟩ | ⟨z, _, _, hs, -, h⟩ := h e
    · rw [h]; exact .refl e
    · rw [h]; exact ⟨rfl, rfl, rfl, .inl rfl, fun k => k, fun k => k⟩
    · rw [h]; exact (Edit.Shrinks.close z he hs).trans ⟨rfl, rfl, rfl, .inl rfl, fun k => k, fun k => k⟩
  counted := fun e he => by
    obtain h | ⟨_, _, _, _, hle, h⟩ | ⟨_, _, _, -, hle, h⟩ := h e
    · rw [h]; exact he
    · rw [h]; exact Nat.le_trans hle (Nat.max_le.mpr ⟨he, Nat.le_refl _⟩)
    · rw [h]; exact Nat.le_trans hle (Nat.max_le.mpr ⟨he, Nat.le_refl _⟩)

theorem Edit.settleAt_settles (snap : Nat) (n : Word) (cutOk : Bool) : Edit.Settles (Edit.settleAt snap n cutOk) := by
  refine .of_cases fun e => ?_
  unfold Edit.settleAt
  split
  · next r hs _ =>
    have hopen : e.state ≠ .closed := by rw [hs]; exact fun k => EditState.noConfusion k
    have hbump : bump Config.countMax e.extension ≤ max e.extension 255 := Nat.le_trans (bump_le ..) (Nat.le_max_right ..)
    split
    · exact .inl rfl
    · split
      · exact .inr (.inr ⟨_, _, _, hopen, Nat.le_max_left .., rfl⟩)
      · dsimp only
        split
        · exact .inr (.inr ⟨_, _, _, hopen, hbump, rfl⟩)
        · exact .inr (.inl ⟨_, _, _, _, hbump, rfl⟩)
  · exact .inl rfl

theorem Edit.checkCut_settles (n : Word) (cutOk : Bool) : Edit.Settles (Edit.checkCut n cutOk) := by
  refine .of_cases fun e => ?_
  unfold Edit.checkCut
  split
  · split
    · exact .inr (.inl ⟨_, _, _, _, Nat.le_max_left .., rfl⟩)
    · exact .inl rfl
  · exact .inl rfl

theorem Edit.limitAt_settles (limit : Nat) (n : Word) : Edit.Settles (Edit.limitAt limit n) := by
  refine .of_cases fun e => ?_
  unfold Edit.limitAt
  split
  · next b hs _ =>
    split
    · exact .inr (.inr ⟨_, _, _, by rw [hs]; exact fun k => EditState.noConfusion k, Nat.le_max_left .., rfl⟩)
    · exact .inl rfl
  · exact .inl rfl

theorem State.present1_settles (s : State) (n : Word) (cutOk : Bool) : Edit.Settles (s.present1 n cutOk) :=
  ((Edit.settleAt_settles _ n cutOk).comp (Edit.checkCut_settles n cutOk)).comp (Edit.limitAt_settles _ n)

theorem Evolves.present (s : State) (n : Word) (c : Bool) : Evolves s (s.present n c) := by
  unfold State.present
  exact (((Evolves.withEdits ((s.present1_settles n c).map _)).trans (.raiseUnless ..)).trans (.raiseUnless ..)).trans (.pruneSpent ..)

/-- `filterMap` is a filter and then a map. -/
theorem filterMap_eq_map_filter (f : Edit → Option Edit) (es : List Edit) :
    es.filterMap f = (es.filter fun e => (f e).isSome).map fun e => (f e).getD e := by
  induction es with
  | nil => rfl
  | cons e es ih =>
    rw [List.filterMap_cons, List.filter_cons]
    cases h : f e with
    | none => simpa using ih
    | some y => simp [h, ih]

theorem Edit.release_settles (l : Word) : Edit.Settles fun e => (e.release l).getD e := by
  refine .of_cases fun e => ?_
  unfold Edit.release
  split
  · next hs =>
    dsimp only
    split
    · exact .inl rfl
    · exact .inr (.inr ⟨_, _, _, by rw [hs]; exact fun k => EditState.noConfusion k, Nat.le_max_left .., rfl⟩)
  · exact .inl rfl

theorem Evolves.closeMask (s : State) : Evolves s s.closeMask := by
  have hfit : EditsFit s.edits (s.edits.filterMap (Edit.release s.liveEdge)) := by
    rw [filterMap_eq_map_filter]
    exact (EditsFit.sublist List.filter_sublist).trans ((Edit.release_settles _).map _)
  unfold State.closeMask
  exact (Evolves.withEdits hfit).trans (.pruneSpent ..)

/-- Settling keeps a range from being OPEN, in its form and for its taps. -/
theorem foldl_settleAt_fits {es : List Edit} (snap : Nat) (l : List TimelineEntry) {d : Edit} (hd : d.taps ≠ 0#4) (hform : d.formed)
    (hopen : d.state ≠ .opened) (hext : d.extension ≤ 255) :
    RangeFits es (l.foldl (fun d e => d.settleAt snap e.pi e.cutOk) d) := by
  induction l generalizing d with
  | nil => exact ⟨hd, hform, fun h => absurd h hopen, hext⟩
  | cons e l ih =>
    have hsettle := Edit.settleAt_settles snap e.pi e.cutOk
    have hshrink := hsettle.shrinks d hform
    exact ih (by rw [hsettle.taps]; exact hd) (hshrink.formed hform) (fun h => hopen (hshrink.opened h)) (hsettle.counted d hext)

theorem State.markRange_fits (s : State) (kind : EditKind) {taps : BitVec 4} (p z : Word) (h : taps ≠ 0#4) :
    RangeFits s.edits (s.markRange kind taps p z) := by
  have hclosed (d : Edit) (hs : d.state = .closed) (hz : d.stop = some z) (ht : d.taps = taps) (he : d.extension = 0) :
      RangeFits s.edits d := by
    refine ⟨ht ▸ h, ⟨?_, ?_, ?_⟩, ?_, ?_⟩
    · rw [hs, hz]; exact ⟨fun _ => Option.some_ne_none _, fun _ => rfl⟩
    all_goals first | (rw [hs]; exact fun k => EditState.noConfusion k) | (rw [he]; exact Nat.zero_le _)
  unfold State.markRange
  cases kind with
  | mask => exact hclosed _ rfl rfl rfl rfl
  | drop =>
    dsimp only
    unfold State.markDropRange
    dsimp only
    split
    · split
      · exact hclosed _ rfl rfl rfl rfl
      · exact hclosed _ rfl rfl rfl rfl
    · refine foldl_settleAt_fits _ _ h ⟨⟨fun k => EditState.noConfusion k, fun k => absurd rfl k⟩, fun k => EditState.noConfusion k, fun _ => rfl⟩
        (fun k => EditState.noConfusion k) (Nat.zero_le _)

theorem Evolves.mark (s : State) (k : EditKind) (m : BitVec 4) (c : Nat) (q : Word) : Evolves s (s.mark k m c q).1 := by
  unfold State.mark
  split
  · exact .refl
  · next hno =>
    rw [not_or] at hno
    dsimp only
    split
    · exact .refl
    · split
      · exact .refl
      · next es hes =>
        have hfit := EditsFit.offerRange (s.markRange_fits k _ _ hno.1) hes
        refine (Evolves.raiseUnless ..).trans (.tookRange ?_)
        have hedits : ∀ b e, (s.raiseUnless b e).edits = s.edits := fun b e => by cases b <;> rfl
        rw [hedits]
        exact hfit

theorem Evolves.cancelEdit (s : State) (id : Nat) : Evolves s (s.cancelEdit id).1 := by
  unfold State.cancelEdit
  split
  · exact .refl
  · split
    · exact .refl
    · exact .withEdits (.sublist List.filter_sublist)

/-! ### Tap engines -/

theorem Evolves.dropReferences (s : State) (t : Fin 4) : Evolves s (s.dropReferences t) := by
  have hclear : Evolves s (s.setTap t { s.tap t with current := none, previous := none, repeatSource := none }) :=
    .setTap_calm (fun h => h) rfl rfl
  unfold State.dropReferences
  exact ((hclear.trans (.unpinOpt ..)).trans (.unpinOpt ..)).trans (.unpinOpt ..)

theorem Evolves.tapOn (p : StartPolicy) (s : State) (t : Fin 4) : Evolves s (State.tapOn p s t) := by
  unfold State.tapOn
  refine (Evolves.dropReferences s t).trans (.setTap (fun h => ?_) (fun _ => Nat.zero_le _) fun _ h => h)
  obtain ⟨-, -, -, -, -, -, hexecuted⟩ := h
  exact ⟨Nat.zero_le _, Nat.zero_le _, Nat.zero_le _, Nat.zero_le _, Nat.le_refl _, Nat.zero_le _, hexecuted⟩

theorem Evolves.tapOff (s : State) (t : Fin 4) : Evolves s (s.tapOff t) := by
  unfold State.tapOff
  exact .ite ((Evolves.dropReferences ..).trans (.modifyTap_calm (fun _ h => h) (fun _ => rfl) fun _ => rfl)) .refl

theorem Evolves.bindEntry (s : State) (t : Fin 4) (e : TimelineEntry) (a p : Bool) : Evolves s (s.bindEntry t e a p).1 := by
  have hcalm (x : Tap) (h : (s.tap t).countsInRange → x.countsInRange) (hacc : x.acc ≤ (s.tap t).acc) (hdt : x.dt = (s.tap t).dt) :
      Evolves s (s.setTap t x) := .setTap h (fun k => Nat.le_trans hacc k.2.2.2) fun k _ => Nat.le_trans (Nat.le_of_eq hdt) k
  unfold State.bindEntry
  dsimp only
  split
  · exact hcalm _ (fun h => TapFits.countRepeat.counts _ h) (TapFits.countRepeat.acc _) (TapFits.countRepeat.dt _)
  · split
    · exact hcalm _ (fun h => TapFits.countRepeat.counts _ h) (TapFits.countRepeat.acc _) (TapFits.countRepeat.dt _)
    · exact hcalm _ (fun h => h) (Nat.le_refl _) rfl

/-- An event raised or not leaves counts, accumulator and Dt. -/
theorem Tap.raise_ite_eq (x : Tap) (c : Prop) [Decidable c] (e : Event) :
    (if c then x.raise e else x) = { x with latch := (if c then x.raise e else x).latch } := by
  split <;> rfl

theorem Evolves.bindUnderrun (s : State) (t : Fin 4) : Evolves s (s.bindUnderrun t).1 := by
  unfold State.bindUnderrun
  dsimp only
  rw [Tap.raise_ite_eq]
  have hstep (x : Tap) (n m : Nat) (hn : n ≤ 255) (hm : m ≤ 255) (mode : PacerMode) (b : Bool) (l : Word) (c : Prop) [Decidable c]
      (hx : x = s.tap t) :
      Evolves s (s.setTap t (Tap.countRepeat
        (if c then
          { ({ { x with underrunRun := n, mode := mode, sinceLast := m, stepErrorOwed := b } with latch := l } : Tap) with
            stalled := true }.raise .captureStall
        else { { x with underrunRun := n, mode := mode, sinceLast := m, stepErrorOwed := b } with latch := l }))) := by
    subst hx
    refine .setTap (fun h => TapFits.countRepeat.counts _ ?_) (fun h => Nat.le_trans (TapFits.countRepeat.acc _) ?_)
      fun h _ => Nat.le_trans (Nat.le_of_eq (TapFits.countRepeat.dt _)) ?_
    · obtain ⟨hdropped, hrepeats, hshed, herrors, -, -, hexecuted⟩ := h
      split <;> exact ⟨hdropped, hrepeats, hshed, herrors, hm, hn, hexecuted⟩
    · split <;> exact h.2.2.2
    · split <;> exact h
  exact hstep (s.tap t) _ _ (bump_le ..) (bump_le ..) _ _ _ _ rfl

theorem Evolves.bindPaced (s : State) (t : Fin 4) (m : PacerMode) (c : TimelineEntry) (after : List TimelineEntry) (p : Bool) :
    Evolves s (s.bindPaced t m c after p).1 := by
  have hset (acc since : Nat) (hsince : since ≤ 255) (owed : Bool) (f : Tap → Tap) (hf : TapFits f)
      (hacc : PacerFits (s.settings t) (s.tap t) → acc ≤ (s.settings t).p) :
      Evolves s (s.setTap t (f { s.tap t with mode := m, underrunRun := 0, stalled := false, acc := acc, sinceLast := since,
                                              stepErrorOwed := owed })) := by
    refine .setTap (fun h => hf.counts _ ?_) (fun h => Nat.le_trans (hf.acc _) (hacc h)) fun h _ => Nat.le_trans (Nat.le_of_eq (hf.dt _)) h
    obtain ⟨hdropped, hrepeats, hshed, herrors, -, -, hexecuted⟩ := h
    exact ⟨hdropped, hrepeats, hshed, herrors, hsince, Nat.zero_le _, hexecuted⟩
  have hid : TapFits (fun x => x) := ⟨fun _ h => h, fun _ => Nat.le_refl _, fun _ => rfl⟩
  have hkeep : PacerFits (s.settings t) (s.tap t) → min ((s.tap t).acc + (s.settings t).k) (s.settings t).p ≤ (s.settings t).p :=
    fun _ => Nat.min_le_right ..
  have hspend : PacerFits (s.settings t) (s.tap t) → (s.tap t).acc + (s.settings t).k - (s.settings t).p ≤ (s.settings t).p := by
    intro h
    obtain ⟨-, -, hk, hacc⟩ := h
    omega
  unfold State.bindPaced
  dsimp only
  cases m with
  | steady => exact (hset 0 _ (bump_le ..) (s.tap t).stepErrorOwed _ hid fun _ => Nat.zero_le _).trans (.bindEntry ..)
  | build =>
    dsimp only
    split
    · exact hset _ 0 (Nat.zero_le _) false _ .countRepeat hspend
    · exact (hset _ _ (bump_le ..) (s.tap t).stepErrorOwed _ hid hkeep).trans (.bindEntry ..)
  | shed =>
    dsimp only
    split
    · exact ((hset _ 0 (Nat.zero_le _) (s.tap t).stepErrorOwed _ .countShed hspend).trans
        (.foldl (fun s e => .passOver _ s e) ..)).trans (.bindEntry ..)
    · exact (hset _ _ (bump_le ..) (s.tap t).stepErrorOwed _ hid hkeep).trans (.bindEntry ..)

theorem Evolves.bindRun (s : State) (t : Fin 4) : Evolves s (s.bindRun t).1 := by
  have h (l : List TimelineEntry) : Evolves s (l.foldl (State.passOver t) s) := .foldl (fun s e => .passOver t s e) l s
  unfold State.bindRun
  dsimp only
  split
  · exact (h _).trans (.bindUnderrun ..)
  · exact (h _).trans (.bindPaced ..)

theorem Evolves.bindPosition (s : State) (t : Fin 4) : Evolves s (s.bindPosition t).1 := by
  have hrun : Evolves s (s.setTap t { s.tap t with state := .run }) := .setTap_calm (fun h => h) rfl rfl
  have hfill : Evolves s (s.setTap t { s.tap t with mode := .build, stepErrorOwed := false }) := .setTap_calm (fun h => h) rfl rfl
  unfold State.bindPosition
  dsimp only
  split
  · split
    · exact hfill
    · exact hrun.trans (.bindRun ..)
  · exact .bindRun ..
  · exact .refl

theorem Evolves.movePins (s : State) (b : Binding) (p : Option SlotBinding) (x y : Option RepeatSource) :
    Evolves s (s.movePins b p x y) := by
  unfold State.movePins
  have h2 : Evolves s (if b.kind = .program then (s.pinOpt b.phys).pinOpt (y.map (·.phys)) else s.pinOpt b.phys) :=
    .ite ((Evolves.pinOpt ..).trans (.pinOpt ..)) (.pinOpt ..)
  have h3 := h2.trans (.unpinOpt _ (p.bind (·.binding.phys)))
  exact .ite (h3.trans (.unpinOpt ..)) h3

theorem Evolves.advance (s : State) (t : Fin 4) (j : Nat) : Evolves s (s.advance t j) := by
  have hmove : Evolves s (s.setTap t { s.tap t with previous := (s.tap t).current, current := none, op := (s.tap t).op + 1#32 }) :=
    .setTap_calm (fun h => h) rfl rfl
  have hsnapshot (u : State) (b : Binding) : Evolves u (u.takeSnapshot t j b) :=
    .setTap_calm (fun h => h) rfl rfl
  unfold State.advance
  exact (((hmove.trans (.bindPosition ..)).trans (.movePins ..)).trans (.settle ..)).trans (hsnapshot ..)

end Sys2Proof.Machine

/-! SUPPORT. Commands, commits, reads, resets and the load as chains of changes; one theorem says it of every command's step. -/

namespace Sys2Proof.Machine

/-! ### Commands -/

theorem Evolves.forTaps {f : State → Fin 4 → State} (h : ∀ s t, Evolves s (f s t)) (s : State) (m : BitVec 4) : Evolves s (s.forTaps m f) :=
  .foldl h _ s

theorem Evolves.cmdTapOn (s : State) (e : ControlEntry) : Evolves s (cmdTapOn s e).1 := by
  unfold Machine.cmdTapOn
  split
  · exact .refl
  · exact (Evolves.forTaps (fun s t => (Evolves.setSettings (by rfl) (by rfl) (by rfl)).trans (.tapOn _ _ t)) ..).trans (.settle _)

theorem Evolves.cmdTapOff (s : State) (e : ControlEntry) : Evolves s (cmdTapOff s e).1 := by
  unfold Machine.cmdTapOff
  split
  · exact .refl
  · exact (Evolves.forTaps (fun s t => (Evolves.setSettings (by rfl) (by rfl) (by rfl)).trans (.tapOff _ t)) ..).trans (.settle _)

/-- SET TARGET at one tap, with a target within Dmax. -/
theorem Evolves.setTarget {s : State} {d : Nat} (t : Fin 4) (h : d ≤ s.dmax) :
    Evolves s ((s.setSettings t { s.settings t with de := d }).modifyTap t fun x => { x with dt := d, clampFlag := false }) :=
  .setControl (i := t) ⟨fun h => h, fun h => h, fun _ _ => ⟨h, h⟩⟩

theorem Evolves.foldl_setTarget {d : Nat} (l : List (Fin 4)) {s : State} (h : d ≤ s.dmax) :
    Evolves s (l.foldl (fun s t => (s.setSettings t { s.settings t with de := d }).modifyTap t fun x => { x with dt := d, clampFlag := false }) s) := by
  induction l generalizing s with
  | nil => exact .refl
  | cons t l ih => exact (Evolves.setTarget t h).trans (ih h)

theorem Evolves.cmdSetTarget (s : State) (e : ControlEntry) : Evolves s (cmdSetTarget s e).1 := by
  unfold Machine.cmdSetTarget
  split
  · exact .refl
  · exact .foldl_setTarget _ (Nat.min_le_right ..)

theorem clampTo_ge {lo hi : Nat} (v : Nat) : lo ≤ clampTo lo hi v := Nat.le_max_left ..

theorem clampTo_le {lo hi : Nat} (v : Nat) (h : lo ≤ hi) : clampTo lo hi v ≤ hi := Nat.max_le.mpr ⟨h, Nat.min_le_right ..⟩

theorem Evolves.cmdSetPacer (s : State) (e : ControlEntry) : Evolves s (cmdSetPacer s e).1 := by
  unfold Machine.cmdSetPacer
  split
  · exact .refl
  · refine Evolves.forTaps (fun s t => ?_) ..
    refine .setControl (i := t) ⟨fun h => h, fun _ => ?_, fun h k => ⟨h, k⟩⟩
    exact ⟨clampTo_ge _, clampTo_le _ (by decide), Nat.min_le_right .., Nat.zero_le _⟩

theorem Evolves.cmdClearCounters (s : State) (e : ControlEntry) : Evolves s (cmdClearCounters s e).1 := by
  unfold Machine.cmdClearCounters
  split
  · exact .refl
  · refine Evolves.forTaps (fun s t => ?_) ..
    refine .modifyTap_calm (fun x h => ?_) (fun _ => rfl) fun _ => rfl
    obtain ⟨-, -, -, -, hsince, hrun, hexecuted⟩ := h
    exact ⟨Nat.zero_le _, Nat.zero_le _, Nat.zero_le _, Nat.zero_le _, hsince, hrun, hexecuted⟩

/-- A change of settings other than the geometry, the taps' and the fault threshold. -/
theorem Evolves.modifyConfig {s : State} {f : WorkingConfig → WorkingConfig} (hgeometry : (f s.store.config).geometry = s.store.config.geometry)
    (htaps : (f s.store.config).taps = s.store.config.taps)
    (hthreshold : s.store.config.faultThreshold ≤ 7 → (f s.store.config).faultThreshold ≤ 7) : Evolves s (s.modifyConfig f) :=
  .aside ⟨id, rfl, rfl, rfl, rfl, rfl, hgeometry, htaps, hthreshold, id, id⟩

theorem Evolves.cmdSetPolicy (s : State) (e : ControlEntry) : Evolves s (cmdSetPolicy s e).1 := by
  have hthreshold : max 1 (e.argA.toNat / 16 % 8) ≤ 7 := by omega
  unfold Machine.cmdSetPolicy
  dsimp only
  exact .modifyConfig rfl rfl fun _ => hthreshold

theorem Evolves.cmdSetDump (s : State) (e : ControlEntry) : Evolves s (cmdSetDump s e).1 := by
  unfold Machine.cmdSetDump
  dsimp only
  exact .modifyConfig rfl rfl fun h => h

theorem Evolves.cmdSetMaskTiming (s : State) (e : ControlEntry) : Evolves s (cmdSetMaskTiming s e).1 := by
  unfold Machine.cmdSetMaskTiming
  dsimp only
  exact .modifyConfig rfl rfl fun h => h

theorem Evolves.cmdSetSnap (s : State) (e : ControlEntry) : Evolves s (cmdSetSnap s e).1 := by
  unfold Machine.cmdSetSnap
  dsimp only
  exact .modifyConfig rfl rfl fun h => h

theorem Evolves.cmdSetPanel (s : State) (e : ControlEntry) : Evolves s (cmdSetPanel s e).1 := by
  unfold Machine.cmdSetPanel
  dsimp only
  exact .modifyConfig rfl rfl fun h => h

theorem Evolves.setLock {s : State} {l : LockState} (a : Bool) (h : s.quarantine.lock = .frozen → l = .frozen) : Evolves s (s.setLock l a) :=
  (Evolves.single (.lock s l h)).trans (.modifyConfig rfl rfl fun h => h)

theorem Evolves.cmdLock (s : State) : Evolves s (cmdLock s).1 := by
  unfold Machine.cmdLock
  split
  · next h => exact .setLock _ fun k => by rw [h] at k; cases k
  · next h => exact .setLock _ fun k => by rw [h] at k; cases k
  · exact .refl

theorem Evolves.cmdUnlock (s : State) : Evolves s (cmdUnlock s).1 := by
  unfold Machine.cmdUnlock
  split
  · next h => exact .setLock _ fun k => by rw [h] at k; cases k
  · next h => exact .setLock _ fun k => by rw [h] at k; cases k
  · exact .refl

theorem Evolves.cmdRelease (s : State) (e : ControlEntry) : Evolves s (cmdRelease s e).1 := by
  unfold Machine.cmdRelease
  split
  · next h =>
    have hdrop : Evolves s { s with quarantine := { s.quarantine with records := s.quarantine.records.drop e.argA.toNat } } :=
      .dropRecords (by rw [h]; exact fun k => LockState.noConfusion k) (List.drop_suffix ..)
    exact (hdrop.trans (.foldl (fun s (r : SegmentRecord) => .freeSeg s r.phys) ..)).trans (.settle _)
  · exact .refl
  · exact .refl

/-- A change of blocks that no law on taps, segments, quarantine and edits speaks of. -/
theorem Evolves.withStore {s : State} {u : StoreController} (h : u.config = s.store.config) : Evolves s { s with store := u } :=
  .aside ⟨id, rfl, rfl, rfl, rfl, rfl, congrArg _ h, congrArg _ h, by show _ → u.config.faultThreshold ≤ 7; rw [h]; exact id, id, id⟩

theorem Evolves.withCapture (s : State) (c : CaptureUnit) : Evolves s { s with capture := c } :=
  .aside ⟨id, rfl, rfl, rfl, rfl, rfl, rfl, rfl, id, id, id⟩

theorem Evolves.withLink {s : State} {l : Interposer} (h : l.geometry = s.link.geometry) : Evolves s { s with link := l } :=
  .aside ⟨id, h, rfl, rfl, rfl, rfl, rfl, rfl, id, id, id⟩

theorem Evolves.withPanel (s : State) (p : PanelTally) : Evolves s { s with panel := p } :=
  .aside ⟨id, rfl, rfl, rfl, rfl, rfl, rfl, rfl, id, id, id⟩

theorem Evolves.withStartUp {s : State} {u : StartUp} (h : s.startUp.phase = .running → u.phase = .running) :
    Evolves s { s with startUp := u } :=
  .aside ⟨h, rfl, rfl, rfl, rfl, rfl, rfl, rfl, id, id, id⟩

theorem Evolves.refreshTally (s : State) : Evolves s s.refreshTally := .withPanel s _

theorem Evolves.setPattern (s : State) (r : Option PatternRun) : Evolves s (s.setPattern r) :=
  .aside ⟨id, rfl, rfl, rfl, rfl, rfl, rfl, rfl, id, id, id⟩

theorem Evolves.setContexts (s : State) (cs : List Context) : Evolves s (s.setContexts cs) := .withCapture s _

theorem Evolves.startWrite (s : State) : Evolves s s.startWrite := .withStore rfl

theorem Evolves.cmdSaveConfig (s : State) : Evolves s (cmdSaveConfig s).1 := by
  unfold Machine.cmdSaveConfig
  split
  · exact .refl
  · exact .startWrite s

theorem Evolves.cmdCommitRetire (s : State) : Evolves s (cmdCommitRetire s).1 := by
  unfold Machine.cmdCommitRetire
  split
  · exact .refl
  · exact .withStore rfl

theorem Evolves.cmdSetGeometry (s : State) (e : ControlEntry) : Evolves s (cmdSetGeometry s e).1 := by
  unfold Machine.cmdSetGeometry
  split
  · exact .withStore rfl
  · exact .refl

theorem Evolves.takeTestable (s : State) (c n : Nat) : Evolves s (s.takeTestable c n) := by
  unfold State.takeTestable
  split
  · exact (Evolves.setPattern ..).trans (.modifySeg _ _ fun _ => ⟨fun _ h => h, fun h => SegState.noConfusion h⟩)
  · exact (Evolves.setPattern ..).trans (.raiseAll ..)

theorem Evolves.cmdPatternTest (s : State) (e : ControlEntry) : Evolves s (cmdPatternTest s e).1 := by
  unfold Machine.cmdPatternTest
  dsimp only
  split
  · exact .refl
  · split
    · exact .refl
    · exact .takeTestable ..

theorem Evolves.runCommand (s : State) (e : ControlEntry) : Evolves s (runCommand s e).1 := by
  unfold Machine.runCommand
  split
  · exact .cmdTapOn s e
  · exact .cmdTapOff s e
  · exact .cmdSetTarget s e
  · exact .cmdSetPacer s e
  · exact .mark ..
  · exact .mark ..
  · exact .cancelEdit ..
  · exact .cmdSetDump s e
  · exact .cmdSetMaskTiming s e
  · exact .cmdSetSnap s e
  · exact .cmdSetPanel s e
  · exact .cmdSetPolicy s e
  · exact .cmdClearCounters s e
  · exact .cmdLock s
  · exact .setLock _ fun _ => rfl
  · exact .cmdUnlock s
  · exact .cmdRelease s e
  · exact .refl
  · exact .cmdCommitRetire s
  · exact .cmdSaveConfig s
  · exact .cmdSetGeometry s e
  · exact .cmdPatternTest s e
  · exact .refl

theorem guardAfter_le (n : Nat) (e : ControlEntry) : guardAfter n e ≤ 4 := by
  unfold guardAfter
  split
  · next h => exact h.2.1
  · exact Nat.zero_le _

theorem Evolves.withGuard {s : State} {n : Nat} (h : n ≤ 4) : Evolves s { s with guardStep := n } :=
  .aside ⟨id, rfl, rfl, rfl, rfl, rfl, rfl, rfl, id, fun _ => h, id⟩

theorem Evolves.executeEntry (q : Word) (s : State) (e : ControlEntry) : Evolves s (State.executeEntry q s e) := by
  have h : Evolves s (if guarded e.code ∧ s.guardStep ≠ 4 then (s, CmdResult.refusedGuard) else Machine.runCommand s e).1 := by
    split
    · exact .refl
    · exact .runCommand s e
  unfold State.executeEntry
  exact .ite .refl ((h.trans (.report ..)).trans (.withGuard (guardAfter_le ..)))

theorem Evolves.executeEntries (s : State) (q : Word) (es : List ControlEntry) : Evolves s (s.executeEntries q es) :=
  .foldl (fun s e => .executeEntry q s e) es s

/-! ### The capture unit -/

theorem Evolves.carryRun (s : State) (older : List Context) (run : List GapCause) : Evolves s (s.carryRun older run) := by
  unfold State.carryRun
  split
  · exact .setContexts ..
  · exact .withCapture ..

theorem Evolves.displace (s : State) (k : Nat) : Evolves s (s.displace k) := by
  unfold State.displace
  split
  · exact .refl
  · dsimp only
    split
    · exact .setContexts ..
    · exact ((((Evolves.setContexts ..).trans (.raiseAll ..)).trans (.carryRun ..)).trans (.freeSeg ..)).trans (.settle _)

theorem Evolves.makeRoom (s : State) (k : Nat) : Evolves s (s.makeRoom k) := by
  unfold State.makeRoom
  dsimp only
  split
  · exact (Evolves.displace ..).trans (.displace ..)
  · exact .displace ..

theorem Evolves.enterState (s : State) (p : Nat) {k : SegState} (h : k ≠ .retired) : Evolves s (s.modifySeg p fun g => { g with state := k }) :=
  .modifySeg s p fun _ => ⟨fun _ h => h, fun hk => absurd hk h⟩

theorem Evolves.commitProgram (s : State) (b : ContextBody) : Evolves s (s.commitProgram b) := by
  unfold State.commitProgram
  exact (Evolves.enterState s b.phys fun h => SegState.noConfusion h).trans ((Evolves.append ..).trans (.present ..))

theorem Evolves.setMaskImage (s : State) (b : ContextBody) : Evolves s (s.setMaskImage b) :=
  (Evolves.enterState s b.phys (k := .maskImage) fun h => SegState.noConfusion h).trans
    (.aside ⟨id, rfl, rfl, rfl, rfl, rfl, rfl, rfl, id, id, id⟩)

theorem Evolves.freeOpt (s : State) (p : Option Nat) : Evolves s (s.freeOpt p) := by
  cases p
  · exact .refl
  · exact .freeSeg ..

theorem Evolves.commitMask (s : State) (b : ContextBody) : Evolves s (s.commitMask b) := by
  unfold State.commitMask
  exact .ite ((Evolves.setMaskImage ..).trans ((Evolves.freeOpt ..).trans (.settle _))) ((Evolves.freeSeg ..).trans (.settle _))

theorem Evolves.latchCheck (s : State) (b : ContextBody) : Evolves s (s.latchCheck b) := by
  unfold State.latchCheck; exact .ite .refl (.raiseAll ..)

theorem Evolves.appendLead (s : State) (b : ContextBody) : Evolves s (s.appendLead b) :=
  (Evolves.withCapture s { s.capture with pendingRun := [] }).trans (.appendRun ..)

theorem Evolves.commitSegment (s : State) (b : ContextBody) : Evolves s (s.commitSegment b) := by
  unfold State.commitSegment
  split
  · exact .commitProgram ..
  · exact .commitMask ..
  · exact (Evolves.freeSeg ..).trans (.settle _)

theorem Evolves.commitBody (s : State) (b : ContextBody) : Evolves s (s.commitBody b) :=
  ((((Evolves.latchCheck s b).trans (.appendLead ..)).trans (.commitSegment ..)).trans (.executeEntries ..)).trans (.appendRun ..)

/-- A commit takes the oldest context that is not DISCARD, COMPLETE_WAITING and without a write outstanding. -/
theorem State.commitNext_eq_some {s t : State} (h : s.commitNext = some t) :
    ∃ c b, s.capture.contexts.find? Context.carries = some c ∧ c.state = .completeWaiting ∧ c.body = some b ∧ b.writesOut = 0 ∧
      t = (s.setContexts (s.capture.contexts.filter fun x => x.slot != c.slot)).commitBody b := by
  unfold State.commitNext at h
  split at h
  · cases h
  · next c hc =>
    split at h
    · next b hstate hbody =>
      split at h
      · next hout => exact ⟨c, b, hc, hstate, hbody, hout, (Option.some.inj h).symm⟩
      · cases h
    · cases h

theorem Evolves.commitNext {s t : State} (h : s.commitNext = some t) : Evolves s t := by
  obtain ⟨c, b, -, -, -, -, rfl⟩ := State.commitNext_eq_some h
  exact (Evolves.setContexts ..).trans (.commitBody ..)

/-- What holds of `s` and follows from it over each commit holds after all commits that are ready. -/
theorem State.commitReady_induct {P : State → Prop} {s : State} (hs : P s) (h : ∀ u v, P u → u.commitNext = some v → P v) : P s.commitReady := by
  unfold State.commitReady
  split
  · exact hs
  · next s1 h1 =>
    have hs1 := h s s1 hs h1
    cases h2 : s1.commitNext with
    | none => exact hs1
    | some s2 => exact h s1 s2 hs1 h2

theorem Evolves.commitReady (s : State) : Evolves s s.commitReady :=
  State.commitReady_induct (P := Evolves s) .refl fun _ _ h k => h.trans (.commitNext k)

theorem Evolves.modifyFlight (s : State) (t : Fin 64) (f : InFlight → InFlight) : Evolves s (s.modifyFlight t f) := .withLink rfl
theorem Evolves.plan (s : State) (m : MRequest) : Evolves s (s.plan m) := .withLink rfl
theorem Evolves.absorbWrite (s : State) (f : InFlight) : Evolves s (s.absorbWrite f) := .modifyFlight ..
theorem Evolves.openDiscard (s : State) (k : Nat) : Evolves s (s.openDiscard k) := .setContexts ..

theorem Evolves.forwardWrite (s : State) (g : Geometry) (f : InFlight) (p off : Nat) : Evolves s (s.forwardWrite g f p off) := by
  unfold State.forwardWrite
  exact ((Evolves.modifyFlight ..).trans (.plan ..)).trans (.raiseOutstanding ..)

theorem Evolves.openContext (s : State) (g : Geometry) (f : InFlight) (k : Nat) (h : CaptureHeader) (lead : List GapCause) :
    Evolves s (s.openContext g f k h lead) := by
  unfold State.openContext
  dsimp only
  split
  · exact ((Evolves.allocate s).trans (.setContexts ..)).trans (.forwardWrite ..)
  · exact ((((Evolves.allocate s).trans (.raiseAll ..)).trans (.carryRun ..)).trans (.openDiscard ..)).trans (.absorbWrite ..)

theorem Evolves.acceptSequence (s : State) (q : Word) (e : Option Event) : Evolves s (s.acceptSequence q e) := by
  unfold State.acceptSequence
  dsimp only
  split
  · exact .withCapture ..
  · exact (Evolves.withCapture ..).trans (.raiseAll ..)

theorem Evolves.readHeader (s : State) (g : Geometry) (f : InFlight) (k : Nat) : Evolves s (s.readHeader g f k) := by
  unfold State.readHeader
  split
  · exact ((Evolves.raiseAll ..).trans (.openDiscard ..)).trans (.absorbWrite ..)
  · split
    · exact .openContext ..
    · split
      · exact ((Evolves.raiseAll ..).trans (.openDiscard ..)).trans (.absorbWrite ..)
      · exact (Evolves.acceptSequence ..).trans (.openContext ..)

theorem Evolves.headerWrite (s : State) (g : Geometry) (f : InFlight) (k : Nat) : Evolves s (s.headerWrite g f k) := by
  unfold State.headerWrite
  exact ((Evolves.makeRoom ..).trans (.readHeader ..)).trans (.commitReady _)

theorem Evolves.payloadWrite (s : State) (g : Geometry) (f : InFlight) (k off : Nat) : Evolves s (s.payloadWrite g f k off) := by
  unfold State.payloadWrite
  split
  · exact (Evolves.raiseAll ..).trans (.absorbWrite ..)
  · split
    · exact .absorbWrite ..
    · exact (Evolves.setContexts ..).trans (.forwardWrite ..)

theorem Evolves.captureAnswer (s : State) (p : Nat) (r : LinkStatus) : Evolves s (s.captureAnswer p r) := by
  unfold State.captureAnswer
  dsimp only
  split
  · exact ((Evolves.setContexts ..).trans ((Evolves.countFault ..).trans (.settle _))).trans (.commitReady _)
  · exact (Evolves.setContexts ..).trans (.commitReady _)

/-! ### The interposer and reads -/

theorem Evolves.lowerFor (s : State) (u : MUse) : Evolves s (s.lowerFor u) := by
  unfold State.lowerFor
  split
  · exact .refl
  · exact .lowerOutstanding ..

theorem Evolves.setPresented (s : State) (r : Option LinkRequest) : Evolves s (s.setPresented r) := .withLink rfl
theorem Evolves.addFlight (s : State) (f : InFlight) : Evolves s (s.addFlight f) := .withLink rfl

theorem Evolves.accept (s : State) (g : Geometry) (r : LinkRequest) : Evolves s (s.accept g r) := by
  unfold State.accept
  split
  · exact (Evolves.addFlight ..).trans (.raiseAll ..)
  · exact (Evolves.addFlight ..).trans (.raiseAll ..)
  · exact (Evolves.addFlight ..).trans (.plan ..)
  all_goals exact .addFlight ..

theorem Evolves.meetRequest (s : State) (r : LinkRequest) : Evolves s (s.meetRequest r) := by
  unfold State.meetRequest
  split
  · exact .setPresented ..
  · exact .ite (.setPresented ..) ((Evolves.setPresented ..).trans (.accept ..))

theorem Evolves.returnForwarded (s : State) (m : MRequest) (r : LinkResponse) : Evolves s (s.returnForwarded m r) := .withLink rfl

theorem Evolves.returnReply (s : State) (tag : Fin 64) (f : InFlight) (r : Reply) : Evolves s (s.returnReply tag f r) := by
  unfold State.returnReply
  exact .ite (.withLink rfl) (.withLink rfl)

theorem Evolves.servePlan (s : State) (tag : Fin 64) (g : Geometry) (plan : FillPlan) (use : PartRead → MUse) :
    Evolves s (s.servePlan tag g plan use) := by
  unfold State.servePlan
  exact ((Evolves.modifyFlight ..).trans (.foldl (fun s m => .plan s m) ..)).trans
    (.foldl (fun s (r : PartRead) => .raiseOutstanding s r.phys) ..)

theorem Evolves.serveCurrent (s : State) (g : Geometry) (r : LinkRequest) (t : Fin 4) (off : Nat) : Evolves s (s.serveCurrent g r t off) := by
  unfold State.serveCurrent
  split
  · exact .refl
  · next sb _ =>
    refine Evolves.trans (.modifyTap_calm ?_ ?_ ?_) (.servePlan ..)
    · exact fun _ h => h
    · exact fun _ => rfl
    · exact fun _ => rfl

theorem Evolves.servePrevious (s : State) (g : Geometry) (r : LinkRequest) (t : Fin 4) (off : Nat) : Evolves s (s.servePrevious g r t off) := by
  unfold State.servePrevious
  split
  · exact .refl
  · next sb _ =>
    refine Evolves.trans (.modifyTap_calm ?_ ?_ ?_) (.servePlan ..)
    · exact fun _ h => h
    · exact fun _ => rfl
    · exact fun _ => rfl

theorem TapFits.stepError : TapFits Tap.stepError :=
  ⟨fun x h => TapFits.countStepError.counts x h, fun x => TapFits.countStepError.acc x, fun x => TapFits.countStepError.dt x⟩

theorem Evolves.tapRead (s : State) (g : Geometry) (r : LinkRequest) (t : Fin 4) (j off : Nat) : Evolves s (s.tapRead g r t j off) := by
  unfold State.tapRead
  split
  · exact .servePlan ..
  · exact .serveCurrent ..
  · exact .servePrevious ..
  · exact (Evolves.advance ..).trans (.serveCurrent ..)
  · exact (Evolves.modifyTap .stepError).trans (.servePlan ..)

theorem Evolves.takePart (s : State) (m : MRequest) (r : LinkResponse) (tag : Fin 64) (seg : Nat) (part : PartData) :
    Evolves s (s.takePart m r tag seg part) :=
  ((Evolves.withLink (s := s) (l := (s.dropOutstanding m.tag).link) rfl).trans (.lowerOutstanding _ seg)).trans (.modifyFlight ..)

theorem Evolves.faultOn (s : State) (seg : Nat) (r : LinkStatus) : Evolves s (s.faultOn seg r) := by
  unfold State.faultOn
  split
  · exact (Evolves.countFault ..).trans (.settle _)
  · exact .refl

theorem Tap.segmentAnswered_eq (x : Tap) (tag : Fin 64) (base : Nat) (r : LinkStatus) (data : List Byte) :
    x.segmentAnswered tag base r data =
      { x with
        current := x.current.map fun b => (b.answered tag base r data).1
        previous := x.previous.map fun b => (b.answered tag base r data).1
        latch := (x.segmentAnswered tag base r data).latch } := by
  unfold Tap.segmentAnswered
  dsimp only
  rw [Option.map_map, Option.map_map]
  split
  · rfl
  · rfl

theorem TapFits.segmentAnswered (tag : Fin 64) (base : Nat) (r : LinkStatus) (data : List Byte) :
    TapFits fun x => x.segmentAnswered tag base r data := by
  refine ⟨fun x h => ?_, fun x => Nat.le_of_eq ?_, fun x => ?_⟩ <;> rw [Tap.segmentAnswered_eq]
  exact h

/-! ### Pattern run and panel -/

theorem Evolves.issuePattern (s : State) (m : MRequest) (r : PatternRun) : Evolves s (s.issuePattern m r) :=
  ((Evolves.withLink (l := { s.link with outstanding := s.link.outstanding ++ [m] }) rfl).trans (.setPattern ..)).trans (.raiseOutstanding ..)

theorem Evolves.countFailure (s : State) :
    Evolves s { s with pool := { s.pool with patternFailures := bump Config.countMax s.pool.patternFailures } } :=
  .aside ⟨id, rfl, rfl, rfl, rfl, rfl, rfl, rfl, id, id, fun _ => bump_le ..⟩

theorem Evolves.verdict (s : State) (r : PatternRun) : Evolves s (s.verdict r) := by
  have hfaults : Evolves s (s.modifySeg r.cursor fun g => { g with faults := s.store.config.faultThreshold }) :=
    .modifySeg _ _ fun _ => ⟨fun h _ => h, fun h => h⟩
  unfold State.verdict
  exact .ite (((hfaults.trans (.retire ..)).trans (.countFailure _)).trans (.takeTestable ..)) ((Evolves.freeSeg ..).trans (.takeTestable ..))

theorem Evolves.dropOutstanding (s : State) (t : Fin 128) : Evolves s (s.dropOutstanding t) := .withLink rfl

theorem Evolves.patternAnswer (s : State) (g : Geometry) (r : PatternRun) (m : MRequest) (a : LinkResponse) :
    Evolves s (s.patternAnswer g r m a) := by
  have h : Evolves s (((s.dropOutstanding m.tag).lowerFor m.use).setPattern (some (r.takeAnswer m a))) :=
    ((Evolves.dropOutstanding ..).trans (.lowerFor ..)).trans (.setPattern ..)
  unfold State.patternAnswer
  exact .ite ((h.trans (.verdict ..)).trans (.settle _)) h

theorem Evolves.setLine (s : State) (l : PanelLine) (x : LineState) : Evolves s (s.setLine l x) := .withPanel ..

theorem Evolves.setPanelTargets {s : State} {dt : TapSettings → Nat} (h : ∀ w, dt w ≤ w.de) : Evolves s (s.setPanelTargets dt) :=
  .foldl (f := fun s t => s.modifyTap t fun x => { x with dt := dt (s.settings t) })
    (fun _ _ => .setTap (fun h => h) (fun k => k.2.2.2) fun _ k => Nat.le_trans (h _) k) _ s

/-! ### Resets and the load -/

theorem Evolves.resetLink (s : State) : Evolves s s.resetLink := by
  unfold State.resetLink
  exact (Evolves.foldl (fun s (r : MRequest) => .lowerFor s r.use) ..).trans (.withLink rfl)

theorem Evolves.resetCapture (s : State) : Evolves s s.resetCapture := by
  unfold State.resetCapture
  refine (Evolves.foldl (fun s (c : Context) => ?_) s.capture.contexts s).trans (.withCapture ..)
  split
  · exact .freeSeg ..
  · exact .refl

theorem Evolves.resetPattern (s : State) : Evolves s s.resetPattern := by
  unfold State.resetPattern
  split
  · exact .refl
  · exact (Evolves.freeSeg ..).trans (.setPattern ..)

theorem Evolves.dropPins (s : State) : Evolves s s.dropPins := by
  refine .single (.segments s _ ?_)
  exact .map fun _ _ => ⟨fun _ h => h, fun h => h⟩

theorem Evolves.handOverAtReset (s : State) (r : SegmentRecord) : Evolves s (s.handOverAtReset r) := by
  unfold State.handOverAtReset
  exact .ite (.freeSeg ..) (.offer ..)

theorem Evolves.resetTimeline (s : State) : Evolves s s.resetTimeline := by
  unfold State.resetTimeline
  exact (Evolves.foldl (fun s r => .handOverAtReset s r) ..).trans (.withTimeline ..)

theorem TapFits.reset : TapFits Tap.reset := by
  refine ⟨fun x _ => ?_, fun _ => Nat.zero_le _, fun _ => rfl⟩
  exact ⟨Nat.zero_le _, Nat.zero_le _, Nat.zero_le _, Nat.zero_le _, Nat.le_refl _, Nat.zero_le _, Nat.zero_le _⟩

theorem Evolves.linkReset (s : State) : Evolves s s.linkReset := by
  have h : Evolves s s.resetLink.resetCapture.resetPattern.dropPins.resetTimeline :=
    ((((Evolves.resetLink s).trans (.resetCapture _)).trans (.resetPattern _)).trans (.dropPins _)).trans (.resetTimeline _)
  have hedits (u : State) : Evolves u { u with edits := [] } := .withEdits (.sublist (List.nil_sublist _))
  have htaps (u : State) : Evolves u { u with taps := u.taps.map Tap.reset } := .single (.allTaps u _ .reset)
  unfold State.linkReset
  exact (((h.trans (hedits _)).trans (htaps _)).trans (.withGuard (Nat.zero_le _))).trans (.refreshTally _)

/-- The settings of a configuration that the laws speak of are in their ranges. -/
structure ConfigFits (c : WorkingConfig) : Prop where
  threshold : c.faultThreshold ≤ 7
  pacers : ∀ i, 2 ≤ (c.taps.get i).p ∧ (c.taps.get i).p ≤ 4095 ∧ (c.taps.get i).k ≤ (c.taps.get i).p / 2

theorem defaultConfig_taps_get (a i : Fin 4) : (defaultConfig a).taps.get i = defaultTapSettings := by
  match i with
  | 0 => rfl
  | 1 => rfl
  | 2 => rfl
  | 3 => rfl

theorem ConfigFits.default (a : Fin 4) : ConfigFits (defaultConfig a) := by
  refine ⟨by show 2 ≤ 7; decide, fun i => ?_⟩
  rw [defaultConfig_taps_get]
  decide

theorem parseTapRecord_fits (bs : List Byte) :
    2 ≤ (parseTapRecord bs).p ∧ (parseTapRecord bs).p ≤ 4095 ∧ (parseTapRecord bs).k ≤ (parseTapRecord bs).p / 2 :=
  ⟨clampTo_ge _, clampTo_le _ (by decide), Nat.min_le_right ..⟩

theorem ConfigFits.parse {bs : List Byte} {c : WorkingConfig} {hard : List Nat} (h : parseRecord bs = some (c, hard)) : ConfigFits c := by
  unfold parseRecord at h
  split at h
  · cases h
    refine ⟨clampTo_le _ (by decide), fun i => ?_⟩
    match i with
    | 0 => exact parseTapRecord_fits _
    | 1 => exact parseTapRecord_fits _
    | 2 => exact parseTapRecord_fits _
    | 3 => exact parseTapRecord_fits _
  · cases h

/-- The four taps have taken the delays of a configuration (R182, step 3). -/
def State.takeDelays (s : State) : State := tapIds.foldl State.takeDelay s

theorem Evolves.takeDelay (s : State) (t : Fin 4) : Evolves s (s.takeDelay t) :=
  .setControl (i := t) ⟨fun h => h, fun h => h, fun _ _ => ⟨Nat.min_le_right .., Nat.min_le_right ..⟩⟩

theorem Evolves.takeDelays (s : State) : Evolves s s.takeDelays := .foldl (fun s t => .takeDelay s t) _ s

/-- `State.delaysBounded` at one tap. -/
def State.delayBounded (s : State) (i : Fin 4) : Prop := (s.tap i).dt ≤ s.dmax ∧ (s.settings i).de ≤ s.dmax

theorem State.takeDelay_delayBounded {s : State} {t i : Fin 4} (h : i = t ∨ s.delayBounded i) : (s.takeDelay t).delayBounded i := by
  have hdmax : (s.takeDelay t).dmax = s.dmax := rfl
  have hcontrol : s.takeDelay t =
      s.setControl t { s.settings t with de := min (s.settings t).de s.dmax } { s.tap t with dt := min (s.settings t).de s.dmax } := rfl
  unfold State.delayBounded at h ⊢
  rw [hdmax, hcontrol, State.setControl_tap_get, State.setControl_settings_get]
  split
  · exact ⟨Nat.min_le_right .., Nat.min_le_right ..⟩
  · next hne => exact h.resolve_left hne

theorem foldl_takeDelay_delayBounded {i : Fin 4} (l : List (Fin 4)) {s : State} (h : i ∈ l ∨ s.delayBounded i) :
    (l.foldl State.takeDelay s).delayBounded i := by
  induction l generalizing s with
  | nil => exact h.resolve_left List.not_mem_nil
  | cons t l ih =>
    refine ih ?_
    obtain h | h := h
    · obtain rfl | h := List.mem_cons.mp h
      · exact .inr (State.takeDelay_delayBounded (.inl rfl))
      · exact .inl h
    · exact .inr (State.takeDelay_delayBounded (.inr h))

theorem mem_tapIds (i : Fin 4) : i ∈ tapIds := by revert i; decide

theorem State.takeDelays_delaysBounded (s : State) : s.takeDelays.delaysBounded :=
  fun i => foldl_takeDelay_delayBounded tapIds (.inl (mem_tapIds i))

theorem Evolves.startTap (s : State) (t : Fin 4) : Evolves s (s.startTap t) := by
  unfold State.startTap; exact .ite (.tapOn ..) .refl

/-- The end of a load once the configuration has been taken and the delays set: the taps start, the quarantine's lock is set, and the rest
follows. -/
theorem State.finishLoad_evolves (s : State) (c : WorkingConfig) (hard : List Nat) (invalid : Bool) :
    ∃ u l, Evolves (s.takeConfig c hard).takeDelays u ∧
      Evolves { u with quarantine := { u.quarantine with lock := l } } (s.finishLoad c hard invalid) := by
  refine ⟨tapIds.foldl State.startTap (s.takeConfig c hard).takeDelays, if c.lockAtStart then .locked else .unlocked,
    .foldl (fun s t => .startTap s t) _ _, ?_⟩
  have hrest (v : State) :
      Evolves v
        { v with
          startUp := { v.startUp with phase := .running }
          panel := v.panel.begin
          store := { v.store with invalid := invalid } } :=
    .aside ⟨fun _ => rfl, rfl, rfl, rfl, rfl, rfl, rfl, rfl, id, id, id⟩
  unfold State.finishLoad
  exact ((hrest _).trans (.raiseUnless ..)).trans (.refreshTally _)

/-- `s` with other start-up signals and other contents of the serial memory: what a load meets once its store read has ended. -/
def State.atLoadEnd (s : State) (u : StartUp) (contents : List Byte) : State :=
  { s with startUp := u, store := { s.store with contents := contents } }

theorem Aside.atLoadEnd {s : State} (hphase : s.startUp.phase ≠ .running) (u : StartUp) (contents : List Byte) :
    Aside s (s.atLoadEnd u contents) :=
  ⟨fun h => absurd h hphase, rfl, rfl, rfl, rfl, rfl, rfl, rfl, id, id, id⟩

/-- `t` is what the end of a load makes of a state that differs from `s` at most in its start-up signals and what the store holds. -/
def State.LoadsTo (s t : State) : Prop :=
  s.startUp.phase ≠ .running ∧ ∃ u contents c hard invalid, ConfigFits c ∧ t = (s.atLoadEnd u contents).finishLoad c hard invalid

theorem State.LoadsTo.endLoad {s s1 : State} {u : StartUp} {contents : List Byte} {record : Option (WorkingConfig × List Nat)}
    (hphase : s.startUp.phase ≠ .running) (hs1 : s1 = s.atLoadEnd u contents) (h : ∀ c hard, record = some (c, hard) → ConfigFits c) :
    s.LoadsTo (s1.endLoad record) := by
  subst hs1
  unfold State.endLoad
  split
  · next c hard => exact ⟨hphase, u, contents, c, hard, false, h c hard rfl, rfl⟩
  · exact ⟨hphase, u, contents, _, [], true, .default _, rfl⟩

end Sys2Proof.Machine

/-! SUPPORT. What each command answers when it completes: one form per case of its meaning. The laws that every step keeps are proved
over these forms. -/

namespace Sys2Proof.Machine

theorem State.unanswered_eq_next {s t : State} {r : LinkResponse} (h : s.unanswered r = .next t) : t = s := by
  unfold State.unanswered at h
  split at h
  · cases h; rfl
  · split at h <;> cases h

/-- The states a command can answer with when it is executed in `s`, one form per case of its meaning. -/
inductive Effect (s : State) : Instr → State → Prop
  | idle (c : Instr) : Effect s c s
  | powerOn : Effect s .powerOnReset s.powerOn
  | startLoad (straps : Straps) (hphase : s.startUp.phase = .resetHeld) :
      Effect s (.storeLoadStart straps) { s with startUp := { s.startUp with phase := .loading, straps := straps } }
  | endLoad (c : Instr) (t : State) (h : s.LoadsTo t) : Effect s c t
  | linkReset : Effect s .linkReset ({ s with startUp := { s.startUp with lrstAsserted := true } }).linkReset
  | linkResetEnd : Effect s .linkResetEnd { s with startUp := { s.startUp with lrstAsserted := false } }
  | accept (r : LinkRequest) : Effect s (.pRequestAccept r) (s.meetRequest r)
  | header {g : Geometry} {f : InFlight} {k : Nat} (tag : Fin 64) (h : s.captureWrite tag = some (g, f, k, 0)) :
      Effect s (.headerWriteArrival tag) (s.headerWrite g f k).refreshTally
  | payload {g : Geometry} {f : InFlight} {k off : Nat} (tag : Fin 64) (h : s.captureWrite tag = some (g, f, k, off)) (hoff : off ≠ 0) :
      Effect s (.payloadWriteArrival tag) (s.payloadWrite g f k off)
  | tapRead {g : Geometry} {f : InFlight} {i : Fin 4} {j : Nat} (tag : Fin 64) (hg : s.link.geometry = some g)
      (h : s.arriving tag .tap = some f) (hw : windowOf (g.slotOf f.req.addr) = .tap i j) :
      Effect s (.tapReadArrival tag) (s.tapRead g f.req i j (g.offsetOf f.req.addr)).refreshTally
  | reviewRead {g : Geometry} {f : InFlight} {j : Nat} (tag : Fin 64) (hg : s.link.geometry = some g)
      (h : s.arriving tag .review = some f) (hw : windowOf (g.slotOf f.req.addr) = .review j) :
      Effect s (.reviewReadArrival tag)
        (s.servePlan tag g (s.reviewPlan j (g.offsetOf f.req.addr) f.req.length) fun r => .reviewPart tag r.phys r.base)
  | issue {r : MRequest} (tag : Fin 128) (h : s.link.planned.find? (fun r => r.tag == tag) = some r) :
      Effect s (.mSideIssue tag) (s.issue r)
  | holdOff (holding : Bool) : Effect s (.mSideHoldOffChange holding) { s with link := { s.link with mHoldOff := holding } }
  | passAnswer {m : MRequest} (r : LinkResponse) (h : s.answers r = some m) (huse : m.use = .pass) :
      Effect s (.passResponse r) (s.returnForwarded m r)
  | captureAnswer {m : MRequest} {p : Nat} (r : LinkResponse) (h : s.answers r = some m) (huse : m.use = .captureWrite p) :
      Effect s (.captureWriteResponse r) (((s.returnForwarded m r).lowerOutstanding p).captureAnswer p r.status).refreshTally
  | segmentAnswer {m : MRequest} {tag : Fin 64} {i : Fin 4} {seg base : Nat} (r : LinkResponse) (h : s.answers r = some m)
      (huse : m.use = .tapSegment tag i seg base) :
      Effect s (.tapSegmentPartResponse r)
        ((((s.takePart m r tag seg ⟨false, base, r.data⟩).modifyTap i fun x => x.segmentAnswered tag base r.status r.data).faultOn seg
          r.status).refreshTally)
  | maskAnswer {m : MRequest} {tag : Fin 64} {seg base lo hi : Nat} (r : LinkResponse) (h : s.answers r = some m)
      (huse : m.use = .maskPart tag seg base lo hi) :
      Effect s (.maskPartResponse r) ((s.takePart m r tag seg ⟨true, lo, slice r.data base lo hi⟩).faultOn seg r.status).refreshTally
  | reviewAnswer {m : MRequest} {tag : Fin 64} {seg base : Nat} (r : LinkResponse) (h : s.answers r = some m)
      (huse : m.use = .reviewPart tag seg base) :
      Effect s (.reviewPartResponse r) ((s.takePart m r tag seg ⟨false, base, r.data⟩).faultOn seg r.status).refreshTally
  | patternAnswer {m : MRequest} {run : PatternRun} {g : Geometry} (r : LinkResponse) (h : s.answers r = some m)
      (huse : m.use.ofPattern = true) (hrun : s.pool.pattern = some run) (hg : s.link.geometry = some g) :
      Effect s (.patternResponse r) (s.patternAnswer g run m r).refreshTally
  | patternIssue {run run' : PatternRun} {g : Geometry} {m : MRequest} (hrun : s.pool.pattern = some run) (hg : s.link.geometry = some g)
      (hmay : s.patternMayIssue = true) (h : s.freeTags.head?.bind (run.nextRequest g) = some (m, run')) :
      Effect s .patternRequestIssue (s.issuePattern m run')
  | drained {m : MRequest} (r : LinkResponse) (h : s.outstandingUnder r.tag = some m) (hdraining : m.draining = true) :
      Effect s (.drainedResponse r) (((s.dropOutstanding m.tag).lowerFor m.use).releaseDrained m)
  | reply {f : InFlight} {reply : Reply} (tag : Fin 64) (h : s.entry tag = some f) (hphase : f.phase = .ready) (hreply : f.reply = some reply) :
      Effect s (.responseReturn tag) (s.returnReply tag f reply)
  | lineMoves (l : PanelLine) (pressed : Bool) :
      Effect s (.panelLineChange l pressed) (s.setLine l { s.line l with raw := pressed, interval := s.running })
  | lineTaken (c : Instr) (l : PanelLine) : Effect s c (s.takeLine l)
  | dump (h : s.canTake .dump true = true) : Effect s .dumpPress (s.takeLine .dump).dump.refreshTally
  | openMask (h : s.canTake .mask true = true) : Effect s .maskPress (s.takeLine .mask).openMask.refreshTally
  | closeMask (h : s.canTake .mask false = true) : Effect s .maskRelease (s.takeLine .mask).closeMask.refreshTally
  | enter (h : s.canTake .enter true = true) : Effect s .enterPress ((s.takeLine .enter).setPanelTargets (·.de)).refreshTally
  | exit (h : s.canTake .exit true = true) : Effect s .exitPress ((s.takeLine .exit).setPanelTargets fun _ => 0).refreshTally
  | blink : Effect s .buildBlinkToggle { s with panel := { s.panel with blink := !s.panel.blink } }
  | storePage {w : StoreWrite} (h : s.store.write = some w) :
      Effect s .storePageComplete
        { s with store := { s.store with
            contents := writePage s.store.contents w.record w.page, write := some { w with page := w.page + 1 } } }
  | storeDone {w : StoreWrite} (h : s.store.write = some w) :
      Effect s .storePageComplete
        (({ s with store := { s.store with contents := writePage s.store.contents w.record w.page, write := none } }).raiseAll .storeDone)
  | storeTimeout {w : StoreWrite} (h : s.store.write = some w) :
      Effect s .storeTimeout (({ s with store := { s.store with write := none } }).raiseAll .storeTimeout)

theorem Aside.refl (s : State) : Aside s s := ⟨id, rfl, rfl, rfl, rfl, rfl, rfl, rfl, id, id, id⟩

theorem exec_storeLoadStart_effect {straps : Straps} {s t : State} (h : execStoreLoadStart straps s = .next t) :
    Effect s (.storeLoadStart straps) t := by
  unfold execStoreLoadStart at h
  split at h
  · next hphase =>
    dsimp only at h
    split at h
    · cases h; exact .startLoad straps hphase
    · cases h
      have hnot : s.startUp.phase ≠ .running := by rw [hphase]; exact fun k => StartPhase.noConfusion k
      exact .endLoad _ _
        ⟨hnot, { s.startUp with phase := .loading, straps := straps }, s.store.contents, defaultConfig straps.apsel, [], false, .default _, rfl⟩
  · cases h
  · cases h

theorem exec_storeLoadEnd_effect {reply : StoreReply} {s t : State} (h : execStoreLoadEnd reply s = .next t) :
    Effect s (.storeLoadEnd reply) t := by
  unfold execStoreLoadEnd at h
  split at h
  · next hphase =>
    split at h
    · cases h
      have hanswers : ∃ contents, s.storeAnswers reply = s.atLoadEnd s.startUp contents := by
        cases reply with
        | noAck | stored => exact ⟨s.store.contents, rfl⟩
        | holding bytes => exact ⟨bytes, rfl⟩
      obtain ⟨contents, hcontents⟩ := hanswers
      refine .endLoad _ _ (.endLoad (by rw [hphase]; exact fun k => StartPhase.noConfusion k) hcontents fun c hard hrec => ?_)
      split at hrec
      · cases hrec
      · exact .parse hrec
    · cases h
  · cases h
  · cases h

theorem exec_tporExpiry_effect {s t : State} (h : execTporExpiry s = .next t) : Effect s .tporExpiry t := by
  unfold execTporExpiry at h
  split at h
  · next hphase =>
    have hload : s.LoadsTo (s.endLoad none) :=
      .endLoad (record := none) (by rw [hphase]; exact fun k => StartPhase.noConfusion k) (u := s.startUp) (contents := s.store.contents) rfl
        fun _ _ k => by cases k
    cases h
    exact .endLoad _ _ hload
  · cases h; exact .idle _
  · cases h

/-- The forms of `Effect` are all a completed command can answer with. -/
theorem exec_effect {c : Instr} {s t : State} (h : exec c s = .next t) : Effect s c t := by
  cases c with
  | powerOnReset => cases h; exact .powerOn
  | storeLoadStart straps => exact exec_storeLoadStart_effect h
  | storeLoadEnd reply => exact exec_storeLoadEnd_effect h
  | tporExpiry => exact exec_tporExpiry_effect h
  | linkReset =>
    have h : execLinkReset s = .next t := h
    unfold execLinkReset at h
    split at h
    · cases h
    · cases h; exact .linkReset
  | linkResetEnd =>
    have h : execLinkResetEnd s = .next t := h
    unfold execLinkResetEnd at h
    split at h
    · cases h; exact .linkResetEnd
    · cases h
  | pRequestAccept r =>
    have h : execPRequestAccept r s = .next t := h
    unfold execPRequestAccept at h
    split at h
    · split at h
      · cases h; exact .accept r
      · split at h
        · cases h; exact .accept r
        · cases h; exact .idle _
    · cases h
  | headerWriteArrival tag =>
    have h : execHeaderWriteArrival tag s = .next t := h
    unfold execHeaderWriteArrival at h
    split at h
    · cases h
    · next hw =>
      split at h
      · next hoff => cases h; exact .header tag (hoff ▸ hw)
      · cases h
  | payloadWriteArrival tag =>
    have h : execPayloadWriteArrival tag s = .next t := h
    unfold execPayloadWriteArrival at h
    split at h
    · cases h
    · next hw =>
      split at h
      · cases h
      · next hoff => cases h; exact .payload tag hw hoff
  | tapReadArrival tag =>
    have h : execTapReadArrival tag s = .next t := h
    unfold execTapReadArrival at h
    split at h
    · next hg hf =>
      split at h
      · next hw => cases h; exact .tapRead tag hg hf hw
      · cases h
    · cases h
  | reviewReadArrival tag =>
    have h : execReviewReadArrival tag s = .next t := h
    unfold execReviewReadArrival at h
    split at h
    · next hg hf =>
      split at h
      · next hw => cases h; exact .reviewRead tag hg hf hw
      · cases h
    · cases h
  | mSideIssue tag =>
    have h : execMSideIssue tag s = .next t := h
    unfold execMSideIssue at h
    split at h
    · cases h
    · next hfind =>
      split at h
      · cases h; exact .idle _
      · cases h; exact .issue tag hfind
  | mSideHoldOffChange holding => cases h; exact .holdOff holding
  | passResponse r =>
    have h : execPassResponse r s = .next t := h
    unfold execPassResponse at h
    split at h
    · exact State.unanswered_eq_next h ▸ .idle _
    · next hm =>
      split at h
      · next huse => cases h; exact .passAnswer r hm huse
      · cases h
  | captureWriteResponse r =>
    have h : execCaptureWriteResponse r s = .next t := h
    unfold execCaptureWriteResponse at h
    split at h
    · exact State.unanswered_eq_next h ▸ .idle _
    · next hm =>
      split at h
      · next huse => cases h; exact .captureAnswer r hm huse
      · cases h
  | tapSegmentPartResponse r =>
    have h : execTapSegmentPartResponse r s = .next t := h
    unfold execTapSegmentPartResponse at h
    split at h
    · exact State.unanswered_eq_next h ▸ .idle _
    · next hm =>
      split at h
      · next huse => cases h; exact .segmentAnswer r hm huse
      · cases h
  | maskPartResponse r =>
    have h : execMaskPartResponse r s = .next t := h
    unfold execMaskPartResponse at h
    split at h
    · exact State.unanswered_eq_next h ▸ .idle _
    · next hm =>
      split at h
      · next huse => cases h; exact .maskAnswer r hm huse
      · cases h
  | reviewPartResponse r =>
    have h : execReviewPartResponse r s = .next t := h
    unfold execReviewPartResponse at h
    split at h
    · exact State.unanswered_eq_next h ▸ .idle _
    · next hm =>
      split at h
      · next huse => cases h; exact .reviewAnswer r hm huse
      · cases h
  | patternResponse r =>
    have h : execPatternResponse r s = .next t := h
    unfold execPatternResponse at h
    split at h
    · exact State.unanswered_eq_next h ▸ .idle _
    · next hm =>
      split at h
      · next huse =>
        split at h
        · next hrun hg => cases h; exact .patternAnswer r hm huse hrun hg
        · cases h
      · cases h
  | patternRequestIssue =>
    have h : execPatternRequestIssue s = .next t := h
    unfold execPatternRequestIssue at h
    split at h
    · next hrun hg =>
      split at h
      · next hmay =>
        split at h
        · next hnext => cases h; exact .patternIssue hrun hg hmay hnext
        · cases h; exact .idle _
      · cases h; exact .idle _
    · cases h
  | drainedResponse r =>
    have h : execDrainedResponse r s = .next t := h
    unfold execDrainedResponse at h
    split at h
    · cases h; exact .idle _
    · next hm =>
      split at h
      · next hdraining => cases h; exact .drained r hm hdraining
      · cases h
  | unknownTagResponse r =>
    have h : execUnknownTagResponse r s = .next t := h
    unfold execUnknownTagResponse at h
    split at h
    · cases h; exact .idle _
    · cases h
  | responseReturn tag =>
    have h : execResponseReturn tag s = .next t := h
    unfold execResponseReturn at h
    split at h
    · cases h
    · next hf =>
      split at h
      · next hphase hreply =>
        split at h
        · cases h; exact .idle _
        · cases h; exact .reply tag hf hphase hreply
      · cases h
  | panelLineChange l pressed =>
    have h : execPanelLineChange l pressed s = .next t := h
    unfold execPanelLineChange at h
    split at h
    · cases h; exact .idle _
    · cases h; exact .lineMoves l pressed
  | panelInitialState l =>
    have h : execPanelInitialState l s = .next t := h
    unfold execPanelInitialState at h
    split at h
    · cases h; exact .lineTaken _ l
    · cases h
  | dumpPress =>
    have h : execDumpPress s = .next t := h
    unfold execDumpPress at h
    split at h
    · next htake => cases h; exact .dump htake
    · cases h
  | maskPress =>
    have h : execMaskPress s = .next t := h
    unfold execMaskPress at h
    split at h
    · next htake => cases h; exact .openMask htake
    · cases h
  | maskRelease =>
    have h : execMaskRelease s = .next t := h
    unfold execMaskRelease at h
    split at h
    · next htake => cases h; exact .closeMask htake
    · cases h
  | enterPress =>
    have h : execEnterPress s = .next t := h
    unfold execEnterPress at h
    split at h
    · next htake => cases h; exact .enter htake
    · cases h
  | exitPress =>
    have h : execExitPress s = .next t := h
    unfold execExitPress at h
    split at h
    · next htake => cases h; exact .exit htake
    · cases h
  | panelRelease l =>
    have h : execPanelRelease l s = .next t := h
    unfold execPanelRelease at h
    split at h
    · cases h
    · split at h
      · cases h; exact .lineTaken _ l
      · cases h
  | buildBlinkToggle => cases h; exact .blink
  | storePageComplete =>
    have h : execStorePageComplete s = .next t := h
    unfold execStorePageComplete at h
    split at h
    · cases h
    · next hw =>
      dsimp only at h
      split at h
      · cases h; exact .storePage hw
      · cases h; exact .storeDone hw
  | storeTimeout =>
    have h : execStoreTimeout s = .next t := h
    unfold execStoreTimeout at h
    split at h
    · cases h
    · next hw => cases h; exact .storeTimeout hw

/-- A completed command is a chain of changes, the power-on state, or what the end of a load makes. -/
theorem Effect.evolves {c : Instr} {s t : State} (h : Effect s c t) : Evolves s t ∨ (c = .powerOnReset ∧ t = s.powerOn) ∨ s.LoadsTo t := by
  cases h with
  | idle => exact .inl .refl
  | powerOn => exact .inr (.inl ⟨rfl, rfl⟩)
  | endLoad _ _ h => exact .inr (.inr h)
  | startLoad straps hphase => exact .inl (.withStartUp fun k => by rw [hphase] at k; cases k)
  | linkReset => exact .inl ((Evolves.withStartUp (u := { s.startUp with lrstAsserted := true }) id).trans (.linkReset _))
  | linkResetEnd => exact .inl (.withStartUp id)
  | accept => exact .inl (.meetRequest ..)
  | header => exact .inl ((Evolves.headerWrite ..).trans (.refreshTally _))
  | payload => exact .inl (.payloadWrite ..)
  | tapRead => exact .inl ((Evolves.tapRead ..).trans (.refreshTally _))
  | reviewRead => exact .inl (.servePlan ..)
  | issue => exact .inl (.withLink rfl)
  | holdOff => exact .inl (.withLink rfl)
  | passAnswer => exact .inl (.returnForwarded ..)
  | captureAnswer =>
    exact .inl ((((Evolves.returnForwarded ..).trans (.lowerOutstanding ..)).trans (.captureAnswer ..)).trans (.refreshTally _))
  | segmentAnswer =>
    exact .inl ((((Evolves.takePart ..).trans (.modifyTap (.segmentAnswered ..))).trans (.faultOn ..)).trans (.refreshTally _))
  | maskAnswer => exact .inl (((Evolves.takePart ..).trans (.faultOn ..)).trans (.refreshTally _))
  | reviewAnswer => exact .inl (((Evolves.takePart ..).trans (.faultOn ..)).trans (.refreshTally _))
  | patternAnswer => exact .inl ((Evolves.patternAnswer ..).trans (.refreshTally _))
  | patternIssue => exact .inl (.issuePattern ..)
  | drained => exact .inl (((Evolves.dropOutstanding ..).trans (.lowerFor ..)).trans (.withLink rfl))
  | reply => exact .inl (.returnReply ..)
  | lineMoves => exact .inl (.setLine ..)
  | lineTaken => exact .inl (.setLine ..)
  | dump => exact .inl (((Evolves.setLine ..).trans (.dump _)).trans (.refreshTally _))
  | openMask => exact .inl (((Evolves.setLine ..).trans (.openMask _)).trans (.refreshTally _))
  | closeMask => exact .inl (((Evolves.setLine ..).trans (.closeMask _)).trans (.refreshTally _))
  | enter => exact .inl (((Evolves.setLine ..).trans (.setPanelTargets fun _ => Nat.le_refl _)).trans (.refreshTally _))
  | exit => exact .inl (((Evolves.setLine ..).trans (.setPanelTargets fun _ => Nat.zero_le _)).trans (.refreshTally _))
  | blink => exact .inl (.withPanel ..)
  | storePage => exact .inl (.withStore rfl)
  | storeDone => exact .inl ((Evolves.withStore (u := { s.store with contents := _, write := none }) rfl).trans (.raiseAll ..))
  | storeTimeout => exact .inl ((Evolves.withStore (u := { s.store with write := none }) rfl).trans (.raiseAll ..))

theorem exec_evolves {c : Instr} {s t : State} (h : exec c s = .next t) :
    Evolves s t ∨ (c = .powerOnReset ∧ t = s.powerOn) ∨ s.LoadsTo t := (exec_effect h).evolves

/-- A law of taps, segments, quarantine and edits that every kind of change keeps, the power-on state meets and a configuration taken at the
end of the load brings back, is kept by every step. -/
theorem step_keeps {P : State → Prop} (hchange : ∀ s t, Change s t → P s → P t) (hlock : ∀ (s : State) (l : LockState),
      P s → P { s with quarantine := { s.quarantine with lock := l } }) (hpower : ∀ s : State, P s.powerOn) {s t : State}
    (hload : ∀ s1 c hard, s.startUp.phase ≠ .running → Aside s s1 → ConfigFits c → P s1 → P (s1.takeConfig c hard).takeDelays)
    (hs : P s) (hstep : step s = .next t) : P t := by
  unfold step at hstep
  split at hstep
  · cases hstep; exact hs
  · next c rest _ =>
    have haside : Aside s { s with pending := rest } := ⟨id, rfl, rfl, rfl, rfl, rfl, rfl, rfl, id, id, id⟩
    have hs' : P { s with pending := rest } := hchange _ _ (.aside _ _ haside) hs
    obtain h | ⟨-, rfl⟩ | ⟨hphase, u, contents, c, hard, invalid, hc, rfl⟩ := exec_evolves hstep
    · exact h.keeps hchange hs'
    · exact hpower _
    · have hs1 := Aside.atLoadEnd (s := { s with pending := rest }) hphase u contents
      have h1 : P (State.atLoadEnd { s with pending := rest } u contents) := hchange _ _ (.aside _ _ hs1) hs'
      obtain ⟨v, l, hv, ht⟩ := (State.atLoadEnd { s with pending := rest } u contents).finishLoad_evolves c hard invalid
      exact ht.keeps hchange (hlock _ _ (hv.keeps hchange (hload _ c hard hphase ⟨fun h => absurd h hphase, rfl, rfl, rfl, rfl, rfl, rfl, rfl, id, id, id⟩ hc h1)))

end Sys2Proof.Machine

/-! SUPPORT. The laws that every kind of change keeps: the quarantine's capacity and its FROZEN records, the edit list, the delays, the
pacers, the counts and the geometry (R5, R81 to R99, R130, R132, R144, R148, R174, R175). -/

namespace Sys2Proof.Machine

/-! ### What a retirement leaves -/

theorem State.retire_tap (s : State) (p : Nat) (i : Fin 4) :
    (s.retire p).tap i =
      { s.tap i with
        dt := ((s.retire p).tap i).dt, clampFlag := ((s.retire p).tap i).clampFlag, latch := ((s.retire p).tap i).latch } :=
  (Clamped.retire s p).tap i

theorem State.retire_settings (s : State) (p : Nat) (i : Fin 4) :
    (s.retire p).settings i = { s.settings i with de := ((s.retire p).settings i).de } :=
  (Clamped.retire s p).settings i

theorem State.retire_edits (s : State) (p : Nat) : (s.retire p).edits = s.edits := by rw [(Clamped.retire s p).rest]; rfl

theorem State.retire_segs (s : State) (p : Nat) : (s.retire p).pool.segs = s.pool.segs.modify p fun g => { g with state := .retired } := by
  rw [(Clamped.retire s p).rest]; rfl

/-! ### The quarantine (R144, R148) -/

theorem Change.quarantineFits {s t : State} (h : Change s t) (hs : s.quarantineFits) : t.quarantineFits := by
  cases h with
  | control | allTaps | segments | lock | edits => exact hs
  | retire p =>
    unfold State.quarantineFits
    rw [State.retire_quarantine, (Interior.retire s p).quarCap]
    exact hs
  | records rs hfits hfrozen => exact hfits hs
  | aside _ h =>
    unfold State.quarantineFits State.quarCap
    rw [h.quarantine, h.geometry]
    exact hs

/-- Settles O4: no change leaves more records than Q, and the load meets a list that is empty until then. -/
theorem quarantineStaysWithinQ : Obligations.QuarantineStaysWithinQ := by
  intro s t hquiet hs hstep
  refine step_keeps (fun _ _ => Change.quarantineFits) (fun _ _ h => h) (fun _ => Nat.zero_le _) (fun s1 c hard hphase hs1 _ _ => ?_) hs hstep
  obtain ⟨-, -, -, -, -, -, -, -, -, hrecords, -⟩ := hquiet hphase
  refine (Evolves.takeDelays _).keeps (fun _ _ => Change.quarantineFits) ?_
  show s1.quarantine.records.length ≤ c.geometry.q
  rw [hs1.quarantine, hrecords]
  exact Nat.zero_le _

/-- The quarantine is FROZEN and holds, from the first place on, the given records. -/
def State.frozenWith (rs : List SegmentRecord) (s : State) : Prop := s.quarantine.lock = .frozen ∧ rs <+: s.quarantine.records

theorem Change.frozenWith {rs : List SegmentRecord} {s t : State} (h : Change s t) (hs : s.frozenWith rs) : t.frozenWith rs := by
  obtain ⟨hlock, hprefix⟩ := hs
  cases h with
  | control | allTaps | segments | edits => exact ⟨hlock, hprefix⟩
  | retire p =>
    unfold State.frozenWith
    rw [State.retire_quarantine]
    exact ⟨hlock, hprefix⟩
  | records rs' _ hfrozen => exact ⟨hlock, hprefix.trans (hfrozen hlock)⟩
  | lock l h => exact ⟨h hlock, hprefix⟩
  | aside _ h =>
    unfold State.frozenWith
    rw [h.quarantine]
    exact ⟨hlock, hprefix⟩

/-- A step in a run, other than a power-on reset, is a chain of changes from the state with the queue's rest. -/
theorem step_evolves {c : Instr} {rest : List Instr} {s t : State} (hpending : s.pending = c :: rest) (hc : c ≠ .powerOnReset)
    (hrunning : s.startUp.phase = .running) (hstep : step s = .next t) : Evolves { s with pending := rest } t := by
  unfold step at hstep
  rw [hpending] at hstep
  obtain h | ⟨h, -⟩ | ⟨h, -⟩ := exec_evolves hstep
  · exact h
  · exact absurd h hc
  · exact absurd hrunning h

/-- Settles O6: while the list is FROZEN no change moves the lock or takes a record away. -/
theorem frozenQuarantineKeepsItsRecords : Obligations.FrozenQuarantineKeepsItsRecords := by
  intro c rest s t hpending hc hrunning hfrozen hstep
  obtain ⟨hlock, hprefix⟩ := (step_evolves hpending hc hrunning hstep).keeps (fun _ _ => Change.frozenWith (rs := s.quarantine.records))
    ⟨hfrozen, List.prefix_refl _⟩
  obtain ⟨new, hnew⟩ := hprefix
  exact ⟨hlock, new, hnew.symm⟩

/-! ### The edit list (R81 to R99) -/

theorem Change.editsNamed {s t : State} (h : Change s t) (hs : s.editsNamed) : t.editsNamed := by
  rw [State.editsNamed_iff] at hs ⊢
  cases h with
  | control | allTaps | segments | records | lock => exact hs
  | retire p => rw [State.retire_edits]; exact hs
  | edits es h => exact h.named hs
  | aside _ h => rw [h.edits]; exact hs

theorem Change.editsApart {s t : State} (h : Change s t) (hs : s.editsApart) : t.editsApart := by
  rw [State.editsApart_iff] at hs ⊢
  cases h with
  | control | allTaps | segments | records | lock => exact hs
  | retire p => rw [State.retire_edits]; exact hs
  | edits es h => exact h.apart hs
  | aside _ h => rw [h.edits]; exact hs

theorem editsNamed_nil : EditsNamed [] := ⟨Nat.zero_le _, List.nodup_nil, fun _ h => absurd h List.not_mem_nil⟩

theorem editsApart_nil : EditsApart [] := ⟨.nil, Nat.zero_le _, fun _ h => absurd h List.not_mem_nil⟩

/-- Settles O9: what an event puts in the place of the list keeps names and distances. -/
theorem editListStaysNamed : Obligations.EditListStaysNamed := by
  intro s t hstep
  constructor
  · intro hs
    exact step_keeps (fun _ _ => Change.editsNamed) (fun _ _ h => h) (fun _ => editsNamed_nil)
      (fun _ _ _ _ _ _ h => (Evolves.takeDelays _).keeps (fun _ _ => Change.editsNamed) h) hs hstep
  · intro hs
    exact step_keeps (fun _ _ => Change.editsApart) (fun _ _ h => h) (fun _ => editsApart_nil)
      (fun _ _ _ _ _ _ h => (Evolves.takeDelays _).keeps (fun _ _ => Change.editsApart) h) hs hstep

/-! ### Delays and pacers (R130, R132) -/

theorem State.dmax_le_of_fits {s : State} {l : List Segment} (h : Pointwise (SegmentFits s.store.config.faultThreshold) s.pool.segs l) :
    s.dmax ≤ State.dmax { s with pool := { s.pool with segs := l } } :=
  Nat.sub_le_sub_right (Nat.sub_le_sub_right (unretired_le_of_fits h) _) _

theorem Change.delaysBounded {s t : State} (h : Change s t) (hs : s.delaysBounded) : t.delaysBounded := by
  cases h with
  | control i w x h =>
    intro j
    rw [State.setControl_tap_get, State.setControl_settings_get]
    split
    · obtain ⟨hdt, hde⟩ := hs i
      exact h.delay hdt hde
    · exact hs j
  | allTaps f h =>
    intro j
    obtain ⟨hdt, hde⟩ := hs j
    have htap : (State.tap { s with taps := s.taps.map f } j).dt = (s.tap j).dt := by
      unfold State.tap
      rw [PerTap.get_map]
      exact h.dt _
    exact ⟨htap ▸ hdt, hde⟩
  | segments l h =>
    intro j
    obtain ⟨hdt, hde⟩ := hs j
    exact ⟨Nat.le_trans hdt (State.dmax_le_of_fits h), Nat.le_trans hde (State.dmax_le_of_fits h)⟩
  | retire p => exact State.retire_delaysBounded p hs
  | records | lock | edits => exact hs
  | aside _ h =>
    intro j
    have hdmax : t.dmax = s.dmax := by
      unfold State.dmax State.nEff State.quarCap
      rw [h.segs, h.geometry]
    unfold State.tap State.settings
    rw [hdmax, h.taps, h.settings]
    exact hs j

theorem powerOn_tap (s : State) (i : Fin 4) : s.powerOn.tap i = Tap.powerOn := by
  match i with
  | 0 => rfl
  | 1 => rfl
  | 2 => rfl
  | 3 => rfl

theorem powerOn_settings (s : State) (i : Fin 4) : s.powerOn.settings i = defaultTapSettings := defaultConfig_taps_get 0 i

/-- Settles O11: a change within the ceiling keeps the delays within it, a retirement clamps them, and the load sets them. -/
theorem delaysStayWithinDmax : Obligations.DelaysStayWithinDmax := by
  intro s t hs hstep
  refine step_keeps (fun _ _ => Change.delaysBounded) (fun _ _ h => h) (fun s i => ?_) (fun _ _ _ _ _ _ _ => State.takeDelays_delaysBounded _)
    hs hstep
  rw [powerOn_tap, powerOn_settings]
  exact ⟨Nat.zero_le _, Nat.zero_le _⟩

theorem Change.pacersInRange {s t : State} (h : Change s t) (hs : s.pacersInRange) : t.pacersInRange := by
  rw [State.pacersInRange_iff] at hs ⊢
  cases h with
  | control i w x h =>
    intro j
    rw [State.setControl_tap_get, State.setControl_settings_get]
    split
    · exact h.pacer (hs i)
    · exact hs j
  | allTaps f h =>
    intro j
    obtain ⟨hlow, hhigh, hk, hacc⟩ := hs j
    have htap : (State.tap { s with taps := s.taps.map f } j).acc ≤ (s.tap j).acc := by
      unfold State.tap
      rw [PerTap.get_map]
      exact h.acc _
    exact ⟨hlow, hhigh, hk, Nat.le_trans htap hacc⟩
  | retire p =>
    intro j
    rw [State.retire_tap, State.retire_settings]
    exact hs j
  | segments | records | lock | edits => exact hs
  | aside _ h =>
    intro j
    unfold State.tap State.settings
    rw [h.taps, h.settings]
    exact hs j

theorem State.tap_of_quiet {s : State} (hquiet : s.quietBeforeLoad) (hphase : s.startUp.phase ≠ .running) (i : Fin 4) :
    s.tap i = Tap.powerOn := by
  obtain ⟨-, -, -, -, -, -, -, -, htaps, -⟩ := hquiet hphase
  unfold State.tap
  rw [htaps]
  match i with
  | 0 => rfl
  | 1 => rfl
  | 2 => rfl
  | 3 => rfl

/-- Settles O12: a change keeps A within P and the settings in their ranges; the load brings settings in their ranges to accumulators that
are still empty. -/
theorem pacersStayInRange : Obligations.PacersStayInRange := by
  intro s t hquiet hs hstep
  refine step_keeps (fun _ _ => Change.pacersInRange) (fun _ _ h => h) (fun s i => ?_) (fun s1 c hard hphase hs1 hc _ => ?_) hs hstep
  · rw [powerOn_tap, powerOn_settings]
    decide
  · refine (Evolves.takeDelays _).keeps (fun _ _ => Change.pacersInRange) fun i => ?_
    obtain ⟨hlow, hhigh, hk⟩ := hc.pacers i
    have hacc : ((s1.takeConfig c hard).tap i).acc = 0 := by
      have htap : (s1.takeConfig c hard).tap i = s.tap i := congrArg (PerTap.get · i) hs1.taps
      rw [htap, State.tap_of_quiet hquiet hphase]
      rfl
    exact ⟨hlow, hhigh, hk, hacc ▸ Nat.zero_le _⟩

/-! ### Counts (R49, R174, R175) -/

theorem forall_mem_of_pointwise {R : Segment → Segment → Prop} {P : Segment → Prop} {l l' : List Segment} (h : Pointwise R l l')
    (hR : ∀ g g', R g g' → P g → P g') (hl : ∀ g ∈ l, P g) : ∀ g ∈ l', P g := by
  induction h with
  | nil => exact hl
  | cons hg _ ih =>
    intro x hx
    obtain rfl | hx := List.mem_cons.mp hx
    · exact hR _ _ hg (hl _ List.mem_cons_self)
    · exact ih (fun g hg => hl g (List.mem_cons_of_mem _ hg)) x hx

theorem Change.countsInRange {s t : State} (h : Change s t) (hs : s.countsInRange) : t.countsInRange := by
  obtain ⟨hguard, hfailures, htaps, hthreshold, hsegs, hedits⟩ := hs
  cases h with
  | control i w x h =>
    refine ⟨hguard, hfailures, fun j => ?_, hthreshold, hsegs, hedits⟩
    rw [State.setControl_tap_get]
    split
    · exact h.counts (htaps i)
    · exact htaps j
  | allTaps f h =>
    refine ⟨hguard, hfailures, fun j => ?_, hthreshold, hsegs, hedits⟩
    have htap : State.tap { s with taps := s.taps.map f } j = f (s.tap j) := PerTap.get_map ..
    rw [htap]
    exact h.counts _ (htaps j)
  | segments l h =>
    exact ⟨hguard, hfailures, htaps, hthreshold, forall_mem_of_pointwise h (fun _ _ k hg => k.faults hthreshold hg) hsegs, hedits⟩
  | retire p =>
    have hpair : Pointwise (fun g g' : Segment => g'.faults = g.faults) s.pool.segs
        (s.pool.segs.modify p fun g => { g with state := .retired }) :=
      pointwise_modify (R := fun g g' => g'.faults = g.faults) (f := fun g => { g with state := .retired }) (fun _ => rfl) (fun _ => rfl) s.pool.segs p
    have hsegs' : ∀ g ∈ s.pool.segs.modify p fun g => { g with state := .retired }, g.faults ≤ 7 :=
      forall_mem_of_pointwise hpair (fun _ _ heq hg => Nat.le_trans (Nat.le_of_eq heq) hg) hsegs
    refine ⟨?_, ?_, fun i => ?_, ?_, ?_, ?_⟩
    · rw [(Interior.retire s p).guardStep]; exact hguard
    · rw [(Interior.retire s p).pool]; exact hfailures
    · rw [State.retire_tap]; exact htaps i
    · rw [(Interior.retire s p).config]; exact hthreshold
    · rw [State.retire_segs]; exact hsegs'
    · rw [State.retire_edits]; exact hedits
  | records | lock => exact ⟨hguard, hfailures, htaps, hthreshold, hsegs, hedits⟩
  | edits es h => exact ⟨hguard, hfailures, htaps, hthreshold, hsegs, h.counted hedits⟩
  | aside _ h =>
    refine ⟨h.guardStep hguard, h.failures hfailures, fun i => ?_, h.threshold hthreshold, ?_, ?_⟩
    · unfold State.tap; rw [h.taps]; exact htaps i
    · rw [h.segs]; exact hsegs
    · rw [h.edits]; exact hedits

theorem poolOf_faults (n : Nat) (hard : List Nat) : ∀ g ∈ poolOf n hard, g.faults ≤ 7 := by
  intro g hg
  obtain ⟨p, -, rfl⟩ := List.mem_map.mp hg
  exact Nat.zero_le _

theorem Tap.powerOn_countsInRange : Tap.powerOn.countsInRange := by
  unfold Tap.countsInRange
  decide

/-- Settles O13: every count is raised by a rise that stops at its maximum, and the load brings a fault threshold of at most 7. -/
theorem countsNeverPassTheirMaxima : Obligations.CountsNeverPassTheirMaxima := by
  intro s t hs hstep
  refine step_keeps (fun _ _ => Change.countsInRange) (fun _ _ h => h) (fun s => ?_) (fun s1 c hard _ _ hc h1 => ?_) hs hstep
  · refine ⟨Nat.zero_le _, Nat.zero_le _, fun i => ?_, Nat.le_of_ble_eq_true rfl, fun _ h => absurd h List.not_mem_nil, fun _ h => absurd h List.not_mem_nil⟩
    rw [powerOn_tap]
    exact Tap.powerOn_countsInRange
  · obtain ⟨hguard, hfailures, htaps, -, -, hedits⟩ := h1
    exact (Evolves.takeDelays _).keeps (fun _ _ => Change.countsInRange)
      ⟨hguard, hfailures, htaps, hc.threshold, poolOf_faults _ _, hedits⟩

/-! ### The geometry (R5) -/

/-- The geometry in the link and in the configuration and the number of segments are the given ones. -/
def State.shapedAs (link : Option Geometry) (store : Geometry) (n : Nat) (s : State) : Prop :=
  s.link.geometry = link ∧ s.store.config.geometry = store ∧ s.pool.segs.length = n

theorem Change.shapedAs {link : Option Geometry} {store : Geometry} {n : Nat} {s t : State} (h : Change s t)
    (hs : s.shapedAs link store n) : t.shapedAs link store n := by
  obtain ⟨hlink, hstore, hsegs⟩ := hs
  cases h with
  | control | allTaps | records | lock | edits => exact ⟨hlink, hstore, hsegs⟩
  | segments l h => exact ⟨hlink, hstore, h.length_eq ▸ hsegs⟩
  | retire p =>
    have h := Interior.retire s p
    exact ⟨by rw [h.link]; exact hlink, by rw [h.config]; exact hstore, h.segCount.trans hsegs⟩
  | aside _ h => exact ⟨h.linkGeometry.trans hlink, h.geometry.trans hstore, by rw [h.segs]; exact hsegs⟩

/-- Settles O14: no change of a run touches the geometry, Q or the number of segments. -/
theorem geometryHoldsUntilPowerOn : Obligations.GeometryHoldsUntilPowerOn := by
  intro c rest s t hpending hc hrunning hstep
  obtain ⟨hlink, hstore, hsegs⟩ := (step_evolves hpending hc hrunning hstep).keeps
    (fun _ _ => Change.shapedAs (link := s.link.geometry) (store := s.store.config.geometry) (n := s.pool.segs.length)) ⟨rfl, rfl, rfl⟩
  exact ⟨hlink, hstore, congrArg Geometry.q hstore, hsegs⟩

end Sys2Proof.Machine

/-! SUPPORT. The state until the load ends (R18, R43), the contexts' slots (R25 to R27), the tags in flight (R3, R4) and the requests passed to
the M-side (R8, R9). -/

namespace Sys2Proof.Machine

/-! ### Before the load has ended -/

theorem Change.phase {s t : State} (h : Change s t) (hs : s.startUp.phase = .running) : t.startUp.phase = .running := by
  cases h with
  | control | allTaps | segments | records | lock | edits => exact hs
  | retire p => rw [(Interior.retire s p).startUp]; exact hs
  | aside _ h => exact h.phase hs

theorem Evolves.phase {s t : State} (h : Evolves s t) (hs : s.startUp.phase = .running) : t.startUp.phase = .running :=
  h.keeps (fun _ _ => Change.phase) hs

/-- What `quietBeforeLoad` says of the blocks. -/
def State.quiet (s : State) : Prop :=
  s.link.geometry = none ∧ s.link.inflight = [] ∧ s.link.planned = [] ∧ s.link.outstanding = [] ∧ s.capture = .powerOn ∧
    s.pool = .powerOn ∧ s.timeline = .empty ∧ s.edits = [] ∧ s.taps = ⟨.powerOn, .powerOn, .powerOn, .powerOn⟩ ∧
    s.quarantine.records = [] ∧ s.guardStep = 0 ∧ s.store.write = none

theorem State.powerOn_quiet (s : State) : s.powerOn.quiet := ⟨rfl, rfl, rfl, rfl, rfl, rfl, rfl, rfl, rfl, rfl, rfl, rfl⟩

theorem State.quiet.resetLink {s : State} (h : s.quiet) : s.resetLink = s := by
  obtain ⟨-, hinflight, hplanned, houtstanding, -⟩ := h
  obtain ⟨startUp, ⟨geometry, presented, mHoldOff, inflight, planned, outstanding, lastReturned⟩⟩ := s
  dsimp only at hinflight hplanned houtstanding
  subst hinflight hplanned houtstanding
  rfl

theorem State.quiet.linkReset {s : State} (h : s.quiet) : s.linkReset.quiet := by
  unfold State.linkReset
  rw [h.resetLink]
  obtain ⟨hgeometry, hinflight, hplanned, houtstanding, hcapture, hpool, htimeline, hedits, htaps, hrecords, hguard, hwrite⟩ := h
  obtain ⟨startUp, link, capture, pool, timeline, edits, taps, quarantine, guardStep, panel, store, pending⟩ := s
  dsimp only at hcapture hpool htimeline hedits htaps hguard
  subst hcapture hpool htimeline hedits htaps hguard
  exact ⟨hgeometry, hinflight, hplanned, houtstanding, rfl, rfl, rfl, rfl, rfl, hrecords, rfl, hwrite⟩

theorem State.not_canTake {s : State} (hphase : s.startUp.phase ≠ .running) (l : PanelLine) (level : Bool) : s.canTake l level ≠ true := by
  unfold State.canTake State.running
  cases h : s.startUp.phase with
  | running => exact absurd h hphase
  | resetHeld => exact Bool.false_ne_true
  | loading => exact Bool.false_ne_true

theorem State.quiet.not_entry {s : State} (h : s.quiet) (tag : Fin 64) : s.entry tag = none := by
  obtain ⟨-, hinflight, -⟩ := h
  unfold State.entry
  rw [hinflight, List.find?_nil]

theorem State.quiet.not_captureWrite {s : State} (h : s.quiet) (tag : Fin 64) : s.captureWrite tag = none := by
  obtain ⟨hgeometry, -⟩ := h
  unfold State.captureWrite
  rw [hgeometry]

theorem State.quiet.not_outstandingUnder {s : State} (h : s.quiet) (t : Fin 128) : s.outstandingUnder t = none := by
  obtain ⟨-, -, -, houtstanding, -⟩ := h
  unfold State.outstandingUnder
  rw [houtstanding, List.find?_nil]

theorem State.quiet.not_answers {s : State} (h : s.quiet) (r : LinkResponse) : s.answers r = none := by
  unfold State.answers
  rw [h.not_outstandingUnder, Option.filter_none]

/-- Before the load has ended a command finds nothing to act on in the blocks, but a reset and the load. -/
theorem Effect.quiet {c : Instr} {s t : State} (h : Effect s c t) (hphase : s.startUp.phase ≠ .running) (hs : s.quiet) :
    t.quiet ∨ s.LoadsTo t := by
  have hgeometry : s.link.geometry = none := hs.1
  cases h with
  | endLoad _ _ h => exact .inr h
  | powerOn => exact .inl s.powerOn_quiet
  | linkReset => exact .inl (State.quiet.linkReset (s := { s with startUp := { s.startUp with lrstAsserted := true } }) hs)
  | idle | startLoad | linkResetEnd | holdOff | blink => exact .inl hs
  | lineMoves l => cases l <;> exact .inl hs
  | lineTaken c l => cases l <;> exact .inl hs
  | accept r =>
    unfold State.meetRequest
    rw [hgeometry]
    exact .inl hs
  | header tag h => rw [hs.not_captureWrite] at h; cases h
  | payload tag h => rw [hs.not_captureWrite] at h; cases h
  | tapRead tag hg => rw [hgeometry] at hg; cases hg
  | reviewRead tag hg => rw [hgeometry] at hg; cases hg
  | issue tag h =>
    obtain ⟨-, -, hplanned, -⟩ := hs
    rw [hplanned] at h
    cases h
  | passAnswer r h => rw [hs.not_answers] at h; cases h
  | captureAnswer r h => rw [hs.not_answers] at h; cases h
  | segmentAnswer r h => rw [hs.not_answers] at h; cases h
  | maskAnswer r h => rw [hs.not_answers] at h; cases h
  | reviewAnswer r h => rw [hs.not_answers] at h; cases h
  | patternAnswer r h => rw [hs.not_answers] at h; cases h
  | patternIssue hrun hg => rw [hgeometry] at hg; cases hg
  | drained r h => rw [hs.not_outstandingUnder] at h; cases h
  | reply tag h => rw [hs.not_entry] at h; cases h
  | dump h => exact absurd h (State.not_canTake hphase _ _)
  | openMask h => exact absurd h (State.not_canTake hphase _ _)
  | closeMask h => exact absurd h (State.not_canTake hphase _ _)
  | enter h => exact absurd h (State.not_canTake hphase _ _)
  | exit h => exact absurd h (State.not_canTake hphase _ _)
  | storePage h =>
    obtain ⟨-, -, -, -, -, -, -, -, -, -, -, hwrite⟩ := hs
    rw [hwrite] at h
    cases h
  | storeDone h =>
    obtain ⟨-, -, -, -, -, -, -, -, -, -, -, hwrite⟩ := hs
    rw [hwrite] at h
    cases h
  | storeTimeout h =>
    obtain ⟨-, -, -, -, -, -, -, -, -, -, -, hwrite⟩ := hs
    rw [hwrite] at h
    cases h

theorem State.LoadsTo.phase {s t : State} (h : s.LoadsTo t) : t.startUp.phase = .running := by
  obtain ⟨-, u, contents, c, hard, invalid, -, rfl⟩ := h
  unfold State.finishLoad
  rw [State.refreshTally_startUp, (Interior.raiseUnless ..).startUp]

/-- Settles O5: in a run the phase stays, and before it no command but the end of the load finds anything to act on. -/
theorem nothingHappensBeforeTheLoadEnds : Obligations.NothingHappensBeforeTheLoadEnds := by
  intro s t hquiet hstep hphase
  unfold step at hstep
  split at hstep
  · cases hstep; exact hquiet hphase
  · next c rest _ =>
    have heffect := exec_effect hstep
    by_cases hrunning : s.startUp.phase = .running
    · obtain h | ⟨-, rfl⟩ | h := heffect.evolves
      · exact absurd (h.phase hrunning) hphase
      · exact State.powerOn_quiet _
      · exact absurd h.phase hphase
    · obtain h | h := heffect.quiet (s := { s with pending := rest }) hrunning (hquiet hrunning)
      · exact h
      · exact absurd h.phase hphase

end Sys2Proof.Machine

/-! SUPPORT. The step and the power-on state, and what every command but an acceptance leaves in the link: tags in flight and passed requests
(R3, R4, R8, R18). -/

namespace Sys2Proof.Machine

/-! ### The step, the state after reset, and POWER_ON_RESET -/

/-- Settles O1: the queue's front is what `step` splits on. -/
theorem stepRunsTheFrontCommand : Obligations.StepRunsTheFrontCommand := by
  intro c rest s h
  unfold step
  rw [h]

/-- Settles O2: the state after reset is the power-on state of itself, whose blocks are empty. -/
theorem resetMeetsTheStandingLaws : Obligations.ResetMeetsTheStandingLaws := by
  have htap (i : Fin 4) : State.reset.tap i = Tap.powerOn := powerOn_tap .reset i
  have hsettings (i : Fin 4) : State.reset.settings i = defaultTapSettings := powerOn_settings .reset i
  refine ⟨fun _ => State.powerOn_quiet .reset, rfl, Nat.zero_le _, ?_, ?_, editsNamed_nil, ?_, List.nodup_nil, ?_, ?_, ?_, editsApart_nil, ?_, ?_, ?_⟩
  · exact fun g hg => by cases hg
  · exact ⟨Nat.zero_le _, fun i e he => by cases he⟩
  · exact ⟨Nat.zero_le _, List.nodup_nil, fun c hc => by cases hc⟩
  · intro i
    rw [htap, hsettings]
    exact ⟨Nat.zero_le _, Nat.zero_le _⟩
  · intro i
    rw [htap, hsettings]
    decide
  · refine ⟨Nat.zero_le _, Nat.zero_le _, fun i => ?_, by decide, fun _ hg => absurd hg List.not_mem_nil, fun _ he => absurd he List.not_mem_nil⟩
    rw [htap]
    unfold Tap.countsInRange
    decide
  · intro i hi
    rw [htap] at hi
    cases hi
  · exact ⟨fun k => by cases k <;> exact ⟨List.nodup_nil, fun p hp => by cases hp⟩, fun p g hg => by cases hg⟩
  · exact fun e he => by cases he

/-- Settles O17: every part of the power-on state is written out in `State.powerOn`. -/
theorem powerOnResetClearsEveryBlock : Obligations.PowerOnResetClearsEveryBlock := by
  intro s
  have hline (l : PanelLine) :
      (s.powerOn.line l).debounced = none ∧ (s.powerOn.line l).interval = false ∧ (s.powerOn.line l).raw = (s.line l).raw := by
    cases l <;> exact ⟨rfl, rfl, rfl⟩
  exact ⟨s.powerOn, rfl, rfl, fun _ => s.powerOn_quiet, List.filter_eq_self.mpr fun _ _ => rfl, rfl, rfl, rfl, rfl, hline, rfl, rfl, rfl, rfl, rfl⟩

/-! ### The link: tags in flight and passed requests -/

/-- What no command does to the interposer but the acceptance of a request, the end of the load and the power-on reset: no tag enters flight,
and no passed request joins those for the M-side. -/
structure Relays (l l' : Interposer) : Prop where
  geometry : l'.geometry = l.geometry
  tags : (l'.inflight.map (·.req.tag)).Sublist (l.inflight.map (·.req.tag))
  passed : ∀ m ∈ l'.planned ++ l'.outstanding, m.use = .pass →
    ∃ m0 ∈ l.planned ++ l.outstanding, m0.use = .pass ∧ m0.addr = m.addr ∧ m0.length = m.length

theorem Relays.refl (l : Interposer) : Relays l l := ⟨rfl, List.Sublist.refl _, fun m hm huse => ⟨m, hm, huse, rfl, rfl⟩⟩

theorem Relays.of_eq {l l' : Interposer} (h : l' = l) : Relays l l' := h ▸ .refl l

theorem Relays.trans {l l' l'' : Interposer} (h : Relays l l') (k : Relays l' l'') : Relays l l'' where
  geometry := k.geometry.trans h.geometry
  tags := k.tags.trans h.tags
  passed := fun m hm huse => by
    obtain ⟨m1, hm1, huse1, haddr1, hlength1⟩ := k.passed m hm huse
    obtain ⟨m0, hm0, huse0, haddr0, hlength0⟩ := h.passed m1 hm1 huse1
    exact ⟨m0, hm0, huse0, haddr0.trans haddr1, hlength0.trans hlength1⟩

/-- An interposer with the same geometry, fewer tags in flight and fewer requests at the M-side. -/
theorem Relays.of_subset {l l' : Interposer} (hgeometry : l'.geometry = l.geometry)
    (htags : (l'.inflight.map (·.req.tag)).Sublist (l.inflight.map (·.req.tag)))
    (hrequests : ∀ m ∈ l'.planned ++ l'.outstanding, m ∈ l.planned ++ l.outstanding) : Relays l l' :=
  ⟨hgeometry, htags, fun m hm huse => ⟨m, hrequests m hm, huse, rfl, rfl⟩⟩

theorem map_tag_modify (l : List InFlight) (tag : Fin 64) {f : InFlight → InFlight} (hf : ∀ x, (f x).req = x.req) :
    (l.map fun x => if x.req.tag == tag then f x else x).map (·.req.tag) = l.map (·.req.tag) := by
  rw [List.map_map]
  refine List.map_congr_left fun x _ => ?_
  rw [Function.comp_apply]
  split
  · rw [hf]
  · rfl

theorem Relays.modifyFlight (s : State) (tag : Fin 64) {f : InFlight → InFlight} (hf : ∀ x, (f x).req = x.req) :
    Relays s.link (s.modifyFlight tag f).link :=
  .of_subset rfl (by simp only [State.modifyFlight_link, map_tag_modify _ _ hf, List.Sublist.refl]) fun _ hm => hm

theorem Relays.dropFlight (s : State) (tag : Fin 64) : Relays s.link (s.dropFlight tag).link :=
  .of_subset rfl (List.filter_sublist.map _) fun _ hm => hm

theorem Relays.putReply (s : State) (tag : Fin 64) (r : Reply) : Relays s.link (s.putReply tag r).link :=
  .of_subset rfl (List.Sublist.refl _) fun _ hm => hm

theorem Relays.plan (s : State) {m : MRequest} (huse : m.use ≠ .pass) : Relays s.link (s.plan m).link where
  geometry := rfl
  tags := List.Sublist.refl _
  passed := fun x hx hpass => by
    obtain hx | hx := List.mem_append.mp hx
    · obtain hx | hx := List.mem_append.mp hx
      · exact ⟨x, List.mem_append_left _ hx, hpass, rfl, rfl⟩
      · exact absurd (List.mem_singleton.mp hx ▸ hpass) huse
    · exact ⟨x, List.mem_append_right _ hx, hpass, rfl, rfl⟩

theorem Relays.foldl_plan (ms : List MRequest) (s : State) (huse : ∀ m ∈ ms, m.use ≠ .pass) : Relays s.link (ms.foldl State.plan s).link := by
  induction ms generalizing s with
  | nil => exact .refl _
  | cons m ms ih => exact (Relays.plan s (huse m List.mem_cons_self)).trans (ih _ fun x hx => huse x (List.mem_cons_of_mem _ hx))

theorem Relays.dropOutstanding (s : State) (t : Fin 128) : Relays s.link (s.dropOutstanding t).link :=
  .of_subset rfl (List.Sublist.refl _) fun _ hm => by
    obtain hm | hm := List.mem_append.mp hm
    · exact List.mem_append_left _ hm
    · exact List.mem_append_right _ (mem_of_mem_kept hm)

theorem Relays.issue (s : State) {m : MRequest} (h : m ∈ s.link.planned) : Relays s.link (s.issue m).link :=
  .of_subset rfl (List.Sublist.refl _) fun x hx => by
    obtain hx | hx := List.mem_append.mp hx
    · exact List.mem_append_left _ (mem_of_mem_kept hx)
    · obtain hx | hx := List.mem_append.mp hx
      · exact List.mem_append_right _ hx
      · exact List.mem_append_left _ (List.mem_singleton.mp hx ▸ h)

theorem Relays.releaseDrained (s : State) (m : MRequest) : Relays s.link (s.releaseDrained m).link :=
  .of_subset rfl (List.filter_sublist.map _) fun _ hm => hm

theorem State.lowerFor_link (s : State) (u : MUse) : (s.lowerFor u).link = s.link := by
  unfold State.lowerFor; split <;> rfl

theorem Relays.returnForwarded (s : State) (m : MRequest) (r : LinkResponse) : Relays s.link (s.returnForwarded m r).link :=
  ((Relays.dropOutstanding s _).trans (.putReply ..)).trans (.dropFlight ..)

theorem Relays.returnReply (s : State) (tag : Fin 64) (f : InFlight) (reply : Reply) : Relays s.link (s.returnReply tag f reply).link := by
  unfold State.returnReply
  dsimp only
  split
  · exact (Relays.putReply ..).trans (.modifyFlight _ _ fun _ => rfl)
  · exact (Relays.putReply ..).trans (.dropFlight ..)

theorem Relays.forwardWrite (s : State) (g : Geometry) (f : InFlight) (p off : Nat) : Relays s.link (s.forwardWrite g f p off).link := by
  unfold State.forwardWrite
  refine Relays.trans ?_ (.plan _ fun h => MUse.noConfusion h)
  exact .modifyFlight _ _ fun _ => rfl

theorem Relays.absorbWrite (s : State) (f : InFlight) : Relays s.link (s.absorbWrite f).link := .modifyFlight _ _ fun _ => rfl

theorem Relays.openContext (s : State) (g : Geometry) (f : InFlight) (k : Nat) (h : CaptureHeader) (lead : List GapCause) :
    Relays s.link (s.openContext g f k h lead).link := by
  unfold State.openContext
  dsimp only
  split
  · refine .trans (.of_eq ?_) (.forwardWrite ..)
    exact (Interior.allocate s).link
  · refine .trans (.of_eq ?_) (.absorbWrite ..)
    rw [State.openDiscard_link, (Inner.carryRun ..).link]
    exact (Interior.allocate s).link

theorem Relays.readHeader (s : State) (g : Geometry) (f : InFlight) (k : Nat) : Relays s.link (s.readHeader g f k).link := by
  unfold State.readHeader
  split
  · exact .absorbWrite ((s.raiseAll .headerBad).openDiscard k) f
  · split
    · exact .openContext ..
    · split
      · exact .absorbWrite ((s.raiseAll .seqDup).openDiscard k) f
      · exact (Relays.of_eq (Inner.acceptSequence ..).link).trans (.openContext ..)

theorem Relays.headerWrite (s : State) (g : Geometry) (f : InFlight) (k : Nat) : Relays s.link (s.headerWrite g f k).link := by
  unfold State.headerWrite
  exact ((Relays.of_eq (Inner.makeRoom s k).link).trans (.readHeader ..)).trans (.of_eq (Inner.commitReady _).link)

theorem Relays.payloadWrite (s : State) (g : Geometry) (f : InFlight) (k off : Nat) : Relays s.link (s.payloadWrite g f k off).link := by
  unfold State.payloadWrite
  split
  · exact .absorbWrite (s.raiseAll .strayWrite) f
  · split
    · exact .absorbWrite ..
    · exact .forwardWrite (s.setContexts _) g f _ off

theorem foldl_raiseOutstanding_link (l : List PartRead) (s : State) :
    (l.foldl (fun s r => s.raiseOutstanding r.phys) s).link = s.link :=
  (Interior.foldl (fun s (r : PartRead) => .raiseOutstanding s r.phys) l s).link

theorem exists_of_mem_zipWith {α β γ : Type} {f : α → β → γ} {as : List α} {bs : List β} {x : γ} (h : x ∈ List.zipWith f as bs) :
    ∃ a b, a ∈ as ∧ b ∈ bs ∧ f a b = x := by
  rw [← List.map_uncurry_zip_eq_zipWith, List.mem_map] at h
  obtain ⟨⟨a, b⟩, hab, rfl⟩ := h
  exact ⟨a, b, (List.of_mem_zip hab).1, (List.of_mem_zip hab).2, rfl⟩

theorem Relays.servePlan (s : State) (tag : Fin 64) (g : Geometry) (plan : FillPlan) {use : PartRead → MUse} (huse : ∀ r, use r ≠ .pass) :
    Relays s.link (s.servePlan tag g plan use).link := by
  unfold State.servePlan
  refine (Relays.modifyFlight s tag fun x => ?_).trans ((Relays.foldl_plan _ _ fun m hm => ?_).trans (.of_eq (foldl_raiseOutstanding_link ..)))
  · split <;> rfl
  · obtain ⟨r, t, -, -, rfl⟩ := exists_of_mem_zipWith hm
    exact huse r

theorem Inner.resetCapture (s : State) : Inner s s.resetCapture := by
  unfold State.resetCapture
  refine (Interior.foldl (fun s (c : Context) => ?_) _ s).inner.trans (.withCapture ..)
  split
  · exact .freeSeg ..
  · exact .refl _

theorem Inner.resetPattern (s : State) : Inner s s.resetPattern := by
  unfold State.resetPattern
  split
  · exact .refl s
  · exact (Interior.freeSeg ..).inner.trans (.setPattern ..)

theorem Inner.dropPins (s : State) : Inner s s.dropPins :=
  ⟨⟨rfl, rfl, rfl, rfl, rfl, rfl, rfl, by rw [State.dropPins_pool]; exact List.length_map _⟩, rfl⟩

theorem Interior.handOverAtReset (s : State) (r : SegmentRecord) : Interior s (s.handOverAtReset r) := by
  unfold State.handOverAtReset
  exact .ite (.freeSeg ..) (.offer ..)

theorem Interior.resetTimeline (s : State) : Interior s s.resetTimeline := by
  unfold State.resetTimeline
  exact (Interior.foldl (fun s r => .handOverAtReset s r) ..).trans (.withTimeline ..)

/-- Past the interposer's own rule a link reset leaves the link alone. -/
theorem State.linkReset_link (s : State) : s.linkReset.link = s.resetLink.link :=
  ((((Inner.resetCapture s.resetLink).trans (.resetPattern _)).trans (.dropPins _)).trans (Interior.resetTimeline _).inner).link

theorem foldl_lowerFor_link (l : List MRequest) (s : State) : (l.foldl (fun s r => s.lowerFor r.use) s).link = s.link := by
  induction l generalizing s with
  | nil => rfl
  | cons r l ih => exact (ih _).trans (s.lowerFor_link _)

theorem InFlight.owe_req (f : InFlight) : f.owe.req = f.req := by
  unfold InFlight.owe; split <;> rfl

theorem Relays.resetLink (s : State) : Relays s.link s.resetLink.link := by
  unfold State.resetLink
  dsimp only
  rw [foldl_lowerFor_link]
  refine ⟨rfl, ?_, fun m hm huse => ?_⟩
  · have htags : (s.link.inflight.map InFlight.owe).map (fun f => f.req.tag) = s.link.inflight.map fun f => f.req.tag := by
      rw [List.map_map]
      exact List.map_congr_left fun f _ => congrArg LinkRequest.tag f.owe_req
    exact htags ▸ .refl _
  · obtain hm | hm := List.mem_append.mp hm
    · obtain ⟨m0, hm0, rfl⟩ := List.mem_map.mp hm
      exact ⟨m0, List.mem_append_left _ (mem_of_mem_kept hm0), huse, rfl, rfl⟩
    · obtain ⟨m0, hm0, rfl⟩ := List.mem_map.mp hm
      exact ⟨m0, List.mem_append_right _ hm0, huse, rfl, rfl⟩

theorem InFlight.takePart_req (f : InFlight) (part : PartData) (status : LinkStatus) : (f.takePart part status).req = f.req := by
  unfold InFlight.takePart
  dsimp only
  split
  · split
    · rfl
    · split <;> rfl
  · rfl

theorem Relays.takePart (s : State) (m : MRequest) (r : LinkResponse) (tag : Fin 64) (seg : Nat) (part : PartData) :
    Relays s.link (s.takePart m r tag seg part).link :=
  (Relays.dropOutstanding s m.tag).trans (.modifyFlight ((s.dropOutstanding m.tag).lowerOutstanding seg) _ fun _ => InFlight.takePart_req ..)

theorem Interior.faultOn (s : State) (seg : Nat) (status : LinkStatus) : Interior s (s.faultOn seg status) := by
  unfold State.faultOn
  split
  · exact (Interior.countFault ..).trans (.settle _)
  · exact .refl s

theorem Relays.tapRead (s : State) (g : Geometry) (r : LinkRequest) (i : Fin 4) (j off : Nat) :
    Relays s.link (s.tapRead g r i j off).link := by
  have huse (q : PartRead) : tapUse r.tag i q ≠ .pass := by
    unfold tapUse
    split <;> exact fun h => MUse.noConfusion h
  have hcurrent (s : State) : Relays s.link (s.serveCurrent g r i off).link := by
    unfold State.serveCurrent
    split
    · exact .refl _
    · exact .servePlan (s.modifyTap i _) _ _ _ huse
  unfold State.tapRead
  split
  · exact .servePlan _ _ _ _ huse
  · exact hcurrent s
  · unfold State.servePrevious
    split
    · exact .refl _
    · exact .servePlan (s.modifyTap i _) _ _ _ huse
  · exact (Relays.of_eq (Interior.advance s i j).link).trans (hcurrent _)
  · exact .servePlan (s.modifyTap i Tap.stepError) _ _ _ huse

theorem PatternRun.nextRequest_use {r r' : PatternRun} {g : Geometry} {t : Fin 128} {m : MRequest} (h : r.nextRequest g t = some (m, r')) :
    m.use ≠ .pass := by
  unfold PatternRun.nextRequest at h
  dsimp only at h
  split at h
  · cases h
  · split at h
    · cases h; exact fun h => MUse.noConfusion h
    · split at h
      · cases h; exact fun h => MUse.noConfusion h
      · cases h

theorem Relays.issuePattern (s : State) {m : MRequest} (run : PatternRun) (huse : m.use ≠ .pass) :
    Relays s.link (s.issuePattern m run).link where
  geometry := rfl
  tags := List.Sublist.refl _
  passed := fun x hx hpass => by
    obtain hx | hx := List.mem_append.mp hx
    · exact ⟨x, List.mem_append_left _ hx, hpass, rfl, rfl⟩
    · obtain hx | hx := List.mem_append.mp hx
      · exact ⟨x, List.mem_append_right _ hx, hpass, rfl, rfl⟩
      · exact absurd (List.mem_singleton.mp hx ▸ hpass) huse

theorem State.patternAnswer_link (s : State) (g : Geometry) (run : PatternRun) (m : MRequest) (r : LinkResponse) :
    (s.patternAnswer g run m r).link = (s.dropOutstanding m.tag).link := by
  have hverdict (s : State) (r : PatternRun) : (s.verdict r).link = s.link := by
    unfold State.verdict
    split
    · exact (Inner.takeTestable ..).link.trans (((Interior.modifySeg s _ _).trans (.retire ..)).link)
    · exact (Inner.takeTestable ..).link.trans (Interior.freeSeg ..).link
  unfold State.patternAnswer
  dsimp only
  split
  · rw [(Interior.settle _).link, hverdict, State.setPattern_link, State.lowerFor_link]
  · rw [State.setPattern_link, State.lowerFor_link]

theorem Interior.setPanelTargets (s : State) (dt : TapSettings → Nat) : Interior s (s.setPanelTargets dt) :=
  .foldl (fun _ _ => .modifyTap ..) ..

/-- Every command but the acceptance of a request, the end of the load and the power-on reset only relays. -/
theorem Effect.relays {c : Instr} {s t : State} (h : Effect s c t) :
    Relays s.link t.link ∨ (∃ r, t = s.meetRequest r) ∨ t = s.powerOn ∨ s.LoadsTo t := by
  cases h with
  | endLoad _ _ h => exact .inr (.inr (.inr h))
  | powerOn => exact .inr (.inr (.inl rfl))
  | accept r => exact .inr (.inl ⟨r, rfl⟩)
  | idle | startLoad | linkResetEnd | lineMoves | lineTaken | blink | storePage => exact .inl (.refl _)
  | holdOff => exact .inl (.of_subset rfl (List.Sublist.refl _) fun _ hm => hm)
  | linkReset => exact .inl ((Relays.resetLink { s with startUp := { s.startUp with lrstAsserted := true } }).trans (.of_eq (State.linkReset_link _)))
  | header => exact .inl (.headerWrite ..)
  | payload => exact .inl (.payloadWrite ..)
  | tapRead => exact .inl (.tapRead ..)
  | reviewRead => exact .inl (.servePlan _ _ _ _ fun _ h => MUse.noConfusion h)
  | issue tag h => exact .inl (.issue s (List.mem_of_find?_eq_some h))
  | passAnswer => exact .inl (.returnForwarded ..)
  | captureAnswer => exact .inl ((Relays.returnForwarded ..).trans (.of_eq (Inner.captureAnswer ..).link))
  | segmentAnswer => exact .inl ((Relays.takePart ..).trans (.of_eq (Interior.faultOn ..).link))
  | maskAnswer => exact .inl ((Relays.takePart ..).trans (.of_eq (Interior.faultOn ..).link))
  | reviewAnswer => exact .inl ((Relays.takePart ..).trans (.of_eq (Interior.faultOn ..).link))
  | patternAnswer => exact .inl ((Relays.dropOutstanding ..).trans (.of_eq (State.patternAnswer_link ..)))
  | patternIssue hrun hg hmay h =>
    obtain ⟨t, -, hnext⟩ := Option.bind_eq_some_iff.mp h
    exact .inl (.issuePattern s _ (PatternRun.nextRequest_use hnext))
  | drained =>
    exact .inl (((Relays.dropOutstanding ..).trans (.of_eq (State.lowerFor_link ..))).trans (.releaseDrained ..))
  | reply => exact .inl (.returnReply ..)
  | dump => exact .inl (.of_eq (Interior.dump (s.takeLine .dump)).link)
  | openMask => exact .inl (.of_eq (Interior.openMask (s.takeLine .mask)).link)
  | closeMask => exact .inl (.of_eq (Interior.closeMask (s.takeLine .mask)).link)
  | enter => exact .inl (.of_eq (Interior.setPanelTargets (s.takeLine .enter) _).link)
  | exit => exact .inl (.of_eq (Interior.setPanelTargets (s.takeLine .exit) _).link)
  | storeDone => exact .inl (.of_eq (Interior.raiseAll ..).link)
  | storeTimeout => exact .inl (.of_eq (Interior.raiseAll ..).link)

end Sys2Proof.Machine

/-! SUPPORT. What the end of a load leaves alone, the requests passed to the M-side (R9), and the contexts' slots and the tags in flight
(R3, R4, R25 to R27). -/

namespace Sys2Proof.Machine

/-! ### The end of a load -/

theorem Interior.takeDelay (s : State) (t : Fin 4) : Interior s (s.takeDelay t) := by
  unfold State.takeDelay
  exact .trans (.setSettings ..) (.modifyTap ..)

theorem Interior.startTap (s : State) (t : Fin 4) : Interior s (s.startTap t) := by
  unfold State.startTap; exact .ite (.tapOn ..) (.refl s)

/-- The state in which the taps have taken their delays and have started. -/
def State.tapsLoaded (s : State) : State := tapIds.foldl State.startTap (tapIds.foldl State.takeDelay s)

theorem Interior.tapsLoaded (s : State) : Interior s s.tapsLoaded :=
  (Interior.foldl (fun s t => .takeDelay s t) tapIds s).trans (.foldl (fun s t => .startTap s t) ..)

theorem State.finishLoad_link (s : State) (c : WorkingConfig) (hard : List Nat) (invalid : Bool) :
    (s.finishLoad c hard invalid).link = { s.link with geometry := some c.geometry } := by
  unfold State.finishLoad
  rw [State.refreshTally_link, (Interior.raiseUnless ..).link]
  exact (Interior.tapsLoaded _).link

theorem State.finishLoad_capture (s : State) (c : WorkingConfig) (hard : List Nat) (invalid : Bool) :
    (s.finishLoad c hard invalid).capture = s.capture := by
  unfold State.finishLoad
  rw [State.refreshTally_capture, (Interior.raiseUnless ..).capture]
  exact (Interior.tapsLoaded _).capture

/-! ### The acceptance of a request (R4, R6 to R10) -/

/-- An accepted request takes one place in the table, and one whose class is PASS is planned for the M-side at its own address. -/
theorem State.accept_link (s : State) (g : Geometry) (r : LinkRequest) :
    ∃ f ms, f.req = r ∧ (s.accept g r).link = { s.link with inflight := s.link.inflight ++ [f], planned := s.link.planned ++ ms } ∧
      ∀ m ∈ ms, g.classify r = .pass ∧ m.addr = r.addr ∧ m.length = r.length := by
  have hnone : ∀ m ∈ ([] : List MRequest), g.classify r = .pass ∧ m.addr = r.addr ∧ m.length = r.length :=
    fun m hm => absurd hm List.not_mem_nil
  have hplanned : s.link.planned ++ [] = s.link.planned := List.append_nil _
  unfold State.accept
  split
  case h_3 hpass =>
    refine ⟨_, [_], rfl, rfl, fun m hm => ?_⟩
    rw [List.mem_singleton.mp hm]
    exact ⟨hpass, rfl, rfl⟩
  all_goals exact ⟨_, [], rfl, by rw [hplanned]; rfl, hnone⟩

/-- A request that is met waits, or takes its place in the table. -/
theorem State.meetRequest_link (s : State) (r : LinkRequest) :
    (s.meetRequest r).link = { s.link with presented := some r } ∨
      ∃ g f ms, s.link.geometry = some g ∧ s.holdsOff r = false ∧ f.req = r ∧
        (s.meetRequest r).link =
          { s.link with presented := none, inflight := s.link.inflight ++ [f], planned := s.link.planned ++ ms } ∧
        ∀ m ∈ ms, g.classify r = .pass ∧ m.addr = r.addr ∧ m.length = r.length := by
  unfold State.meetRequest
  split
  · exact .inl rfl
  · next g hg =>
    split
    · exact .inl rfl
    · next hadmitted =>
      obtain ⟨f, ms, hreq, hlink, hms⟩ := (s.setPresented none).accept_link g r
      exact .inr ⟨g, f, ms, hg, Bool.eq_false_iff.mpr hadmitted, hreq, hlink, hms⟩

theorem Geometry.not_touchesBacking_of_pass {g : Geometry} {r : LinkRequest} (h : g.classify r = .pass) : g.touchesBacking r = false := by
  refine Classical.byContradiction fun hbacking => ?_
  rw [Bool.not_eq_false] at hbacking
  unfold Geometry.classify at h
  rw [hbacking, Bool.or_true, Bool.and_true, Bool.and_true] at h
  cases hlegal : requestLegal r with
  | true => rw [hlegal] at h; cases h
  | false => rw [hlegal] at h; cases h

/-- Settles O7: what the M-side is passed lies outside the backing region at its acceptance, and nothing stands there when the load sets the
region. -/
theorem backingRegionStaysGuarded : Obligations.BackingRegionStaysGuarded := by
  intro s t hquiet hs hstep
  unfold step at hstep
  split at hstep
  · cases hstep; exact hs
  · next c rest _ =>
    obtain h | ⟨r, rfl⟩ | rfl | ⟨hphase, u, contents, c, hard, invalid, -, rfl⟩ := (exec_effect hstep).relays
    · intro g hg m hm huse
      obtain ⟨m0, hm0, huse0, haddr, hlength⟩ := h.passed m hm huse
      rw [← haddr, ← hlength]
      exact hs g (h.geometry ▸ hg) m0 hm0 huse0
    · intro g hg m hm huse
      obtain hlink | ⟨g0, f, ms, hg0, -, -, hlink, hms⟩ := State.meetRequest_link { s with pending := rest } r
      · rw [hlink] at hg hm
        exact hs g hg m hm huse
      · rw [hlink] at hg hm
        obtain hm | hm := List.mem_append.mp hm
        · obtain hm | hm := List.mem_append.mp hm
          · exact hs g hg m (List.mem_append_left _ hm) huse
          · obtain ⟨hpass, haddr, hlength⟩ := hms m hm
            rw [haddr, hlength]
            have hgg : g0 = g := Option.some.inj (hg0.symm.trans hg)
            exact hgg ▸ Geometry.not_touchesBacking_of_pass hpass
        · exact hs g hg m (List.mem_append_right _ hm) huse
    · intro g hg
      cases hg
    · obtain ⟨-, -, hplanned, houtstanding, -⟩ := hquiet hphase
      intro g hg m hm
      rw [State.finishLoad_link] at hm
      obtain hm | hm := List.mem_append.mp hm
      · exact absurd (hplanned ▸ hm) List.not_mem_nil
      · exact absurd (houtstanding ▸ hm) List.not_mem_nil

/-! ### The tags in flight (R3, R4) -/

theorem State.tag_not_mem_of_admitted {s : State} {r : LinkRequest} (h : s.holdsOff r = false) : r.tag ∉ s.link.inflight.map (·.req.tag) := by
  intro hmem
  obtain ⟨f, hf, htag⟩ := List.mem_map.mp hmem
  have hentry : (s.entry r.tag).isSome = true := by
    unfold State.entry
    rw [List.find?_isSome]
    exact ⟨f, hf, beq_iff_eq.mpr htag⟩
  unfold State.holdsOff at h
  rw [hentry, Bool.or_true, Bool.true_or] at h
  cases h

theorem step_tagsDistinct {s t : State} (hs : s.tagsDistinct) (hstep : step s = .next t) : t.tagsDistinct := by
  unfold step at hstep
  split at hstep
  · cases hstep; exact hs
  · next c rest _ =>
    obtain h | ⟨r, rfl⟩ | rfl | ⟨-, u, contents, c, hard, invalid, -, rfl⟩ := (exec_effect hstep).relays
    · exact hs.sublist h.tags
    · unfold State.tagsDistinct
      obtain hlink | ⟨g, f, ms, -, hadmitted, hreq, hlink, -⟩ := State.meetRequest_link { s with pending := rest } r
      · rw [hlink]; exact hs
      · rw [hlink, List.map_append, List.nodup_append]
        refine ⟨hs, nodup_one _, fun a ha b hb hab => ?_⟩
        have hb : b = r.tag := (List.mem_singleton.mp hb).trans (congrArg LinkRequest.tag hreq)
        exact State.tag_not_mem_of_admitted hadmitted (hb ▸ hab ▸ ha)
    · exact List.nodup_nil
    · unfold State.tagsDistinct
      rw [State.finishLoad_link]
      exact hs

/-! ### What leaves the capture unit alone -/

theorem foldl_capture {α : Type} {f : State → α → State} (h : ∀ s x, (f s x).capture = s.capture) (l : List α) (s : State) :
    (l.foldl f s).capture = s.capture := by
  induction l generalizing s with
  | nil => rfl
  | cons x l ih => exact (ih _).trans (h s x)

theorem State.takeTestable_capture (s : State) (c n : Nat) : (s.takeTestable c n).capture = s.capture := by
  unfold State.takeTestable
  split <;> rfl

theorem cmdTapOn_capture (s : State) (e : ControlEntry) : (cmdTapOn s e).1.capture = s.capture := by
  unfold cmdTapOn
  split
  · rfl
  · exact (Interior.settle _).capture.trans (foldl_capture (fun s t => ((Interior.setSettings s t _).trans (.tapOn ..)).capture) ..)

theorem cmdTapOff_capture (s : State) (e : ControlEntry) : (cmdTapOff s e).1.capture = s.capture := by
  unfold cmdTapOff
  split
  · rfl
  · exact (Interior.settle _).capture.trans (foldl_capture (fun s t => ((Interior.setSettings s t _).trans (.tapOff ..)).capture) ..)

theorem cmdSetTarget_capture (s : State) (e : ControlEntry) : (cmdSetTarget s e).1.capture = s.capture := by
  unfold cmdSetTarget
  split
  · rfl
  · exact foldl_capture (fun s t => ((Interior.setSettings s t _).trans (.modifyTap ..)).capture) ..

theorem cmdSetPacer_capture (s : State) (e : ControlEntry) : (cmdSetPacer s e).1.capture = s.capture := by
  unfold cmdSetPacer
  split
  · rfl
  · exact foldl_capture (fun s t => ((Interior.setSettings s t _).trans (.modifyTap ..)).capture) ..

theorem cmdClearCounters_capture (s : State) (e : ControlEntry) : (cmdClearCounters s e).1.capture = s.capture := by
  unfold cmdClearCounters
  split
  · rfl
  · exact foldl_capture (fun s t => (Interior.modifyTap s t _).capture) ..

theorem cmdRelease_capture (s : State) (e : ControlEntry) : (cmdRelease s e).1.capture = s.capture := by
  unfold cmdRelease
  split
  · exact (Interior.settle _).capture.trans (foldl_capture (fun s (r : SegmentRecord) => (Interior.freeSeg s r.phys).capture) ..)
  · rfl
  · rfl

theorem runCommand_capture (s : State) (e : ControlEntry) : (runCommand s e).1.capture = s.capture := by
  unfold runCommand
  split
  · exact cmdTapOn_capture s e
  · exact cmdTapOff_capture s e
  · exact cmdSetTarget_capture s e
  · exact cmdSetPacer_capture s e
  · exact (Interior.mark ..).capture
  · exact (Interior.mark ..).capture
  · exact (Interior.cancelEdit ..).capture
  · rfl
  · rfl
  · rfl
  · rfl
  · rfl
  · exact cmdClearCounters_capture s e
  · unfold cmdLock; split <;> rfl
  · rfl
  · unfold cmdUnlock; split <;> rfl
  · exact cmdRelease_capture s e
  · rfl
  · unfold cmdCommitRetire; split <;> rfl
  · unfold cmdSaveConfig; split <;> rfl
  · unfold cmdSetGeometry; split <;> rfl
  · unfold cmdPatternTest
    dsimp only
    split
    · rfl
    · split
      · rfl
      · exact State.takeTestable_capture ..
  · rfl

theorem State.executeEntry_capture (q : Word) (s : State) (e : ControlEntry) : (State.executeEntry q s e).capture = s.capture := by
  unfold State.executeEntry
  split
  · rfl
  · dsimp only
    rw [State.report_capture]
    split
    · rfl
    · exact runCommand_capture s e

theorem State.executeEntries_capture (s : State) (q : Word) (es : List ControlEntry) : (s.executeEntries q es).capture = s.capture :=
  foldl_capture (State.executeEntry_capture q) es s

theorem State.commitSegment_capture (s : State) (b : ContextBody) : (s.commitSegment b).capture = s.capture := by
  unfold State.commitSegment
  split
  · unfold State.commitProgram
    exact (((Interior.modifySeg ..).trans (.append ..)).trans (.present ..)).capture
  · unfold State.commitMask
    split
    · exact ((Interior.freeOpt (s.setMaskImage b) _).trans (.settle _)).capture
    · exact ((Interior.freeSeg ..).trans (.settle _)).capture
  · exact ((Interior.freeSeg ..).trans (.settle _)).capture

/-- A commit empties the pending run and leaves the rest of the capture unit alone. -/
theorem State.commitBody_capture (s : State) (b : ContextBody) : (s.commitBody b).capture = { s.capture with pendingRun := [] } := by
  unfold State.commitBody
  rw [(Interior.appendRun ..).capture, State.executeEntries_capture, State.commitSegment_capture]
  unfold State.appendLead
  rw [(Interior.appendRun ..).capture]
  show { (s.latchCheck b).capture with pendingRun := [] } = _
  rw [(Interior.latchCheck ..).capture]

/-! ### The contexts' slots (R25 to R27) -/

/-- `contextsFit` for a list of contexts. -/
def ContextsFit (cs : List Context) : Prop :=
  cs.length ≤ 2 ∧ (cs.map (·.slot)).Nodup ∧ ∀ c ∈ cs, c.body = none ↔ c.state = .discard

/-- What `ContextsFit` sees of a context. -/
def Context.shape (c : Context) : Nat × ContextState × Bool := (c.slot, c.state, c.body.isNone)

theorem ContextsFit.of_shapes {cs ds : List Context} (h : cs.map Context.shape = ds.map Context.shape) (hd : ContextsFit ds) :
    ContextsFit cs := by
  obtain ⟨hlength, hslots, hbody⟩ := hd
  have hslot : cs.map (·.slot) = ds.map (·.slot) := by
    have := congrArg (List.map Prod.fst) h
    rwa [List.map_map, List.map_map] at this
  refine ⟨?_, hslot ▸ hslots, fun c hc => ?_⟩
  · have := congrArg List.length h
    rw [List.length_map, List.length_map] at this
    exact this ▸ hlength
  · obtain ⟨d, hd, hshape⟩ := List.mem_map.mp (h ▸ List.mem_map_of_mem hc)
    have hnone : d.body.isNone = c.body.isNone := congrArg (fun x => x.2.2) hshape
    have hstate : d.state = c.state := congrArg (fun x => x.2.1) hshape
    rw [← hstate, ← hbody d hd, ← Option.isNone_iff_eq_none, ← Option.isNone_iff_eq_none, hnone]

theorem ContextsFit.sublist {cs ds : List Context} (hd : ContextsFit ds) (h : cs.Sublist ds) : ContextsFit cs := by
  obtain ⟨hlength, hslots, hbody⟩ := hd
  exact ⟨Nat.le_trans h.length_le hlength, hslots.sublist (h.map _), fun c hc => hbody c (h.subset hc)⟩

theorem ContextsFit.append {cs : List Context} {c : Context} (hcs : ContextsFit cs) (hlength : cs.length ≤ 1) (hslot : c.slot ∉ cs.map (·.slot))
    (hbody : c.body = none ↔ c.state = .discard) : ContextsFit (cs ++ [c]) := by
  obtain ⟨-, hslots, hbodies⟩ := hcs
  refine ⟨by rw [List.length_append]; exact Nat.succ_le_succ hlength, ?_, fun x hx => ?_⟩
  · rw [List.map_append, List.nodup_append]
    refine ⟨hslots, nodup_one _, fun a ha b hb hab => hslot ?_⟩
    have hb : b = c.slot := List.mem_singleton.mp hb
    exact hb ▸ hab ▸ ha
  · obtain hx | hx := List.mem_append.mp hx
    · exact hbodies x hx
    · exact List.mem_singleton.mp hx ▸ hbody

theorem Context.trail_shape (run : List GapCause) (c : Context) : (c.trail run).shape = c.shape := by
  unfold Context.trail Context.shape
  cases c.body <;> rfl

theorem map_shape_of {cs : List Context} {f : Context → Context} (h : ∀ c ∈ cs, (f c).shape = c.shape) :
    (cs.map f).map Context.shape = cs.map Context.shape := by
  rw [List.map_map]
  exact List.map_congr_left h

theorem State.carryRun_shapes (s : State) (older : List Context) (run : List GapCause) :
    (s.carryRun older run).capture.contexts.map Context.shape = s.capture.contexts.map Context.shape := by
  unfold State.carryRun
  split
  · refine map_shape_of fun c _ => ?_
    split
    · exact c.trail_shape run
    · rfl
  · rfl

theorem State.displace_shapes (s : State) (k : Nat) :
    (s.displace k).capture.contexts.map Context.shape = (s.capture.contexts.filter fun c => c.slot != k).map Context.shape := by
  unfold State.displace
  split
  · next hnone =>
    rw [List.filter_eq_self.mpr fun c hc => bne_iff_ne.mpr fun h => List.find?_eq_none.mp hnone c hc (beq_iff_eq.mpr h)]
  · dsimp only
    split
    · rfl
    · rw [(Interior.settle _).capture, (Interior.freeSeg ..).capture, State.carryRun_shapes]
      rfl

/-- Once room has been made on slot `k`, at most one context is open, on another slot. -/
theorem State.makeRoom_contexts {s : State} (k : Nat) (hs : s.contextsFit) :
    (s.makeRoom k).contextsFit ∧ (s.makeRoom k).capture.contexts.length ≤ 1 ∧ k ∉ (s.makeRoom k).capture.contexts.map (·.slot) := by
  have hfit (t : State) (j : Nat) (ht : t.contextsFit) :
      (t.displace j).contextsFit := ContextsFit.of_shapes (t.displace_shapes j) (ContextsFit.sublist ht List.filter_sublist)
  have hslots (t : State) (j : Nat) :
      (t.displace j).capture.contexts.map (·.slot) = (t.capture.contexts.map (·.slot)).filter (· != j) := by
    have h := congrArg (List.map Prod.fst) (t.displace_shapes j)
    rw [List.map_map, List.map_map] at h
    rw [List.filter_map]
    exact h
  have hnot : k ∉ (s.displace k).capture.contexts.map (·.slot) := fun hk => by
    rw [hslots, List.mem_filter] at hk
    exact bne_iff_ne.mp hk.2 rfl
  unfold State.makeRoom
  dsimp only
  split
  · next c d rest hcontexts =>
    obtain ⟨hlength, -⟩ := hfit s k hs
    rw [hcontexts] at hlength
    have hrest : rest = [] := List.eq_nil_of_length_eq_zero (Nat.le_zero.mp (Nat.le_of_succ_le_succ (Nat.le_of_succ_le_succ hlength)))
    have hslots2 := hslots (s.displace k) c.slot
    rw [hcontexts, hrest, List.map_cons, List.filter_cons_of_neg (by simp)] at hslots2
    refine ⟨hfit _ _ (hfit s k hs), ?_, fun hk => hnot ?_⟩
    · have := congrArg List.length hslots2
      rw [List.length_map] at this
      rw [this]
      exact List.length_filter_le _ _
    · rw [hslots] at hk
      exact mem_of_mem_kept hk
  · next hcontexts =>
    refine ⟨hfit s k hs, ?_, hnot⟩
    match h : (s.displace k).capture.contexts with
    | [] => exact Nat.zero_le _
    | [_] => exact Nat.le_refl _
    | c :: d :: rest => exact absurd h (hcontexts c d rest)

theorem contextState_ne_discard (fill stop : Nat) : contextState fill stop ≠ .discard := by
  unfold contextState
  split <;> exact fun h => ContextState.noConfusion h

theorem State.openContext_shapes (s : State) (g : Geometry) (f : InFlight) (k : Nat) (h : CaptureHeader) (lead : List GapCause) :
    ∃ c, c.slot = k ∧ (c.body = none ↔ c.state = .discard) ∧
      (s.openContext g f k h lead).capture.contexts.map Context.shape = (s.capture.contexts ++ [c]).map Context.shape := by
  unfold State.openContext
  dsimp only
  split
  · next p _ =>
    have hfits (b : ContextBody) :
        (⟨k, contextState (max 64 f.req.length) h.payloadEnd, some b⟩ : Context).body = none ↔
          contextState (max 64 f.req.length) h.payloadEnd = .discard :=
      ⟨fun hbody => (Option.some_ne_none _ hbody).elim, fun hstate => absurd hstate (contextState_ne_discard _ _)⟩
    rw [← (Interior.allocate s).capture]
    exact ⟨_, rfl, hfits _, rfl⟩
  · refine ⟨{ slot := k, state := .discard, body := none }, rfl, ⟨fun _ => rfl, fun _ => rfl⟩, ?_⟩
    show ((State.carryRun _ _ _).capture.contexts ++ [_]).map _ = _
    rw [List.map_append, State.carryRun_shapes, State.raiseAll_capture, (Interior.allocate s).capture, ← List.map_append]

theorem State.acceptSequence_contexts (s : State) (q : Word) (event : Option Event) :
    (s.acceptSequence q event).capture.contexts = s.capture.contexts := by
  unfold State.acceptSequence
  cases event <;> rfl

/-- The new header opens one context, on its slot. -/
theorem State.readHeader_shapes (s : State) (g : Geometry) (f : InFlight) (k : Nat) :
    ∃ c, c.slot = k ∧ (c.body = none ↔ c.state = .discard) ∧
      (s.readHeader g f k).capture.contexts.map Context.shape = (s.capture.contexts ++ [c]).map Context.shape := by
  have hdiscard : ∃ c : Context, c.slot = k ∧ (c.body = none ↔ c.state = .discard) ∧
      (s.capture.contexts ++ [(⟨k, .discard, none⟩ : Context)]).map Context.shape = (s.capture.contexts ++ [c]).map Context.shape :=
    ⟨{ slot := k, state := .discard, body := none }, rfl, ⟨fun _ => rfl, fun _ => rfl⟩, rfl⟩
  unfold State.readHeader
  split
  · exact hdiscard
  · next h _ =>
    split
    · exact s.openContext_shapes g f k h []
    · split
      · exact hdiscard
      · next lead event _ =>
        rw [← s.acceptSequence_contexts h.seq event]
        exact (s.acceptSequence h.seq event).openContext_shapes g f k h lead

theorem State.commitNext_contexts {s t : State} (h : s.commitNext = some t) : t.capture.contexts.Sublist s.capture.contexts := by
  unfold State.commitNext at h
  split at h
  · cases h
  · split at h
    · split at h
      · cases h
        rw [State.commitBody_capture]
        exact List.filter_sublist
      · cases h
    · cases h

theorem State.commitReady_contexts (s : State) : s.commitReady.capture.contexts.Sublist s.capture.contexts := by
  unfold State.commitReady
  split
  · exact List.Sublist.refl _
  · next s1 h1 =>
    cases h2 : s1.commitNext with
    | none => exact State.commitNext_contexts h1
    | some s2 => exact (State.commitNext_contexts h2).trans (State.commitNext_contexts h1)

theorem Context.takeWrite_fits {c : Context} (o : Nat) (data : List Byte) (n : Nat) (h : c.body = none ↔ c.state = .discard) :
    (c.takeWrite o data n).slot = c.slot ∧ ((c.takeWrite o data n).body = none ↔ (c.takeWrite o data n).state = .discard) := by
  unfold Context.takeWrite
  split
  · exact ⟨rfl, h⟩
  · next hbody =>
    have hstate : c.state ≠ .discard := fun hd => by rw [h.mpr hd] at hbody; cases hbody
    refine ⟨rfl, ⟨fun hb => (Option.some_ne_none _ hb).elim, fun hd => ?_⟩⟩
    dsimp only at hd
    split at hd
    · exact absurd hd (contextState_ne_discard _ _)
    · exact absurd hd hstate

theorem ContextsFit.map {cs : List Context} {f : Context → Context} (hcs : ContextsFit cs)
    (hf : ∀ c, (c.body = none ↔ c.state = .discard) → (f c).slot = c.slot ∧ ((f c).body = none ↔ (f c).state = .discard)) :
    ContextsFit (cs.map f) := by
  obtain ⟨hlength, hslots, hbodies⟩ := hcs
  refine ⟨(List.length_map f).symm ▸ hlength, ?_, fun c hc => ?_⟩
  · have hslot : (cs.map f).map (·.slot) = cs.map (·.slot) := by
      rw [List.map_map]
      exact List.map_congr_left fun c hc => (hf c (hbodies c hc)).1
    rwa [hslot]
  · obtain ⟨c0, hc0, rfl⟩ := List.mem_map.mp hc
    exact (hf c0 (hbodies c0 hc0)).2

theorem State.headerWrite_contextsFit {s : State} (g : Geometry) (f : InFlight) (k : Nat) (hs : s.contextsFit) :
    (s.headerWrite g f k).contextsFit := by
  obtain ⟨hroom, hlength, hslot⟩ := s.makeRoom_contexts k hs
  obtain ⟨c, hc, hbody, hshapes⟩ := (s.makeRoom k).readHeader_shapes g f k
  have hopened : ContextsFit ((s.makeRoom k).readHeader g f k).capture.contexts :=
    .of_shapes hshapes (ContextsFit.append hroom hlength (hc ▸ hslot) hbody)
  exact hopened.sublist (State.commitReady_contexts _)

theorem State.payloadWrite_contextsFit {s : State} (g : Geometry) (f : InFlight) (k off : Nat) (hs : s.contextsFit) :
    (s.payloadWrite g f k off).contextsFit := by
  unfold State.payloadWrite
  split
  · exact hs
  · split
    · exact hs
    · refine ContextsFit.map hs fun c hc => ?_
      split
      · exact c.takeWrite_fits _ _ _ hc
      · exact ⟨rfl, hc⟩

theorem Context.takeAnswer_fits {c : Context} (p : Nat) (status : LinkStatus) (h : c.body = none ↔ c.state = .discard) :
    (c.takeAnswer p status).slot = c.slot ∧ ((c.takeAnswer p status).body = none ↔ (c.takeAnswer p status).state = .discard) := by
  refine ⟨rfl, Iff.trans ?_ h⟩
  exact Option.map_eq_none_iff

theorem State.captureAnswer_contextsFit {s : State} (p : Nat) (status : LinkStatus) (hs : s.contextsFit) :
    (s.captureAnswer p status).contextsFit := by
  have hanswered : ContextsFit (s.capture.contexts.map (Context.takeAnswer p status)) :=
    ContextsFit.map hs fun c hc => c.takeAnswer_fits p status hc
  unfold State.captureAnswer
  refine ContextsFit.sublist ?_ (State.commitReady_contexts _)
  split
  · rw [((Interior.countFault (s.setContexts _) p).trans (.settle _)).capture]
    exact hanswered
  · exact hanswered

theorem State.patternAnswer_capture (s : State) (g : Geometry) (run : PatternRun) (m : MRequest) (r : LinkResponse) :
    (s.patternAnswer g run m r).capture = s.capture := by
  have hlower (s : State) (u : MUse) : (s.lowerFor u).capture = s.capture := by unfold State.lowerFor; split <;> rfl
  have hverdict (s : State) (r : PatternRun) : (s.verdict r).capture = s.capture := by
    unfold State.verdict
    split
    · exact (State.takeTestable_capture ..).trans (((Interior.modifySeg s _ _).trans (.retire ..)).capture)
    · exact (State.takeTestable_capture ..).trans (Interior.freeSeg ..).capture
  unfold State.patternAnswer
  dsimp only
  split
  · rw [(Interior.settle _).capture, hverdict, State.setPattern_capture, hlower, State.dropOutstanding_capture]
  · rw [State.setPattern_capture, hlower, State.dropOutstanding_capture]

theorem State.accept_capture (s : State) (g : Geometry) (r : LinkRequest) : (s.accept g r).capture = s.capture := by
  unfold State.accept
  split <;> rfl

theorem State.meetRequest_capture (s : State) (r : LinkRequest) : (s.meetRequest r).capture = s.capture := by
  unfold State.meetRequest
  split
  · rfl
  · split
    · rfl
    · exact State.accept_capture ..

theorem State.servePlan_capture (s : State) (tag : Fin 64) (g : Geometry) (plan : FillPlan) (use : PartRead → MUse) :
    (s.servePlan tag g plan use).capture = s.capture := by
  unfold State.servePlan
  exact (foldl_capture (fun s (r : PartRead) => (Interior.raiseOutstanding s r.phys).capture) ..).trans
    (foldl_capture (fun s m => State.plan_capture (s := s) m) ..)

theorem State.tapRead_capture (s : State) (g : Geometry) (r : LinkRequest) (i : Fin 4) (j off : Nat) :
    (s.tapRead g r i j off).capture = s.capture := by
  have hcurrent (s : State) : (s.serveCurrent g r i off).capture = s.capture := by
    unfold State.serveCurrent
    split
    · rfl
    · exact State.servePlan_capture ..
  unfold State.tapRead
  split
  · exact State.servePlan_capture ..
  · exact hcurrent s
  · unfold State.servePrevious
    split
    · rfl
    · exact State.servePlan_capture ..
  · exact (hcurrent _).trans (Interior.advance s i j).capture
  · exact State.servePlan_capture ..

theorem State.linkReset_capture (s : State) : s.linkReset.capture = .powerOn := by
  unfold State.linkReset
  dsimp only
  rw [State.refreshTally_capture, (Interior.resetTimeline _).capture, State.dropPins_capture]
  unfold State.resetPattern
  split
  · rfl
  · exact (Interior.freeSeg ..).capture

theorem State.returnReply_capture (s : State) (tag : Fin 64) (f : InFlight) (reply : Reply) :
    (s.returnReply tag f reply).capture = s.capture := by
  unfold State.returnReply
  dsimp only
  split <;> rfl

theorem State.lowerFor_capture (s : State) (u : MUse) : (s.lowerFor u).capture = s.capture := by
  unfold State.lowerFor
  split <;> rfl

/-- Every command keeps the laws of the contexts. -/
theorem Effect.contextsFit {c : Instr} {s t : State} (h : Effect s c t) (hs : s.contextsFit) : t.contextsFit := by
  have hsame {u : State} (hu : u.capture = s.capture) : u.contextsFit := by
    unfold State.contextsFit
    rw [hu]
    exact hs
  have hempty {u : State} (hu : u.capture = .powerOn) : u.contextsFit := by
    unfold State.contextsFit
    rw [hu]
    exact ⟨Nat.zero_le _, List.nodup_nil, fun c hc => absurd hc List.not_mem_nil⟩
  cases h with
  | header => exact State.headerWrite_contextsFit _ _ _ hs
  | payload => exact State.payloadWrite_contextsFit _ _ _ _ hs
  | captureAnswer => exact State.captureAnswer_contextsFit _ _ hs
  | linkReset => exact hempty (State.linkReset_capture _)
  | powerOn => exact hempty rfl
  | endLoad _ _ h =>
    obtain ⟨-, u, contents, c, hard, invalid, -, rfl⟩ := h
    exact hsame (State.finishLoad_capture ..)
  | idle | startLoad | linkResetEnd | holdOff | lineMoves | lineTaken | blink | storePage | storeDone | storeTimeout | issue | passAnswer
  | patternIssue => exact hs
  | accept => exact hsame (State.meetRequest_capture ..)
  | tapRead => exact hsame (State.tapRead_capture ..)
  | reviewRead => exact hsame (State.servePlan_capture ..)
  | segmentAnswer => exact hsame (Interior.faultOn ..).capture
  | maskAnswer => exact hsame (Interior.faultOn ..).capture
  | reviewAnswer => exact hsame (Interior.faultOn ..).capture
  | patternAnswer => exact hsame (State.patternAnswer_capture ..)
  | drained => exact hsame (State.lowerFor_capture ..)
  | reply => exact hsame (State.returnReply_capture ..)
  | dump => exact hsame (Interior.dump (s.takeLine .dump)).capture
  | openMask => exact hsame (Interior.openMask (s.takeLine .mask)).capture
  | closeMask => exact hsame (Interior.closeMask (s.takeLine .mask)).capture
  | enter => exact hsame (Interior.setPanelTargets (s.takeLine .enter) _).capture
  | exit => exact hsame (Interior.setPanelTargets (s.takeLine .exit) _).capture

/-- Settles O10: a header write makes room before it opens its context, and only a request whose tag is in flight nowhere is accepted. -/
theorem contextsAndTagsStayApart : Obligations.ContextsAndTagsStayApart := by
  refine ⟨fun s t hs hstep => ?_, fun s t => step_tagsDistinct⟩
  unfold step at hstep
  split at hstep
  · cases hstep; exact hs
  · exact (exec_effect hstep).contextsFit hs

end Sys2Proof.Machine

/-! SUPPORT. The tally lines (R124, R177 to R179): what their conditions read, and the commands that leave all of it alone. -/

namespace Sys2Proof.Machine

/-- The tally conditions of `t` read what those of `s` do, and the lines are lit as they were. -/
structure TalliesKept (s t : State) : Prop where
  phase : t.startUp.phase = s.startUp.phase
  tallies : t.panel.tallies = s.panel.tallies
  config : t.store.config = s.store.config
  invalid : t.store.invalid = s.store.invalid
  timeline : t.timeline = s.timeline
  edits : t.edits = s.edits
  taps : ∀ i, ∃ latch, t.tap i = { s.tap i with latch := latch }

theorem TalliesKept.refl (s : State) : TalliesKept s s := ⟨rfl, rfl, rfl, rfl, rfl, rfl, fun i => ⟨(s.tap i).latch, rfl⟩⟩

/-- A change of the link, the capture unit, the pool or the queue. -/
theorem TalliesKept.of_eq {s t : State} (hstartUp : t.startUp = s.startUp) (hpanel : t.panel = s.panel) (hstore : t.store = s.store)
    (htimeline : t.timeline = s.timeline) (hedits : t.edits = s.edits) (htaps : t.taps = s.taps) : TalliesKept s t :=
  ⟨hstartUp ▸ rfl, hpanel ▸ rfl, hstore ▸ rfl, hstore ▸ rfl, htimeline, hedits,
    fun i => ⟨(s.tap i).latch, congrArg (fun v : PerTap Tap => v.get i) htaps⟩⟩

theorem TalliesKept.raiseAll (s : State) (e : Event) : TalliesKept s (s.raiseAll e) :=
  ⟨rfl, rfl, rfl, rfl, rfl, rfl, fun i => ⟨_, State.tap_raiseAll s e i⟩⟩

theorem TalliesKept.trans {s t u : State} (h : TalliesKept s t) (k : TalliesKept t u) : TalliesKept s u where
  phase := k.phase.trans h.phase
  tallies := k.tallies.trans h.tallies
  config := k.config.trans h.config
  invalid := k.invalid.trans h.invalid
  timeline := k.timeline.trans h.timeline
  edits := k.edits.trans h.edits
  taps := fun i => by
    obtain ⟨l, hl⟩ := h.taps i
    obtain ⟨m, hm⟩ := k.taps i
    exact ⟨m, by rw [hm, hl]⟩

theorem TalliesKept.conditions {s t : State} (h : TalliesKept s t) : t.tallyConditions = s.tallyConditions := by
  have hfield {α : Type} (f : Tap → α) (hf : ∀ x l, f { x with latch := l } = f x) (i : Fin 4) : f (t.tap i) = f (s.tap i) := by
    obtain ⟨l, hl⟩ := h.taps i
    rw [hl, hf]
  have hactive := hfield Tap.active fun _ _ => rfl
  have hbound := hfield Tap.bound fun _ _ => rfl
  have hdelay (i : Fin 4) : t.delay i = s.delay i := by
    unfold State.delay State.above State.droppedFor State.dropFor
    rw [hactive, hbound, h.timeline, h.edits]
  have hfault : t.faultLit = s.faultLit := by
    unfold State.faultLit
    rw [h.invalid, show (fun i => (t.tap i).stalled) = fun i => (s.tap i).stalled from funext (hfield Tap.stalled fun _ _ => rfl),
      show (fun i => (t.tap i).clampFlag) = fun i => (s.tap i).clampFlag from funext (hfield Tap.clampFlag fun _ _ => rfl)]
  unfold State.tallyConditions State.hasOpen
  rw [h.phase, h.config, hfault, h.edits]
  simp only [hactive, hdelay, hfield Tap.state fun _ _ => rfl, hfield Tap.dt fun _ _ => rfl, hfield Tap.mode fun _ _ => rfl]

theorem TalliesKept.talliesCurrent {s t : State} (h : TalliesKept s t) (hs : s.talliesCurrent) : t.talliesCurrent :=
  (h.tallies.trans hs).trans h.conditions.symm

theorem State.refreshTally_talliesCurrent (s : State) : s.refreshTally.talliesCurrent := rfl

theorem TalliesKept.absorbWrite (s : State) (f : InFlight) : TalliesKept s (s.absorbWrite f) := .of_eq rfl rfl rfl rfl rfl rfl

theorem TalliesKept.accept (s : State) (g : Geometry) (r : LinkRequest) : TalliesKept s (s.accept g r) := by
  unfold State.accept
  split
  · exact .trans (t := s.addFlight _) (.of_eq rfl rfl rfl rfl rfl rfl) (.raiseAll ..)
  · exact .trans (t := s.addFlight _) (.of_eq rfl rfl rfl rfl rfl rfl) (.raiseAll ..)
  all_goals exact .of_eq rfl rfl rfl rfl rfl rfl

theorem TalliesKept.meetRequest (s : State) (r : LinkRequest) : TalliesKept s (s.meetRequest r) := by
  unfold State.meetRequest
  split
  · exact .of_eq rfl rfl rfl rfl rfl rfl
  · split
    · exact .of_eq rfl rfl rfl rfl rfl rfl
    · exact .trans (t := s.setPresented none) (.of_eq rfl rfl rfl rfl rfl rfl) (.accept ..)

theorem TalliesKept.payloadWrite (s : State) (g : Geometry) (f : InFlight) (k off : Nat) : TalliesKept s (s.payloadWrite g f k off) := by
  unfold State.payloadWrite
  split
  · exact (TalliesKept.raiseAll ..).trans (.absorbWrite ..)
  · split
    · exact .absorbWrite ..
    · exact .of_eq rfl rfl rfl rfl rfl rfl

theorem TalliesKept.foldl {α : Type} {f : State → α → State} (h : ∀ s x, TalliesKept s (f s x)) (l : List α) (s : State) :
    TalliesKept s (l.foldl f s) := by
  induction l generalizing s with
  | nil => exact .refl s
  | cons x l ih => exact (h s x).trans (ih _)

theorem TalliesKept.servePlan (s : State) (tag : Fin 64) (g : Geometry) (plan : FillPlan) (use : PartRead → MUse) :
    TalliesKept s (s.servePlan tag g plan use) := by
  unfold State.servePlan
  refine .trans (.trans ?_ (.foldl (fun s m => ?_) _ _)) (.foldl (fun s r => ?_) _ _)
  all_goals exact .of_eq rfl rfl rfl rfl rfl rfl

theorem TalliesKept.lowerFor (s : State) (u : MUse) : TalliesKept s (s.lowerFor u) := by
  unfold State.lowerFor
  split
  · exact .refl s
  · exact .of_eq rfl rfl rfl rfl rfl rfl

theorem TalliesKept.returnReply (s : State) (tag : Fin 64) (f : InFlight) (reply : Reply) : TalliesKept s (s.returnReply tag f reply) := by
  unfold State.returnReply
  dsimp only
  split <;> exact .of_eq rfl rfl rfl rfl rfl rfl

theorem TalliesKept.setLine (s : State) (l : PanelLine) (x : LineState) : TalliesKept s (s.setLine l x) := by
  refine ⟨rfl, ?_, rfl, rfl, rfl, rfl, fun i => ⟨_, rfl⟩⟩
  cases l <;> rfl

/-- Every command either takes the lines anew at its end or leaves alone what their conditions read. -/
theorem Effect.talliesCurrent {c : Instr} {s t : State} (h : Effect s c t) (hs : s.talliesCurrent) : t.talliesCurrent := by
  cases h with
  | endLoad _ _ h =>
    obtain ⟨-, u, contents, c, hard, invalid, -, rfl⟩ := h
    exact State.refreshTally_talliesCurrent _
  | linkReset | header | tapRead | captureAnswer | segmentAnswer | maskAnswer | reviewAnswer | patternAnswer | dump | openMask | closeMask
  | enter | exit => exact State.refreshTally_talliesCurrent _
  | powerOn => rfl
  | startLoad straps hphase =>
    refine Eq.trans hs ?_
    unfold State.tallyConditions
    rw [hphase]
  | idle => exact hs
  | linkResetEnd => exact TalliesKept.talliesCurrent ⟨rfl, rfl, rfl, rfl, rfl, rfl, fun i => ⟨_, rfl⟩⟩ hs
  | blink => exact TalliesKept.talliesCurrent ⟨rfl, rfl, rfl, rfl, rfl, rfl, fun i => ⟨_, rfl⟩⟩ hs
  | storePage => exact TalliesKept.talliesCurrent ⟨rfl, rfl, rfl, rfl, rfl, rfl, fun i => ⟨_, rfl⟩⟩ hs
  | storeDone =>
    exact TalliesKept.talliesCurrent (.trans (t := { s with store := { s.store with contents := _, write := none } })
      ⟨rfl, rfl, rfl, rfl, rfl, rfl, fun i => ⟨_, rfl⟩⟩ (.raiseAll _ _)) hs
  | storeTimeout =>
    exact TalliesKept.talliesCurrent (.trans (t := { s with store := { s.store with write := none } })
      ⟨rfl, rfl, rfl, rfl, rfl, rfl, fun i => ⟨_, rfl⟩⟩ (.raiseAll _ _)) hs
  | accept => exact (TalliesKept.meetRequest ..).talliesCurrent hs
  | payload => exact (TalliesKept.payloadWrite ..).talliesCurrent hs
  | reviewRead => exact (TalliesKept.servePlan ..).talliesCurrent hs
  | issue | holdOff | passAnswer | patternIssue => exact TalliesKept.talliesCurrent (.of_eq rfl rfl rfl rfl rfl rfl) hs
  | drained =>
    exact TalliesKept.talliesCurrent
      (.trans (.trans (.of_eq rfl rfl rfl rfl rfl rfl) (.lowerFor (s.dropOutstanding _) _)) (.of_eq rfl rfl rfl rfl rfl rfl)) hs
  | reply => exact (TalliesKept.returnReply ..).talliesCurrent hs
  | lineMoves => exact (TalliesKept.setLine ..).talliesCurrent hs
  | lineTaken => exact (TalliesKept.setLine ..).talliesCurrent hs

/-! ### The conditions of Table 60 -/

theorem State.tallyConditions_of_not_running {s : State} (h : s.startUp.phase ≠ .running) : s.tallyConditions = Tallies.dark := by
  unfold State.tallyConditions
  split
  · rfl
  · rfl
  · next hphase => exact absurd hphase h

theorem State.droppedFor_eq (s : State) (i : Fin 4) (x : Word) :
    s.droppedFor i x = s.edits.any fun d => d.kind == .drop && hasTap d.taps i && d.covers x := List.isSome_find?

theorem Tap.active_iff (x : Tap) : x.active = true ↔ x.state ≠ .off := by
  unfold Tap.active
  cases x.state <;> decide

/-- The delay of an active tap counts the entries above its bound that no DROP covers for it. -/
theorem State.delay_eq {s : State} {i : Fin 4} (h : (s.tap i).state ≠ .off) :
    s.delay i = (s.timeline.entries.filter fun e => serialLt (s.tap i).bound e.pi &&
      !s.edits.any fun d => d.kind == .drop && hasTap d.taps i && d.covers e.pi).length := by
  unfold State.delay State.above
  rw [if_pos ((Tap.active_iff _).mpr h), List.filter_filter]
  simp only [State.droppedFor_eq, Bool.and_comm]

theorem State.delay_of_off {s : State} {i : Fin 4} (h : (s.tap i).state = .off) : s.delay i = 0 := by
  unfold State.delay
  rw [if_neg fun hactive => (Tap.active_iff _).mp hactive h]

theorem any_tapIds (f : Fin 4 → Bool) : tapIds.any f = true ↔ ∃ i, f i = true := by
  rw [List.any_eq_true]
  exact ⟨fun ⟨i, _, hi⟩ => ⟨i, hi⟩, fun ⟨i, hi⟩ => ⟨i, mem_tapIds i, hi⟩⟩

/-- Settles O3: every command leaves the lines at their conditions, which in a run are those of Table 60. -/
theorem talliesFollowTheirConditions : Obligations.TalliesFollowTheirConditions := by
  intro s t hs hstep
  have ht : t.talliesCurrent := by
    unfold step at hstep
    split at hstep
    · cases hstep; exact hs
    · exact (exec_effect hstep).talliesCurrent hs
  refine ⟨ht, fun hphase => ht.trans (State.tallyConditions_of_not_running hphase), fun hphase => ?_⟩
  intro i x dropped d
  have hd (h : x.state ≠ .off) : t.delay i = d := State.delay_eq h
  rw [show t.panel.tallies = t.tallyConditions from ht]
  unfold State.tallyConditions
  rw [hphase]
  dsimp only
  refine ⟨?_, ?_, ?_, ?_, ?_⟩
  · rw [Bool.and_eq_true, Bool.and_eq_true, decide_eq_true_iff, decide_eq_true_iff, beq_iff_eq, and_assoc]
    refine and_congr_right fun hrun => ?_
    rw [hd fun hoff => by rw [hoff] at hrun; cases hrun]
  · rw [Bool.and_eq_true, beq_iff_eq, Tap.active_iff]
  · rw [decide_eq_true_iff]
    by_cases hoff : x.state = .off
    · rw [State.delay_of_off hoff]
      exact ⟨fun h => absurd h (by decide), fun h => absurd hoff h.1⟩
    · rw [hd hoff]
      exact ⟨fun h => ⟨hoff, h⟩, fun h => h.2⟩
  · unfold State.hasOpen
    rw [List.any_eq_true]
    simp only [beq_iff_eq]
  · unfold State.faultLit
    rw [Bool.or_eq_true, Bool.or_eq_true, any_tapIds, any_tapIds, or_assoc, ← exists_or]

end Sys2Proof.Machine

/-! SUPPORT. The link interposer: hold-off (R4, Table 6), the classes of requests outside the illegal ones (R6, R8 to R12), the issue of M-side
requests (R4, R13), drained and unknown responses (R3, R17), and the return of composed ones (R2, R17). -/

namespace Sys2Proof.Machine

/-! ### Hold-off (R4, Table 6) -/

/-- A request that arrives while the P-side is held off, or before the geometry is known, waits. -/
theorem exec_pRequestAccept_waits {s : State} {r : LinkRequest} (hwf : r.wf = true)
    (hfront : s.link.presented = none ∨ s.link.presented = some r) (hheld : s.holdsOff r = true) :
    exec (.pRequestAccept r) s = .next (s.setPresented (some r)) := by
  have hmeet : s.meetRequest r = s.setPresented (some r) := by
    unfold State.meetRequest
    split
    · rfl
    · rw [if_pos hheld]
  rw [exec_pRequestAccept, execPRequestAccept, if_pos hwf]
  obtain hnone | hsame := hfront
  · rw [hnone, hmeet]
  · rw [hsame, hmeet]
    exact if_pos rfl

theorem State.lacksTags_eq {s : State} {g : Geometry} (r : LinkRequest) (hg : s.link.geometry = some g) :
    s.lacksTags r = ((g.classify r == .tap || g.classify r == .review) && decide (s.freeTags.length < 5)) := by
  unfold State.lacksTags
  rw [hg]
  rfl

/-- Each row of Table 6 holds the P-side off. -/
theorem State.holdsOff_iff (s : State) (r : LinkRequest) :
    s.holdsOff r = true ↔
      s.startUp.phase ≠ .running ∨ s.startUp.lrstAsserted = true ∨ (∃ f ∈ s.link.inflight, f.owed = true) ∨ s.link.mHoldOff = true ∨
        (∃ f ∈ s.link.inflight, f.req.tag = r.tag) ∨
        ∃ g, s.link.geometry = some g ∧ (g.classify r = .tap ∨ g.classify r = .review) ∧ s.freeTags.length < 5 := by
  have howes : s.owes = true ↔ ∃ f ∈ s.link.inflight, f.owed = true := List.any_eq_true
  have hentry : (s.entry r.tag).isSome = true ↔ ∃ f ∈ s.link.inflight, f.req.tag = r.tag := by
    simp only [State.entry, List.find?_isSome, beq_iff_eq]
  have hlacks : s.lacksTags r = true ↔
      ∃ g, s.link.geometry = some g ∧ (g.classify r = .tap ∨ g.classify r = .review) ∧ s.freeTags.length < 5 := by
    cases hg : s.link.geometry with
    | none => simp [State.lacksTags, hg]
    | some g => simp [State.lacksTags_eq r hg]
  unfold State.holdsOff
  simp only [Bool.or_eq_true, bne_iff_ne, howes, hentry, hlacks, or_assoc]

/-- Settles O22: the rows of Table 6 are the disjuncts of `holdsOff`. -/
theorem heldOffRequestsWait : Obligations.HeldOffRequestsWait := by
  refine ⟨fun s r hwf => ⟨fun hfront hheld => ?_, fun r0 hfront hne => ?_⟩, fun s holding => rfl⟩
  · exact exec_pRequestAccept_waits hwf hfront ((s.holdsOff_iff r).mpr hheld)
  · rw [exec_pRequestAccept, execPRequestAccept, if_pos hwf, hfront]
    exact if_neg hne

/-! ### The classes (R6) -/

theorem request_has_first (r : LinkRequest) : requestHas r r.addr.toNat := ⟨Nat.le_refl _, Nat.lt_add_of_pos_right (request_length_pos r)⟩

/-- The second row of Table 7. -/
theorem Geometry.classify_guarded {g : Geometry} {r : LinkRequest} (hl : isLegal r) (ht : ∃ a, requestHas r a ∧ g.inBacking a) :
    g.classify r = .guarded := by
  have hlegal := (requestLegal_iff r).mpr hl
  have htouch := (g.touchesBacking_iff r).mpr ht
  simp [Geometry.classify, hlegal, htouch]

/-- The third row: a request that touches neither region. -/
theorem Geometry.classify_pass {g : Geometry} {r : LinkRequest} (h : ∀ a, requestHas r a → ¬ g.inAperture a ∧ ¬ g.inBacking a) :
    g.classify r = .pass := by
  have haperture : g.touchesAperture r = false :=
    Bool.eq_false_iff.mpr fun ht => by obtain ⟨a, ha, hin⟩ := (g.touchesAperture_iff r).mp ht; exact (h a ha).1 hin
  have hbacking : g.touchesBacking r = false :=
    Bool.eq_false_iff.mpr fun ht => by obtain ⟨a, ha, hin⟩ := (g.touchesBacking_iff r).mp ht; exact (h a ha).2 hin
  simp [Geometry.classify, haperture, hbacking]

theorem Geometry.slotOf_of_inSlot {g : Geometry} {r : LinkRequest} {n : Nat} (h : g.inSlot r n) : g.slotOf r.addr = n := by
  obtain ⟨-, -, hlow, hhigh, -⟩ := h
  have hbelow : r.addr.toNat - g.apertureBase.toNat < (n + 1) * g.segSize := by omega
  have habove : n * g.segSize ≤ r.addr.toNat - g.apertureBase.toNat := by omega
  exact Nat.div_eq_of_lt_le habove hbelow

/-- The last rows: a legal request that begins in a slot of the aperture and stays out of the backing region goes by window and direction. -/
theorem Geometry.classify_of_inSlot {g : Geometry} {r : LinkRequest} {n : Nat} (h : g.inSlot r n) :
    g.classify r =
      match windowOf n, r.op with
      | .capture _, .write => .capture
      | .capture _, .read => .zero
      | .tap _ _, .write => .absorbed
      | .review _, .write => .absorbed
      | .tap _ _, .read => .tap
      | .review _, .read => .review := by
  have hslot := Geometry.slotOf_of_inSlot h
  obtain ⟨hl, hn, hlow, hhigh, hout⟩ := h
  have hlegal := (requestLegal_iff r).mpr hl
  have hbacking : g.touchesBacking r = false :=
    Bool.eq_false_iff.mpr fun ht => by obtain ⟨a, ha, hin⟩ := (g.touchesBacking_iff r).mp ht; exact hout a ha hin
  have hspan : (n + 1) * g.segSize ≤ 296 * g.segSize := Nat.mul_le_mul_right _ hn
  have haperture : g.touchesAperture r = true :=
    (g.touchesAperture_iff r).mpr ⟨_, request_has_first r, by omega, by omega⟩
  simp only [Geometry.classify, hlegal, hbacking, haperture, hslot, Bool.not_true, Bool.false_and, Bool.and_false]
  rfl

theorem windowOf_capture {n : Nat} (h : n < 8) : windowOf n = .capture n := if_pos h

/-- Past the capture window a slot belongs to a tap below 40, and to the review window from there on. -/
theorem windowOf_past_capture {n : Nat} (h : 8 ≤ n) :
    if n < 40 then ∃ i j, windowOf n = .tap i j else windowOf n = .review (n - 40) := by
  unfold windowOf
  rw [if_neg (Nat.not_lt.mpr h)]
  split
  · next h40 =>
    split
    · exact ⟨_, _, rfl⟩
    · split
      · exact ⟨_, _, rfl⟩
      · split
        · exact ⟨_, _, rfl⟩
        · exact ⟨_, _, rfl⟩
  · next h40 =>
    rw [if_neg (by omega), if_neg (by omega), if_neg (by omega)]

/-! ### GUARDED, ZERO, ABSORBED (R9, R10) -/

theorem zeroData_of_write {r : LinkRequest} (h : r.op = .write) : zeroData r = [] := by
  unfold zeroData
  rw [h]

/-- Settles O24: the row of Table 7 that matches answers the request at its acceptance. -/
theorem guardedAndDegradedRequestsAreAnsweredOk : Obligations.GuardedAndDegradedRequestsAreAnsweredOk := by
  intro s g r ha hg answered
  have haccept {cls : ReqClass} (hc : g.classify r = cls) (htap : cls ≠ .tap) (hreview : cls ≠ .review) :=
    exec_pRequestAccept_accepts ha hg (State.lacksTags_eq_false hg (hc ▸ htap) (hc ▸ hreview))
  refine ⟨fun hl ht => ?_, fun n hslot hn hop => ?_, fun n hslot hn hop => ?_⟩
  · have hc := Geometry.classify_guarded hl ht
    rw [haccept hc (fun h => ReqClass.noConfusion h) fun h => ReqClass.noConfusion h, State.accept, hc]
    rfl
  · have hc : g.classify r = .zero := by rw [Geometry.classify_of_inSlot hslot, windowOf_capture hn, hop]
    rw [haccept hc (fun h => ReqClass.noConfusion h) fun h => ReqClass.noConfusion h, State.accept, hc]
    rfl
  · have hc : g.classify r = .absorbed := by
      have hwindow := windowOf_past_capture hn
      rw [Geometry.classify_of_inSlot hslot, hop]
      split at hwindow
      · obtain ⟨i, j, hwindow⟩ := hwindow
        rw [hwindow]
      · rw [hwindow]
    rw [haccept hc (fun h => ReqClass.noConfusion h) fun h => ReqClass.noConfusion h, State.accept, hc]
    simp only [answered, zeroData_of_write hop]
    rfl

/-! ### CAPTURE, TAP and REVIEW (R11, R12, R15) -/

theorem internalTags_nodup : internalTags.Nodup := by decide

theorem le_of_mem_internalTags {t : Fin 128} (h : t ∈ internalTags) : 64 ≤ t.val := by
  revert t
  decide

theorem State.freeTags_nodup (s : State) : s.freeTags.Nodup := internalTags_nodup.filter _

theorem State.mem_freeTags {s : State} {t : Fin 128} (h : t ∈ s.freeTags) : 64 ≤ t.val ∧ s.tagFree t = true :=
  ⟨le_of_mem_internalTags (mem_of_mem_kept h), (List.mem_filter.mp h).2⟩

theorem State.lacksTags_of_five {s : State} {g : Geometry} {r : LinkRequest} (hg : s.link.geometry = some g) (h : 5 ≤ s.freeTags.length) :
    s.lacksTags r = false := by
  rw [State.lacksTags_eq r hg, decide_eq_false (Nat.not_lt.mpr h), Bool.and_false]

/-- Settles O26: a capture write needs no internal tag, and a read reserves the five lowest free ones. -/
theorem windowRequestsAreTakenIn : Obligations.WindowRequestsAreTakenIn := by
  intro s g r n ha hg hslot
  refine ⟨fun hn hop => ?_, fun hn hop hfive => ?_⟩
  · have hc : g.classify r = .capture := by rw [Geometry.classify_of_inSlot hslot, windowOf_capture hn, hop]
    have hlacks : s.lacksTags r = false := State.lacksTags_eq_false hg (by rw [hc]; decide) (by rw [hc]; decide)
    rw [exec_pRequestAccept_accepts ha hg hlacks, State.accept, hc]
    rfl
  · have hc : g.classify r = if n < 40 then .tap else .review := by
      have hwindow := windowOf_past_capture hn
      rw [Geometry.classify_of_inSlot hslot, hop]
      by_cases h40 : n < 40
      · rw [if_pos h40] at hwindow ⊢
        obtain ⟨i, j, hwindow⟩ := hwindow
        rw [hwindow]
      · rw [if_neg h40] at hwindow ⊢
        rw [hwindow]
    refine ⟨s.freeTags.take 5, List.length_take_of_le hfive, s.freeTags_nodup.sublist (List.take_sublist ..),
      fun t ht => State.mem_freeTags (List.mem_of_mem_take ht), ?_⟩
    rw [exec_pRequestAccept_accepts ha hg (State.lacksTags_of_five hg hfive), State.accept, hc]
    by_cases hfirst : n < 40
    · rw [if_pos hfirst]
      rfl
    · rw [if_neg hfirst]
      rfl

/-! ### PASS (R8) -/

theorem forwardTag_val (tag : Fin 64) : (forwardTag tag).val = tag.val := Nat.mod_eq_of_lt (Nat.lt_trans tag.isLt (by decide))

/-- The P-side tag of a forwarded request's answer is the one it was forwarded under. -/
theorem ofNat_forwardTag (tag : Fin 64) : Fin.ofNat 64 (forwardTag tag).val = tag := by
  rw [forwardTag_val]
  exact Fin.ext (Nat.mod_eq_of_lt tag.isLt)

theorem State.answers_eq_some {s : State} {a : LinkResponse} {m : MRequest}
    (hfind : s.link.outstanding.find? (fun x => x.tag == a.tag) = some m) (hdraining : m.draining = false)
    (hfits : m.op = .read → a.data.length = m.length) : s.answers a = some m := by
  have hfit : m.fits a = true := by
    unfold MRequest.fits
    cases hop : m.op with
    | read => exact beq_iff_eq.mpr (hfits hop)
    | write => rfl
  unfold State.answers State.outstandingUnder
  rw [hfind, Option.filter_some, hdraining, hfit]
  rfl

theorem MRequest.dataOf_eq (m : MRequest) (a : LinkResponse) : m.dataOf a = if m.op = .read then a.data else [] := by
  unfold MRequest.dataOf
  cases m.op <;> rfl

/-- The answer of a forwarded request, returned under its P-side tag. -/
theorem State.returnForwarded_eq (s : State) {m : MRequest} (a : LinkResponse) {p : Fin 64} (htag : m.tag = forwardTag p) :
    s.returnForwarded m a =
      { s with link :=
          { s.link with
            outstanding := s.link.outstanding.filter fun x => x.tag != m.tag
            inflight := s.link.inflight.filter fun f => f.req.tag != p
            lastReturned := some ⟨p, ⟨a.status, if m.op = .read then a.data else []⟩⟩ } } := by
  have hp : Fin.ofNat 64 m.tag.val = p := htag ▸ ofNat_forwardTag p
  unfold State.returnForwarded
  dsimp only
  rw [hp, MRequest.dataOf_eq]
  rfl

/-- A tag below 64 is no internal tag, so a forwarded request takes none. -/
theorem forwardTag_not_mem_internalTags (tag : Fin 64) : forwardTag tag ∉ internalTags := fun h => by
  have h64 := le_of_mem_internalTags h
  rw [forwardTag_val] at h64
  exact absurd tag.isLt (Nat.not_lt.mpr h64)

/-- Settles O25: a request outside both regions is planned under its own tag, which stays in flight until its answer. -/
theorem passRequestsGoThroughUnchanged : Obligations.PassRequestsGoThroughUnchanged := by
  refine ⟨fun s g r ha hg hout => ?_, fun s m p a hfind huse hdraining htag hfits => ?_⟩
  · have hc := Geometry.classify_pass hout
    have hlacks : s.lacksTags r = false := State.lacksTags_eq_false hg (by rw [hc]; decide) (by rw [hc]; decide)
    have haccept := exec_pRequestAccept_accepts ha hg hlacks
    rw [State.accept, hc] at haccept
    refine ⟨_, haccept, ?_, rfl, fun r2 hwf htag => ?_⟩
    · refine List.filter_congr fun t ht => ?_
      have hne : (forwardTag r.tag == t) = false := beq_eq_false_iff_ne.mpr fun h => forwardTag_not_mem_internalTags r.tag (h ▸ ht)
      simp [State.tagFree, State.setPresented, State.addFlight, State.plan, flight, hne]
    · refine exec_pRequestAccept_waits hwf (.inl rfl) ((State.holdsOff_iff _ _).mpr ?_)
      exact .inr (.inr (.inr (.inr (.inl ⟨flight r .pass .waitingM, List.mem_append_right _ (List.mem_singleton.mpr rfl), htag.symm⟩))))
  · have hexec : exec (.passResponse a) s = execPassResponse a s := rfl
    rw [hexec, execPassResponse, State.answers_eq_some hfind hdraining hfits]
    dsimp only
    rw [huse]
    exact congrArg Host.Outcome.next (State.returnForwarded_eq s a htag)

end Sys2Proof.Machine

/-! SUPPORT. The issue of planned M-side requests in their order (R4, R13), the responses of draining requests and of none (R3, R16, R17), and
the return of composed and owed responses (R2, R17). -/

namespace Sys2Proof.Machine

/-! ### The issue of M-side requests (R4, R13) -/

theorem exec_mSideIssue_of_planned {s : State} {m : MRequest} (h : s.link.planned.find? (fun x => x.tag == m.tag) = some m) :
    exec (.mSideIssue m.tag) s = if s.link.mHoldOff || !s.mayIssue m then .next s else .next (s.issue m) := by
  have hexec : exec (.mSideIssue m.tag) s = execMSideIssue m.tag s := rfl
  rw [hexec, execMSideIssue, h]

theorem State.mayIssue_of_internal {s : State} {m : MRequest} (h : 64 ≤ m.tag.val) : s.mayIssue m = true :=
  if_neg (Nat.not_lt.mpr h)

/-- The entries accepted before a forwarded request are those that stand before its own in the table. -/
theorem takeWhile_before {before after : List InFlight} {f : InFlight} {t : Fin 128} (hf : forwardTag f.req.tag = t)
    (hbefore : ∀ x ∈ before, forwardTag x.req.tag ≠ t) :
    (before ++ f :: after).takeWhile (fun f => forwardTag f.req.tag != t) = before := by
  rw [List.takeWhile_append_of_pos fun x hx => bne_iff_ne.mpr (hbefore x hx), List.takeWhile_cons_of_neg (by simp [hf]), List.append_nil]

/-- A forwarded request may be issued exactly when every PASS or CAPTURE request before it has been issued. -/
theorem State.mayIssue_iff {s : State} {m : MRequest} {before after : List InFlight} {f : InFlight} (hlow : m.tag.val < 64)
    (htable : s.link.inflight = before ++ f :: after) (hf : forwardTag f.req.tag = m.tag)
    (hbefore : ∀ x ∈ before, forwardTag x.req.tag ≠ m.tag) :
    s.mayIssue m = true ↔ ∀ e ∈ before, e.cls = .pass ∨ e.cls = .capture →
      e.phase ≠ .arriving ∧ ∀ x ∈ s.link.planned, x.tag ≠ forwardTag e.req.tag := by
  unfold State.mayIssue
  rw [if_pos hlow, htable, takeWhile_before hf hbefore, List.all_eq_true]
  refine forall₂_congr fun e _ => ?_
  simp only [Bool.not_eq_true', Bool.and_eq_false_imp, Bool.or_eq_true, Bool.or_eq_false_iff, beq_iff_eq, beq_eq_false_iff_ne,
    List.any_eq_false]

/-- Settles O27: a forwarded request is issued when the entries before its own in the table have no request left to issue. -/
theorem mSideIssueKeepsForwardedOrder : Obligations.MSideIssueKeepsForwardedOrder := by
  intro s m hplanned
  rw [exec_mSideIssue_of_planned hplanned]
  refine ⟨fun hheld => by rw [hheld]; rfl, fun hfree hmay => ?_, fun before f e after hlow htable hf hbefore he hcls hleft => ?_⟩
  · have hissue : s.mayIssue m = true := by
      obtain hinternal | ⟨before, f, after, htable, hf, hbefore⟩ := hmay
      · exact State.mayIssue_of_internal hinternal
      · by_cases hlow : m.tag.val < 64
        · exact (State.mayIssue_iff hlow htable hf fun x hx => (hbefore x hx).1).mpr fun e he => (hbefore e he).2
        · exact State.mayIssue_of_internal (Nat.le_of_not_lt hlow)
    rw [hfree, hissue]
    rfl
  · have hwait : s.mayIssue m = false := Bool.eq_false_iff.mpr fun hissue => by
      obtain ⟨hphase, hnone⟩ := (State.mayIssue_iff hlow htable hf hbefore).mp hissue e he hcls
      obtain harriving | ⟨x, hx, htag⟩ := hleft
      · exact hphase harriving
      · exact hnone x hx htag
    rw [hwait, Bool.not_false, Bool.or_true]
    rfl

/-! ### Draining and unknown responses (R3, R16, R17) -/

theorem State.answers_eq_none {s : State} {a : LinkResponse} (h : s.outstandingUnder a.tag = none) : s.answers a = none := by
  unfold State.answers
  rw [h, Option.filter_none]

theorem State.unanswered_of_none {s : State} {a : LinkResponse} (h : s.outstandingUnder a.tag = none) : s.unanswered a = .next s := by
  unfold State.unanswered
  rw [h]

theorem State.lowerFor_seg? (s : State) (u : MUse) (p : Nat) :
    (s.lowerFor u).seg? p =
      if u.segment? = some p then (s.seg? p).map fun g => { g with outstanding := g.outstanding - 1 } else s.seg? p := by
  unfold State.lowerFor
  cases hseg : u.segment? with
  | none => rfl
  | some q =>
    dsimp only
    unfold State.lowerOutstanding
    rw [State.seg_modifySeg]
    simp only [Option.some.injEq]

/-- The count on a request's segment is all that falls with it. -/
theorem State.lowerFor_eq (s : State) (u : MUse) : s.lowerFor u = { s with pool := { s.pool with segs := (s.lowerFor u).pool.segs } } := by
  unfold State.lowerFor
  cases u.segment? <;> rfl

/-- Settles O28: what a drained response changes is written out by `State.lowerFor_seg?`, and an unknown one finds no request. -/
theorem drainedAndUnknownResponsesHaveNoOtherEffect : Obligations.DrainedAndUnknownResponsesHaveNoOtherEffect := by
  intro s a
  refine ⟨fun m hfind hdraining => ?_, fun hnone => ?_⟩
  · have hunder : s.outstandingUnder a.tag = some m := hfind
    have hexec : exec (.drainedResponse a) s = execDrainedResponse a s := rfl
    refine ⟨((s.dropOutstanding m.tag).lowerFor m.use).releaseDrained m, ?_, ?_, fun p => ?_⟩
    · rw [hexec, execDrainedResponse, hunder]
      exact if_pos hdraining
    · rw [State.lowerFor_eq]
      rfl
    · exact (s.dropOutstanding m.tag).lowerFor_seg? m.use p
  · have hunder : s.outstandingUnder a.tag = none := hnone
    have hdiscard := State.unanswered_of_none hunder
    have hanswers := State.answers_eq_none hunder
    refine ⟨?_, ?_, ?_, ?_, ?_, ?_, ?_, ?_⟩
    · show execUnknownTagResponse a s = _
      rw [execUnknownTagResponse, hunder]
    · show execDrainedResponse a s = _
      rw [execDrainedResponse, hunder]
    · show execPassResponse a s = _
      rw [execPassResponse, hanswers, hdiscard]
    · show execCaptureWriteResponse a s = _
      rw [execCaptureWriteResponse, hanswers, hdiscard]
    · show execTapSegmentPartResponse a s = _
      rw [execTapSegmentPartResponse, hanswers, hdiscard]
    · show execMaskPartResponse a s = _
      rw [execMaskPartResponse, hanswers, hdiscard]
    · show execReviewPartResponse a s = _
      rw [execReviewPartResponse, hanswers, hdiscard]
    · show execPatternResponse a s = _
      rw [execPatternResponse, hanswers, hdiscard]

/-! ### The return of a composed response (R2, R17) -/

theorem exec_responseReturn_of_ready {s : State} {tag : Fin 64} {f : InFlight} {reply : Reply} (hentry : s.entry tag = some f)
    (hphase : f.phase = .ready) (hreply : f.reply = some reply) :
    exec (.responseReturn tag) s = if f.owed && s.startUp.lrstAsserted then .next s else .next (s.returnReply tag f reply) := by
  rw [exec_responseReturn, execResponseReturn, hentry]
  dsimp only
  rw [hphase, hreply]

theorem State.drains_iff (s : State) (tag : Fin 64) :
    s.drains tag = true ↔ ∃ m ∈ s.link.planned ++ s.link.outstanding, m.tag = forwardTag tag := by
  simp only [State.drains, List.any_eq_true, beq_iff_eq]

/-- Settles O29: an owed response waits for LRSTn, and its tag for the forwarded request that drains. -/
theorem composedResponsesReturnOnce : Obligations.ComposedResponsesReturnOnce := by
  intro s tag f reply hentry hphase hreply
  rw [exec_responseReturn_of_ready hentry hphase hreply]
  refine ⟨fun howed hlrst => ?_, fun hfree hdrained => ?_, fun howed hlrst hdrains => ?_⟩
  · rw [howed, hlrst]
    rfl
  · have hreturn : (f.owed && s.startUp.lrstAsserted) = false := Bool.and_eq_false_iff.mpr hfree
    have hleaves : (f.owed && s.drains tag) = false := by
      refine Bool.and_eq_false_iff.mpr (hdrained.imp_right fun hnone => Bool.eq_false_iff.mpr fun hdrains => ?_)
      obtain ⟨m, hm, htag⟩ := (s.drains_iff tag).mp hdrains
      exact hnone m hm htag
    rw [hreturn, State.returnReply, hleaves]
    rfl
  · have hdrains := (s.drains_iff tag).mpr hdrains
    rw [howed, hlrst, State.returnReply, howed, hdrains]
    simp [State.putReply, State.modifyFlight]

end Sys2Proof.Machine

/-! SUPPORT. A setting or a tap value replaced for every tap of a mask, and the panel lines (R131, R176, R179). -/

namespace Sys2Proof.Machine

/-! ### One value for each tap -/

/-- The value `f i` for each tap `i`. -/
def PerTap.of {α : Type} (f : Fin 4 → α) : PerTap α := ⟨f 0, f 1, f 2, f 3⟩

@[simp] theorem PerTap.get_of {α : Type} (f : Fin 4 → α) (i : Fin 4) : (PerTap.of f).get i = f i := by
  match i with
  | 0 => rfl
  | 1 => rfl
  | 2 => rfl
  | 3 => rfl

theorem mem_tapsOf (m : BitVec 4) (i : Fin 4) : i ∈ tapsOf m ↔ hasTap m i = true := by
  unfold tapsOf
  rw [List.mem_filter, and_iff_right (mem_tapIds i)]

theorem tapsOf_nodup (m : BitVec 4) : (tapsOf m).Nodup := List.Pairwise.filter _ (by decide)

/-- `s` with the settings and the values of all taps replaced. -/
def State.withControls (s : State) (w : PerTap TapSettings) (v : PerTap Tap) : State :=
  { s with taps := v, store := { s.store with config := { s.store.config with taps := w } } }

/-- Replacing settings and value of one tap after the other replaces them for all of them. -/
theorem foldl_setControl (F : TapSettings → TapSettings) (G : TapSettings → Tap → Tap) {l : List (Fin 4)} (hl : l.Nodup) (s : State) :
    l.foldl (fun s t => s.setControl t (F (s.settings t)) (G (s.settings t) (s.tap t))) s =
      s.withControls (.of fun i => if i ∈ l then F (s.settings i) else s.settings i)
        (.of fun i => if i ∈ l then G (s.settings i) (s.tap i) else s.tap i) := by
  induction l generalizing s with
  | nil => rfl
  | cons t l ih =>
    obtain ⟨hnot, hl⟩ := List.nodup_cons.mp hl
    have hw (i : Fin 4) :
        (if i ∈ l then F ((s.setControl t (F (s.settings t)) (G (s.settings t) (s.tap t))).settings i)
          else (s.setControl t (F (s.settings t)) (G (s.settings t) (s.tap t))).settings i) =
        if i ∈ t :: l then F (s.settings i) else s.settings i := by
      rw [State.setControl_settings_get]
      by_cases hi : i = t
      · subst hi
        simp [hnot]
      · simp [hi]
    have hv (i : Fin 4) :
        (if i ∈ l then
            G ((s.setControl t (F (s.settings t)) (G (s.settings t) (s.tap t))).settings i)
              ((s.setControl t (F (s.settings t)) (G (s.settings t) (s.tap t))).tap i)
          else (s.setControl t (F (s.settings t)) (G (s.settings t) (s.tap t))).tap i) =
        if i ∈ t :: l then G (s.settings i) (s.tap i) else s.tap i := by
      rw [State.setControl_settings_get, State.setControl_tap_get]
      by_cases hi : i = t
      · subst hi
        simp [hnot]
      · simp [hi]
    rw [List.foldl_cons, ih hl]
    simp only [hw, hv]
    rfl

/-- The same for a mask of taps. -/
theorem forTaps_setControl (F : TapSettings → TapSettings) (G : TapSettings → Tap → Tap) (m : BitVec 4) (s : State) :
    (tapsOf m).foldl (fun s t => s.setControl t (F (s.settings t)) (G (s.settings t) (s.tap t))) s =
      s.withControls (.of fun i => if hasTap m i then F (s.settings i) else s.settings i)
        (.of fun i => if hasTap m i then G (s.settings i) (s.tap i) else s.tap i) := by
  rw [foldl_setControl F G (tapsOf_nodup m)]
  simp only [mem_tapsOf]

/-- When the settings stay, only the taps change. -/
theorem forTaps_setTap (G : TapSettings → Tap → Tap) (m : BitVec 4) (s : State) :
    (tapsOf m).foldl (fun s t => s.setTap t (G (s.settings t) (s.tap t))) s =
      { s with taps := .of fun i => if hasTap m i then G (s.settings i) (s.tap i) else s.tap i } := by
  have h := forTaps_setControl id G m s
  simp only [id_eq, State.setControl_settings, ite_self] at h
  exact h

/-! ### Panel lines (R176) -/

theorem State.line_setLine (s : State) (l k : PanelLine) (x : LineState) : (s.setLine l x).line k = if k = l then x else s.line k := by
  cases l <;> cases k <;> rfl

theorem State.setLine_eq (s : State) (l : PanelLine) (x : LineState) :
    s.setLine l x = { s with panel := { (s.setLine l x).panel with tallies := s.panel.tallies, blink := s.panel.blink } } := by
  cases l <;> rfl

theorem State.running_iff (s : State) : s.running = true ↔ s.startUp.phase = .running := beq_iff_eq

theorem State.canTake_iff (s : State) (l : PanelLine) (level : Bool) :
    s.canTake l level = true ↔
      s.startUp.phase = .running ∧ (s.line l).interval = true ∧ (s.line l).raw = level ∧ (s.line l).debounced = some (!level) := by
  unfold State.canTake
  simp only [Bool.and_eq_true, State.running_iff, beq_iff_eq, and_assoc]

theorem State.setPanelTargets_eq (s : State) (dt : TapSettings → Nat) :
    s.setPanelTargets dt =
      { s with taps := .of fun i => if hasTap s.store.config.panelTaps i then { s.tap i with dt := dt (s.settings i) } else s.tap i } :=
  forTaps_setTap (fun w x => { x with dt := dt w }) _ s

/-- A line's new state, in a state that differs in the panel alone. -/
theorem setLine_settles {s : State} {r : Result} {l : PanelLine} {x : LineState} (h : r = .next (s.setLine l x)) :
    ∃ t, r = .next t ∧ t.line l = x ∧ (∀ k, k ≠ l → t.line k = s.line k) ∧
      t = { s with panel := { t.panel with tallies := s.panel.tallies, blink := s.panel.blink } } := by
  refine ⟨_, h, ?_, fun k hk => ?_, s.setLine_eq l x⟩
  · rw [State.line_setLine, if_pos rfl]
  · rw [State.line_setLine, if_neg hk]

theorem execPanelLineChange_eq (s : State) (l : PanelLine) (pressed : Bool) (h : (s.line l).raw ≠ pressed) :
    exec (.panelLineChange l pressed) s =
      .next (s.setLine l { s.line l with raw := pressed, interval := decide (s.startUp.phase = .running) }) := by
  have hexec : exec (.panelLineChange l pressed) s = execPanelLineChange l pressed s := rfl
  rw [hexec, execPanelLineChange, if_neg h]
  rfl

theorem execPanelInitialState_eq {s : State} {l : PanelLine} (hrunning : s.startUp.phase = .running) (hinterval : (s.line l).interval = true)
    (hfirst : (s.line l).debounced = none) : exec (.panelInitialState l) s = .next (s.takeLine l) := by
  have hexec : exec (.panelInitialState l) s = execPanelInitialState l s := rfl
  rw [hexec, execPanelInitialState, (s.running_iff).mpr hrunning, hinterval, hfirst]
  rfl

theorem execPanelRelease_eq {s : State} {l : PanelLine} (hl : l ≠ .mask) (htake : s.canTake l false = true) :
    exec (.panelRelease l) s = .next (s.takeLine l) := by
  have hexec : exec (.panelRelease l) s = execPanelRelease l s := rfl
  rw [hexec, execPanelRelease, if_neg hl, if_pos htake]

theorem execEnterPress_eq {s : State} (htake : s.canTake .enter true = true) :
    exec .enterPress s = .next ((s.takeLine .enter).setPanelTargets (·.de)).refreshTally := if_pos htake

theorem execExitPress_eq {s : State} (htake : s.canTake .exit true = true) :
    exec .exitPress s = .next ((s.takeLine .exit).setPanelTargets fun _ => 0).refreshTally := if_pos htake

/-- Settles O53: each panel event sets its own line, ENTER and EXIT then the targets of the panel taps, and the blink turns one pin. -/
theorem panelLinesDebounce : Obligations.PanelLinesDebounce := by
  refine ⟨fun s l => ⟨fun pressed hraw => ?_, fun pressed hraw => ?_, fun hrunning hinterval => ⟨fun hfirst => ?_, fun hl hraw htaken => ?_⟩⟩,
    ?_, fun s => ?_⟩
  · exact setLine_settles (execPanelLineChange_eq s l pressed hraw)
  · exact if_pos hraw
  · exact setLine_settles (execPanelInitialState_eq hrunning hinterval hfirst)
  · have htake : s.canTake l false = true := (s.canTake_iff l false).mpr ⟨hrunning, hinterval, hraw, htaken⟩
    have hrelease := execPanelRelease_eq hl htake
    unfold State.takeLine at hrelease
    dsimp only at hrelease
    rw [hraw] at hrelease
    exact setLine_settles hrelease
  · intro s hrunning aim pressed taken
    refine ⟨fun hline => ?_, fun hline => ?_⟩
    · have htake : s.canTake .enter true = true := by
        rw [State.canTake_iff, show s.line .enter = pressed from hline]
        exact ⟨hrunning, rfl, rfl, rfl⟩
      rw [execEnterPress_eq htake, State.setPanelTargets_eq]
      unfold State.takeLine
      rw [show s.line .enter = pressed from hline]
      rfl
    · have htake : s.canTake .exit true = true := by
        rw [State.canTake_iff, show s.line .exit = pressed from hline]
        exact ⟨hrunning, rfl, rfl, rfl⟩
      rw [execExitPress_eq htake, State.setPanelTargets_eq]
      unfold State.takeLine
      rw [show s.line .exit = pressed from hline]
      rfl
  · refine ⟨_, rfl, rfl, fun hlit => ?_, fun hdark => ?_⟩
    · show some (tallyLevel _ (s.panel.tallies.build && !s.panel.blink)) ≠ some (tallyLevel _ (s.panel.tallies.build && s.panel.blink))
      rw [hlit]
      unfold tallyLevel
      cases s.startUp.straps.tpol <;> cases s.panel.blink <;> decide
    · unfold State.tallyPins
      dsimp only
      rw [hdark, Bool.false_and, Bool.false_and]

end Sys2Proof.Machine

/-! SUPPORT. Control entries that run (R158, R159), and the store controller's writes and commands (R52, R169, R170, R183, R184). -/

namespace Sys2Proof.Machine

/-! ### A command that runs (R158, R159) -/

/-- A command other than GUARD that the guard lets through leaves what its owner makes of the state, with its result in every tap. -/
theorem State.executeEntry_resulted {s u : State} {e : ControlEntry} {r : CmdResult} (q : Word) (hcode : e.code ≠ 0#8)
    (hguard : e.code ≠ 0x18#8) (hpass : guarded e.code = true → s.guardStep = 4) (hrun : runCommand s e = (u, r)) :
    State.executeEntry q s e = u.resulted e q r := by
  rw [State.executeEntry_of_passes q hcode hpass, hrun, guardAfter_of_not_guard hguard]
  rfl

/-- The same for a code that the guard does not hold. -/
theorem State.executeEntry_unguarded {s u : State} {e : ControlEntry} {r : CmdResult} {code : Byte} (q : Word) (h : e.code = code)
    (hcode : code ≠ 0#8 ∧ code ≠ 0x18#8 ∧ guarded code = false) (hrun : runCommand s e = (u, r)) :
    State.executeEntry q s e = u.resulted e q r := by
  obtain ⟨hzero, hguard, hfree⟩ := hcode
  exact State.executeEntry_resulted q (h ▸ hzero) (h ▸ hguard) (fun hheld => by rw [h, hfree] at hheld; cases hheld) hrun

/-- The same at the end of the guard sequence. -/
theorem State.executeEntry_guarded {s u : State} {e : ControlEntry} {r : CmdResult} {code : Byte} (q : Word) (h : e.code = code)
    (hcode : code ≠ 0#8 ∧ code ≠ 0x18#8) (hstep : s.guardStep = 4) (hrun : runCommand s e = (u, r)) :
    State.executeEntry q s e = u.resulted e q r :=
  State.executeEntry_resulted q (h ▸ hcode.1) (h ▸ hcode.2) (fun _ => hstep) hrun

/-! ### Pages (R183) -/

theorem writePage_getElem? {contents record : List Byte} {i : Nat} (hcontents : contents.length = 256) (hrecord : record.length = 256)
    (hi : i < 16) (n : Nat) :
    (writePage contents record i)[n]? = if 16 * i ≤ n ∧ n < 16 * i + 16 then record[n]? else contents[n]? := by
  have hlow : (contents.take (16 * i)).length = 16 * i := by rw [List.length_take, hcontents]; omega
  have hpage : ((record.drop (16 * i)).take 16).length = 16 := by rw [List.length_take, List.length_drop, hrecord]; omega
  show (contents.take (16 * i) ++ (record.drop (16 * i)).take 16 ++ contents.drop (16 * i + 16))[n]? = _
  obtain hn | ⟨hn, hn'⟩ | hn : n < 16 * i ∨ (16 * i ≤ n ∧ n < 16 * i + 16) ∨ 16 * i + 16 ≤ n := by omega
  · rw [if_neg (by omega), List.append_assoc, List.getElem?_append_left (by omega), List.getElem?_take_of_lt hn]
  · rw [if_pos ⟨hn, hn'⟩, List.append_assoc, List.getElem?_append_right (by omega), hlow, List.getElem?_append_left (by omega),
      List.getElem?_take_of_lt (by omega), List.getElem?_drop, Nat.add_sub_cancel' hn]
  · rw [if_neg (by omega), List.getElem?_append_right (by rw [List.length_append]; omega), List.length_append, hlow, hpage,
      List.getElem?_drop, Nat.add_sub_cancel' hn]

theorem exec_storePageComplete {s : State} {w : StoreWrite} (h : s.store.write = some w) :
    exec .storePageComplete s =
      if w.page + 1 < 16 then
        .next { s with store := { s.store with
          contents := writePage s.store.contents w.record w.page, write := some { w with page := w.page + 1 } } }
      else
        .next (({ s with store := { s.store with contents := writePage s.store.contents w.record w.page, write := none } }).raiseAll
          .storeDone) := by
  have hexec : exec .storePageComplete s = execStorePageComplete s := rfl
  rw [hexec, execStorePageComplete, h]
  rfl

/-! ### The retired segments (R52) -/

theorem retiredFrom_eq (i : Nat) (gs : List Segment) :
    retiredFrom i gs = ((List.range gs.length).filter fun p => gs[p]?.any fun g => g.state == .retired).map (· + i) := by
  induction gs generalizing i with
  | nil => rfl
  | cons g gs ih =>
    have hrest : retiredFrom (i + 1) gs =
        (((List.range gs.length).map (· + 1)).filter fun p => (g :: gs)[p]?.any fun g => g.state == .retired).map (· + i) := by
      rw [ih, List.filter_map, List.map_map]
      refine congrArg (fun f => List.map f _) (funext fun p => ?_)
      show p + (i + 1) = p + 1 + i
      omega
    rw [List.length_cons, List.range_succ_eq_map, List.filter_cons, retiredFrom, hrest]
    by_cases hretired : g.state = .retired
    · simp [hretired]
    · simp [hretired]

/-! ### Store commands (R169, R170) -/

theorem runCommand_saveConfig {s : State} {e : ControlEntry} (h : e.code = 0x1A#8) : runCommand s e = cmdSaveConfig s := by
  simp [runCommand, h]

theorem runCommand_commitRetire {s : State} {e : ControlEntry} (h : e.code = 0x19#8) : runCommand s e = cmdCommitRetire s := by
  simp [runCommand, h]

theorem runCommand_setGeometry {s : State} {e : ControlEntry} (h : e.code = 0x1B#8) : runCommand s e = cmdSetGeometry s e := by
  simp [runCommand, h]

theorem State.writeRefused_eq (s : State) :
    s.writeRefused =
      if s.store.write ≠ none then some .refusedBusy else if s.startUp.straps.storeEn = false then some .refusedState else none := by
  unfold State.writeRefused
  cases s.store.write <;> cases s.startUp.straps.storeEn <;> rfl

/-- The two commands that write the store meet the same refusals. -/
theorem runCommand_writes_refused {s : State} {e : ControlEntry} {r : CmdResult} (h : e.code = 0x1A#8 ∨ e.code = 0x19#8)
    (hr : s.writeRefused = some r) : runCommand s e = (s, r) := by
  obtain h | h := h
  · rw [runCommand_saveConfig h, cmdSaveConfig, hr]
  · rw [runCommand_commitRetire h, cmdCommitRetire, hr]

/-- An item of the geometry that a value in its range sets. -/
theorem cmdSetGeometry_of_item {s : State} {e : ControlEntry} {i v : Nat} {g : Geometry} (hi : e.argA.toNat = i) (hv : e.argB.toNat = v)
    (h : s.store.pendingGeometry.setItem i v = some g) :
    cmdSetGeometry s e = ({ s with store := { s.store with pendingGeometry := g } }, .accepted) := by
  rw [cmdSetGeometry, hi, hv, h]

theorem Geometry.setItem_none (g : Geometry) {i v : Nat}
    (h : 4 < i ∨ (i = 0 ∧ 16383 < v) ∨ (i = 1 ∧ 16777215 < v) ∨ (i = 2 ∧ 3 < v) ∨ (i = 3 ∧ (v < 64 ∨ 4096 < v)) ∨ (i = 4 ∧ 256 < v)) :
    g.setItem i v = none := by
  unfold Geometry.setItem
  split
  case h_6 => rfl
  all_goals exact if_neg (by omega)

/-- Settles O57: pages in order, the two commands that start a write, and the items of the pending geometry. -/
theorem storeWritesRunInOrder : Obligations.StoreWritesRunInOrder := by
  refine ⟨fun s w hwrite hcontents hrecord hpage => ⟨?_, ?_⟩, fun s q e => ?_⟩
  · rw [exec_storePageComplete hwrite]
    by_cases hlast : w.page + 1 < 16
    · rw [if_pos hlast]
      exact ⟨_, rfl, writePage_getElem? hcontents hrecord hpage, fun _ => rfl, fun h => by omega⟩
    · rw [if_neg hlast]
      exact ⟨_, rfl, writePage_getElem? hcontents hrecord hpage, fun h => by omega, fun _ => rfl⟩
  · have hexec : exec .storeTimeout s = execStoreTimeout s := rfl
    rw [hexec, execStoreTimeout, hwrite]
    rfl
  · intro t writing retired v
    refine ⟨fun hcode => ?_, fun hcode => ?_⟩
    · have hresult {u : State} {r : CmdResult} (hrun : runCommand s e = (u, r)) : t = u.resulted e q r := by
        obtain hcode | ⟨hcode, hstep⟩ := hcode
        · exact State.executeEntry_unguarded q hcode (by decide) hrun
        · exact State.executeEntry_guarded q hcode (by decide) hstep hrun
      have hcodes : e.code = 0x1A#8 ∨ e.code = 0x19#8 := hcode.imp_right fun h => h.1
      refine ⟨fun hbusy => ?_, fun hidle hoff => ?_, fun hidle hon => ⟨fun hsave => ?_, fun hretire => ?_⟩⟩
      · exact hresult (runCommand_writes_refused hcodes (s.writeRefused_eq.trans (if_pos hbusy)))
      · refine hresult (runCommand_writes_refused hcodes (s.writeRefused_eq.trans ?_))
        rw [if_neg (Classical.not_not.mpr hidle), if_pos hoff]
      all_goals
        have hfree : s.writeRefused = none := by
          rw [State.writeRefused_eq, if_neg (Classical.not_not.mpr hidle), if_neg (by rw [hon]; decide)]
      · refine hresult ?_
        rw [runCommand_saveConfig hsave, cmdSaveConfig, hfree]
        rfl
      · refine hresult ?_
        have hretired : retiredFrom 0 s.pool.segs = retired := (retiredFrom_eq 0 s.pool.segs).trans (List.map_id _)
        rw [runCommand_commitRetire hretire, cmdCommitRetire, hfree]
        dsimp only
        rw [hretired]
        rfl
    · intro g set
      have hresult {u : State} {r : CmdResult} (hrun : cmdSetGeometry s e = (u, r)) : t = u.resulted e q r :=
        State.executeEntry_unguarded q hcode (by decide) ((runCommand_setGeometry hcode).trans hrun)
      refine ⟨fun hitem hv => ?_, fun hitem hv => ?_, fun hitem c hv => ?_, fun hitem hlow hhigh => ?_, fun hitem hv => ?_, fun hout => ?_⟩
      · exact hresult (cmdSetGeometry_of_item (congrArg BitVec.toNat hitem) rfl (if_pos hv))
      · exact hresult (cmdSetGeometry_of_item (congrArg BitVec.toNat hitem) rfl (if_pos hv))
      · refine hresult (cmdSetGeometry_of_item (congrArg BitVec.toNat hitem) hv ((if_pos (Nat.le_of_lt_succ c.isLt)).trans ?_))
        rw [show Fin.ofNat 4 c.val = c from Fin.ext (Nat.mod_eq_of_lt c.isLt)]
      · exact hresult (cmdSetGeometry_of_item (congrArg BitVec.toNat hitem) rfl (if_pos ⟨hlow, hhigh⟩))
      · exact hresult (cmdSetGeometry_of_item (congrArg BitVec.toNat hitem) rfl (if_pos hv))
      · refine hresult ?_
        rw [cmdSetGeometry, Geometry.setItem_none]
        simp only [BitVec.toNat_eq, BitVec.toNat_ofNat] at hout
        exact hout

end Sys2Proof.Machine

/-! SUPPORT. The pool's rules: one segment's record replaced, freeing (R46), retirement (R50, R51), the count of faults (R49), and what a
latch keeps. -/

namespace Sys2Proof.Machine

/-! ### One segment's record -/

/-- `s` with the record of segment `p` replaced. -/
def State.setSeg (s : State) (p : Nat) (g : Segment) : State := { s with pool := { s.pool with segs := s.pool.segs.set p g } }

theorem modify_eq_set_of_getElem? {α : Type} {l : List α} {p : Nat} {x : α} (f : α → α) (h : l[p]? = some x) : l.modify p f = l.set p (f x) := by
  refine List.ext_getElem? fun q => ?_
  rw [List.getElem?_modify, List.getElem?_set]
  by_cases hq : p = q
  · subst hq
    obtain ⟨hp, rfl⟩ := List.getElem?_eq_some_iff.mp h
    simp [hp]
  · simp [hq]

theorem State.modifySeg_eq {s : State} {p : Nat} {g : Segment} (f : Segment → Segment) (h : s.seg? p = some g) :
    s.modifySeg p f = s.setSeg p (f g) := by
  unfold State.modifySeg State.setSeg
  rw [modify_eq_set_of_getElem? f h]

theorem State.seg?_setSeg_same {s : State} {p : Nat} {g : Segment} (g' : Segment) (h : s.seg? p = some g) :
    (s.setSeg p g').seg? p = some g' := by
  obtain ⟨hp, -⟩ := List.getElem?_eq_some_iff.mp h
  exact List.getElem?_set_self hp

theorem State.seg?_setSeg_other (s : State) {p q : Nat} (g' : Segment) (h : q ≠ p) : (s.setSeg p g').seg? q = s.seg? q :=
  List.getElem?_set_ne h.symm

theorem State.setSeg_setSeg (s : State) (p : Nat) (g g' : Segment) : (s.setSeg p g).setSeg p g' = s.setSeg p g' := by
  unfold State.setSeg
  rw [List.set_set]

/-! ### What a latch keeps (R173) -/

/-- Every bit set in one latch is set in the other. -/
def LatchKept (x y : Tap) : Prop := ∀ n, x.latch.getLsbD n = true → y.latch.getLsbD n = true

theorem LatchKept.refl (x : Tap) : LatchKept x x := fun _ h => h

theorem LatchKept.trans {x y z : Tap} (h : LatchKept x y) (k : LatchKept y z) : LatchKept x z := fun n hn => k n (h n hn)

theorem LatchKept.raise (x : Tap) (e : Event) : LatchKept x (x.raise e) := fun n hn => by
  show (x.latch ||| _).getLsbD n = true
  rw [BitVec.getLsbD_or, hn, Bool.true_or]

theorem Event.bit_lt (e : Event) : e.bit < 32 := by cases e <;> decide

/-- A raised event's bit is set. -/
theorem Tap.raise_latched (x : Tap) (e : Event) : (x.raise e).latch.getLsbD e.bit = true := by
  show (x.latch ||| 1#32 <<< e.bit).getLsbD e.bit = true
  simp [e.bit_lt]

/-! ### Retirement (R50, R51) -/

theorem State.clampTap_latchKept (ceil : Nat) (s : State) (t i : Fin 4) : LatchKept (s.tap i) ((State.clampTap ceil s t).tap i) := by
  unfold State.clampTap
  dsimp only
  split
  · rw [State.tap_setTap]
    split
    · next h => subst h; exact .raise _ _
    · exact .refl _
  · exact .refl _

theorem foldl_clampTap_latchKept (ceil : Nat) (l : List (Fin 4)) (s : State) (i : Fin 4) :
    LatchKept (s.tap i) ((l.foldl (State.clampTap ceil) s).tap i) := by
  induction l generalizing s with
  | nil => exact .refl _
  | cons t l ih => exact (State.clampTap_latchKept ceil s t i).trans (ih _)

theorem State.enterRetired_latchKept (s : State) (p : Nat) (i : Fin 4) : LatchKept ((s.enterRetired p).tap i) ((s.retire p).tap i) := by
  rw [State.retire_eq]
  split
  · refine LatchKept.trans ?_ (foldl_clampTap_latchKept _ _ _ i)
    rw [State.tap_raiseAll]
    exact .raise _ _
  · exact .refl _

theorem State.retire_latchKept (s : State) (p : Nat) (i : Fin 4) : LatchKept (s.tap i) ((s.retire p).tap i) := by
  refine .trans ?_ (s.enterRetired_latchKept p i)
  unfold State.enterRetired
  rw [State.tap_raiseAll]
  exact .raise _ _

/-- RETIRED is bit 30 of the latch. -/
theorem State.retire_latched (s : State) (p : Nat) (i : Fin 4) : ((s.retire p).tap i).latch.getLsbD 30 = true := by
  refine s.enterRetired_latchKept p i 30 ?_
  unfold State.enterRetired
  rw [State.tap_raiseAll]
  exact Tap.raise_latched _ .retired

theorem State.retire_rest (s : State) (p : Nat) :
    s.retire p =
      { s.modifySeg p fun g => { g with state := .retired } with
        taps := (s.retire p).taps
        store := { s.store with config := (s.retire p).store.config } } := by
  have h := (Clamped.retire s p).rest
  conv => lhs; rw [h]
  have hconfig : (s.retire p).store.config = { s.store.config with taps := (s.retire p).store.config.taps } := by
    conv => lhs; rw [h]
    rfl
  rw [hconfig]
  rfl

/-! ### Freeing (R46) -/

theorem State.freeSeg_of_kept {s : State} {p : Nat} {g : Segment} (h : s.seg? p = some g) (hkept : g.retirePending = false) :
    s.freeSeg p = s.setSeg p { g with state := .free, departure := none } := by
  unfold State.freeSeg
  rw [h]
  dsimp only
  rw [if_neg (Bool.eq_false_iff.mp hkept), State.modifySeg_eq _ h, State.modifySeg_eq _ (State.seg?_setSeg_same _ h), State.setSeg_setSeg]

theorem State.freeSeg_of_retirePending {s : State} {p : Nat} {g : Segment} (h : s.seg? p = some g) (hpending : g.retirePending = true) :
    s.freeSeg p = (s.setSeg p { g with departure := none }).retire p := by
  unfold State.freeSeg
  rw [h]
  dsimp only
  rw [if_pos hpending, State.modifySeg_eq _ h]

theorem State.freeSeg_freedAs {s : State} {p : Nat} {g : Segment} (h : s.seg? p = some g) : s.freedAs (s.freeSeg p) p g := by
  refine ⟨fun hkept => State.freeSeg_of_kept h hkept, fun hpending => ?_⟩
  rw [State.freeSeg_of_retirePending h hpending]
  refine ⟨?_, State.retire_latched _ p⟩
  have hseg := State.seg?_setSeg_same { g with departure := none } h
  conv => lhs; rw [State.retire_rest, State.modifySeg_eq _ hseg, State.setSeg_setSeg]
  rfl

/-- Freeing replaces the segment's record and, past it, at most the taps and the working configuration. -/
theorem State.freeSeg_rest {s : State} {p : Nat} {g : Segment} (h : s.seg? p = some g) :
    s.freeSeg p =
      { s.setSeg p { g with state := if g.retirePending then .retired else .free, departure := none } with
        taps := (s.freeSeg p).taps
        store := { s.store with config := (s.freeSeg p).store.config } } := by
  obtain ⟨hkept, hretired⟩ := State.freeSeg_freedAs h
  cases hpending : g.retirePending with
  | false =>
    rw [hkept hpending, hpending]
    rfl
  | true => exact (hretired hpending).1.trans (by rw [hpending]; rfl)

/-- A freed segment is FREE, or RETIRED when it was retire-pending. -/
theorem State.freeSeg_seg?_same {s : State} {p : Nat} {g : Segment} (h : s.seg? p = some g) :
    (s.freeSeg p).seg? p = some { g with state := if g.retirePending then .retired else .free, departure := none } := by
  rw [State.freeSeg_rest h]
  exact State.seg?_setSeg_same _ h

theorem State.freeSeg_of_none {s : State} {p : Nat} (h : s.seg? p = none) : s.freeSeg p = s := by
  unfold State.freeSeg
  rw [h]

theorem State.freeSeg_seg?_other (s : State) {p q : Nat} (hq : q ≠ p) : (s.freeSeg p).seg? q = s.seg? q := by
  cases h : s.seg? p with
  | none => rw [State.freeSeg_of_none h]
  | some g =>
    rw [State.freeSeg_rest h]
    exact s.seg?_setSeg_other _ hq

theorem State.freeSeg_timeline (s : State) (p : Nat) : (s.freeSeg p).timeline = s.timeline := by
  cases h : s.seg? p with
  | none => rw [State.freeSeg_of_none h]
  | some g => rw [State.freeSeg_rest h]; rfl

theorem State.freeSeg_edits (s : State) (p : Nat) : (s.freeSeg p).edits = s.edits := by
  cases h : s.seg? p with
  | none => rw [State.freeSeg_of_none h]
  | some g => rw [State.freeSeg_rest h]; rfl

/-! ### Faults (R49, R50) -/

theorem nEff_set_retired {l : List Segment} {p : Nat} {g g' : Segment} (h : l[p]? = some g) (hg : g.state ≠ .retired) (hg' : g'.state = .retired) :
    ((l.set p g').filter fun g => g.state != .retired).length + 1 = (l.filter fun g => g.state != .retired).length := by
  induction l generalizing p with
  | nil => cases h
  | cons x l ih =>
    cases p with
    | zero =>
      cases h
      simp [hg, hg']
    | succ p =>
      have := ih h
      rw [List.set_cons_succ, List.filter_cons, List.filter_cons]
      split
      · rw [List.length_cons, List.length_cons, this]
      · exact this

theorem State.countFault_of_counted {s : State} {p : Nat} {g : Segment} (h : s.seg? p = some g) (hcounted : g.counted = true) :
    s.countFault p = s := by
  unfold State.countFault
  rw [h]
  exact if_pos hcounted

/-- The record of a segment on which a fault is counted. -/
def Segment.faulted (g : Segment) (threshold : Nat) : Segment :=
  { g with
    faults := min (g.faults + 1) 7
    counted := true
    retirePending := g.retirePending || decide (threshold ≤ min (g.faults + 1) 7 ∧ g.state ≠ .retired) }

theorem State.countFault_of_uncounted {s : State} {p : Nat} {g : Segment} (h : s.seg? p = some g) (hcounted : g.counted = false) :
    s.countFault p =
      if s.store.config.faultThreshold ≤ min (g.faults + 1) 7 ∧ g.state = .free then
        (s.setSeg p (g.faulted s.store.config.faultThreshold)).retire p
      else s.setSeg p (g.faulted s.store.config.faultThreshold) := by
  have hrecord : s.modifySeg p (fun x =>
      { x with
        faults := bump Config.faultMax g.faults
        counted := true
        retirePending := x.retirePending || (decide (s.store.config.faultThreshold ≤ bump Config.faultMax g.faults) && x.state != .retired) }) =
      s.setSeg p (g.faulted s.store.config.faultThreshold) := by
    rw [State.modifySeg_eq _ h]
    refine congrArg (s.setSeg p) ?_
    have hstate : (g.state != .retired) = decide (g.state ≠ .retired) := by cases g.state <;> rfl
    unfold Segment.faulted
    rw [Bool.decide_and, ← hstate]
    rfl
  unfold State.countFault
  rw [h]
  dsimp only
  rw [hcounted, if_neg Bool.false_ne_true, hrecord]
  simp only [decide_eq_true_eq]
  rfl

/-- Settles O40: a counted segment is left, an uncounted one takes the fault, and a FREE one at the threshold retires. -/
theorem faultsCountOncePerResidency : Obligations.FaultsCountOncePerResidency := by
  intro s p g h
  refine ⟨State.countFault_of_counted h, fun hcounted => ?_⟩
  intro n reached
  refine ⟨fun hstays => ?_, fun hfree hreached => ?_⟩
  · rw [State.countFault_of_uncounted h hcounted, if_neg fun ⟨hr, hf⟩ => hstays.elim (fun k => k hf) fun k => k hr]
    rfl
  · have hseg := State.seg?_setSeg_same (g.faulted s.store.config.faultThreshold) h
    have hfaulted : g.faulted s.store.config.faultThreshold = { g with faults := n, counted := true, retirePending := true } := by
      unfold Segment.faulted
      rw [decide_eq_true ⟨hreached, by rw [hfree]; decide⟩, Bool.or_true]
    rw [State.countFault_of_uncounted h hcounted, if_pos ⟨hreached, hfree⟩]
    have hsegs : ((s.setSeg p (g.faulted s.store.config.faultThreshold)).retire p).pool.segs =
        s.pool.segs.set p { g with faults := n, counted := true, retirePending := true, state := .retired } := by
      rw [State.retire_segs, modify_eq_set_of_getElem? _ hseg, hfaulted]
      exact List.set_set ..
    refine ⟨?_, ?_, State.retire_latched _ p, fun q hq => ?_⟩
    · show ((s.setSeg p _).retire p).pool.segs[p]? = _
      rw [hsegs]
      exact State.seg?_setSeg_same _ h
    · unfold State.nEff
      rw [hsegs]
      exact nEff_set_retired h (by rw [hfree]; decide) rfl
    · show ((s.setSeg p _).retire p).pool.segs[q]? = _
      rw [hsegs]
      exact s.seg?_setSeg_other _ hq

end Sys2Proof.Machine

/-! SUPPORT. The quarantine's commands (R148 to R150), a newcomer to a full list (R146), capacity pressure on the oldest record (R53), and a
floor test with nothing due (R71). -/

namespace Sys2Proof.Machine

/-! ### Newcomers and pressure (R53, R146) -/

/-- A newcomer to a full UNLOCKED list overwrites the oldest record. -/
theorem State.offer_records_of_full {s : State} (quiet : Bool) {r old : SegmentRecord} {rest : List SegmentRecord}
    (hlock : s.quarantine.lock = .unlocked) (hrecords : s.quarantine.records = old :: rest) (hfull : s.quarCap ≤ s.quarantine.records.length)
    (hcap : s.quarCap ≠ 0) : (State.offer quiet s r).quarantine.records = rest ++ [r] := by
  unfold State.offer
  rw [if_neg hcap, if_neg (Nat.not_lt.mpr hfull), hlock, hrecords]
  show (State.freeSeg _ old.phys).quarantine.records ++ [r] = _
  rw [State.freeSeg_quarantine]
  cases quiet <;> rfl

theorem State.findIdx?_allocatable_none {s : State} (h : ∀ p g, s.seg? p = some g → ¬ (g.state = .free ∧ g.outstanding = 0)) :
    s.pool.segs.findIdx? Segment.allocatable = none := by
  rw [List.findIdx?_eq_none_iff]
  intro g hg
  obtain ⟨p, hp⟩ := List.mem_iff_getElem?.mp hg
  have hnot := h p g hp
  unfold Segment.allocatable
  rw [Bool.and_eq_false_iff, beq_eq_false_iff_ne, beq_eq_false_iff_ne]
  exact Classical.not_and_iff_not_or_not.mp hnot

theorem Segment.releasable_iff (g : Segment) : g.releasable = true ↔ g.outstanding = 0 ∧ g.retirePending = false := by
  unfold Segment.releasable
  rw [Bool.and_eq_true, beq_iff_eq, Bool.not_eq_true']

/-- With nothing allocatable the oldest record of an UNLOCKED list gives its segment when it can be released. -/
theorem State.allocate_oldest {s : State} {old : SegmentRecord} {rest : List SegmentRecord}
    (hnone : ∀ p g, s.seg? p = some g → ¬ (g.state = .free ∧ g.outstanding = 0)) (hlock : s.quarantine.lock = .unlocked)
    (hrecords : s.quarantine.records = old :: rest) (hold : ∃ g, s.seg? old.phys = some g ∧ g.outstanding = 0 ∧ g.retirePending = false) :
    s.allocate =
      (((({ s with quarantine := { s.quarantine with records := rest } }).raiseAll .quarOverwrite).freeSeg old.phys).takeSegment old.phys,
        some old.phys) := by
  obtain ⟨g, hg, hreleasable⟩ := hold
  have hpressure : s.pressureOldest = some old := by
    unfold State.pressureOldest
    rw [hlock, hrecords]
    dsimp only
    rw [hg]
    exact if_pos ((Segment.releasable_iff g).mpr hreleasable)
  unfold State.allocate
  rw [State.findIdx?_allocatable_none hnone]
  dsimp only
  unfold State.relieve
  rw [hpressure, hrecords]
  rfl

/-! ### A floor test with nothing due (R71) -/

theorem State.settle_of_not_due {s : State} (h : ∀ x rest, s.timeline.entries = x :: rest → serialLt x.pi s.floor = false) :
    s.settle = s.pruneSpent := by
  have hdue (n : Nat) : State.departDue n s = s := by
    cases n with
    | zero => rfl
    | succ n =>
      unfold State.departDue State.head?
      cases hentries : s.timeline.entries with
      | nil => rfl
      | cons x rest =>
        show (if serialLt x.pi s.floor then _ else s) = s
        rw [h x rest hentries]
        rfl
  unfold State.settle
  rw [hdue]

/-- Two pools with the same segments in RETIRED have the same effective size. -/
theorem State.nEff_congr {s t : State} (h : ∀ p, (t.seg? p).map (fun g => g.state != .retired) = (s.seg? p).map fun g => g.state != .retired) :
    t.nEff = s.nEff := by
  have hmap : t.pool.segs.map (fun g => g.state != .retired) = s.pool.segs.map fun g => g.state != .retired :=
    List.ext_getElem? fun p => by
      rw [List.getElem?_map, List.getElem?_map]
      exact h p
  unfold State.nEff
  rw [← List.countP_eq_length_filter, ← List.countP_eq_length_filter]
  have hcount (l : List Segment) : l.countP (fun g => g.state != .retired) = (l.map fun g => g.state != .retired).countP id := by
    rw [List.countP_map]
    rfl
  rw [hcount, hcount, hmap]

/-! ### Release (R150) -/

/-- `t` is `s` but for the records of its segments. -/
def OnlySegs (s t : State) : Prop := t = { s with pool := { s.pool with segs := t.pool.segs } }

theorem OnlySegs.refl (s : State) : OnlySegs s s := rfl

theorem OnlySegs.trans {s t u : State} (h : OnlySegs s t) (k : OnlySegs t u) : OnlySegs s u := by
  unfold OnlySegs at h k ⊢
  rw [h] at k
  exact k

/-- Segments freed that are not retire-pending: only their records change. -/
theorem foldl_freeSeg_kept (rs : List SegmentRecord) {s : State}
    (h : ∀ r ∈ rs, ∀ g, s.seg? r.phys = some g → g.retirePending = false) :
    OnlySegs s (rs.foldl (fun s r => s.freeSeg r.phys) s) ∧
      ∀ p, (rs.foldl (fun s r => s.freeSeg r.phys) s).seg? p =
        if ∃ r ∈ rs, r.phys = p then (s.seg? p).map fun g => { g with state := .free, departure := none } else s.seg? p := by
  induction rs generalizing s with
  | nil => exact ⟨.refl s, fun p => (if_neg fun ⟨r, hr, _⟩ => absurd hr List.not_mem_nil).symm⟩
  | cons r rs ih =>
    have hfree : OnlySegs s (s.freeSeg r.phys) ∧
        ∀ p, (s.freeSeg r.phys).seg? p =
          if p = r.phys then (s.seg? p).map fun g => { g with state := .free, departure := none } else s.seg? p := by
      cases hg : s.seg? r.phys with
      | none =>
        rw [State.freeSeg_of_none hg]
        refine ⟨rfl, fun p => ?_⟩
        split
        · next hp => rw [hp, hg]; rfl
        · rfl
      | some g =>
        have hkept := h r List.mem_cons_self g hg
        rw [State.freeSeg_of_kept hg hkept]
        refine ⟨rfl, fun p => ?_⟩
        split
        · next hp => rw [hp, hg, State.seg?_setSeg_same _ hg]; rfl
        · next hp => exact s.seg?_setSeg_other _ hp
    have hpending (r' : SegmentRecord) (hr' : r' ∈ rs) (g : Segment) (hg : (s.freeSeg r.phys).seg? r'.phys = some g) :
        g.retirePending = false := by
      rw [hfree.2] at hg
      split at hg
      · obtain ⟨g0, hg0, rfl⟩ := Option.map_eq_some_iff.mp hg
        exact h r' (List.mem_cons_of_mem _ hr') g0 hg0
      · exact h r' (List.mem_cons_of_mem _ hr') g hg
    obtain ⟨hrest, hseg⟩ := ih hpending
    refine ⟨hfree.1.trans hrest, fun p => ?_⟩
    · rw [List.foldl_cons, hseg, hfree.2]
      by_cases hp : p = r.phys
      · subst hp
        have hmem : ∃ r' ∈ r :: rs, r'.phys = r.phys := ⟨r, List.mem_cons_self, rfl⟩
        rw [if_pos rfl, if_pos hmem, Option.map_map]
        simp only [Function.comp_def, ite_self]
      · have hiff : (∃ r' ∈ r :: rs, r'.phys = p) ↔ ∃ r' ∈ rs, r'.phys = p := by
          simp only [List.mem_cons, exists_eq_or_imp, Ne.symm hp, false_or]
        simp only [if_neg hp, hiff]

/-! ### The lock commands (R148, R149) -/

theorem runCommand_lock {s : State} {e : ControlEntry} (h : e.code = 0x10#8) : runCommand s e = cmdLock s := by
  simp [runCommand, h]

theorem runCommand_freeze {s : State} {e : ControlEntry} (h : e.code = 0x11#8) : runCommand s e = cmdFreeze s := by
  simp [runCommand, h]

theorem runCommand_unlock {s : State} {e : ControlEntry} (h : e.code = 0x12#8) : runCommand s e = cmdUnlock s := by
  simp [runCommand, h]

theorem runCommand_release {s : State} {e : ControlEntry} (h : e.code = 0x13#8) : runCommand s e = cmdRelease s e := by
  simp [runCommand, h]

theorem cmdLock_of_not_frozen {s : State} (h : s.quarantine.lock ≠ .frozen) : cmdLock s = (s.setLock .locked true, .accepted) := by
  unfold cmdLock
  split
  · rfl
  · rfl
  · next hfrozen => exact absurd hfrozen h

theorem cmdUnlock_of_not_frozen {s : State} (h : s.quarantine.lock ≠ .frozen) : cmdUnlock s = (s.setLock .unlocked false, .accepted) := by
  unfold cmdUnlock
  split
  · rfl
  · rfl
  · next hfrozen => exact absurd hfrozen h

theorem cmdRelease_of_not_unlocked {s : State} (e : ControlEntry) (h : s.quarantine.lock ≠ .unlocked) : cmdRelease s e = (s, .refusedState) := by
  unfold cmdRelease
  split
  · next hunlocked => exact absurd hunlocked h
  · rfl
  · rfl

/-- `s` without its oldest `n` records, their segments freed. -/
def State.released (s : State) (n : Nat) : State :=
  (s.quarantine.records.take n).foldl (fun s r => s.freeSeg r.phys)
    { s with quarantine := { s.quarantine with records := s.quarantine.records.drop n } }

theorem cmdRelease_of_unlocked {s : State} (e : ControlEntry) (h : s.quarantine.lock = .unlocked) :
    cmdRelease s e = ((s.released e.argA.toNat).settle, if s.quarantine.records.length < e.argA.toNat then .clamped else .accepted) := by
  unfold cmdRelease
  rw [h]
  rfl

theorem foldl_freeSeg_rest (rs : List SegmentRecord) (s : State) :
    (rs.foldl (fun s r => s.freeSeg r.phys) s).timeline = s.timeline ∧ (rs.foldl (fun s r => s.freeSeg r.phys) s).edits = s.edits ∧
      (rs.foldl (fun s r => s.freeSeg r.phys) s).quarantine = s.quarantine := by
  induction rs generalizing s with
  | nil => exact ⟨rfl, rfl, rfl⟩
  | cons r rs ih =>
    obtain ⟨htimeline, hedits, hquarantine⟩ := ih (s.freeSeg r.phys)
    exact ⟨htimeline.trans (s.freeSeg_timeline _), hedits.trans (s.freeSeg_edits _), hquarantine.trans (s.freeSeg_quarantine _)⟩

/-- Release of records that own their segments changes neither floor nor Dmax: no segment enters or leaves RETIRED. -/
theorem State.released_of_owned {s : State} (n : Nat) (hs : s.segmentsOwned)
    (hkept : ∀ r ∈ s.quarantine.records.take n, ∀ g, s.seg? r.phys = some g → g.retirePending = false) :
    OnlySegs { s with quarantine := { s.quarantine with records := s.quarantine.records.drop n } } (s.released n) ∧
      (s.released n).nEff = s.nEff ∧
      ∀ p, (s.released n).seg? p =
        if ∃ r ∈ s.quarantine.records.take n, r.phys = p then (s.seg? p).map fun g => { g with state := .free, departure := none }
        else s.seg? p := by
  obtain ⟨honly, hseg⟩ := foldl_freeSeg_kept (s.quarantine.records.take n)
    (s := { s with quarantine := { s.quarantine with records := s.quarantine.records.drop n } }) hkept
  refine ⟨honly, State.nEff_congr fun p => ?_, hseg⟩
  show (State.seg? (List.foldl _ _ _) p).map _ = _
  rw [hseg]
  split
  · next hnamed =>
    obtain ⟨r, hr, rfl⟩ := hnamed
    obtain ⟨g, hg, hstate⟩ := (hs.1 .quarantined).2 r.phys (List.mem_map_of_mem (List.mem_of_mem_take hr))
    show ((s.seg? r.phys).map _).map _ = _
    rw [hg]
    show some (SegState.free != .retired) = some (g.state != .retired)
    rw [hstate]
    rfl
  · rfl

/-- Settles O60: the lock commands set lock and lock-at-start, and RELEASE frees the segments of the oldest records. -/
theorem quarantineCommandsMoveTheLock : Obligations.QuarantineCommandsMoveTheLock := by
  refine ⟨fun s q e hcode hstep => ⟨fun hlock => ?_, fun hfrozen => ?_⟩, fun s q e => ?_⟩
  · have hresult : State.executeEntry q s e = (s.setLock .unlocked false).resulted e q .accepted :=
      State.executeEntry_guarded q hcode (by decide) hstep ((runCommand_unlock hcode).trans (cmdUnlock_of_not_frozen hlock))
    rw [hresult]
    refine ⟨rfl, fun old rest r hrecords hfull => ?_, fun old rest hrecords hnone hold => ?_⟩
    · refine State.offer_records_of_full false rfl hrecords (Nat.le_of_eq hfull.symm) fun hcap => ?_
      have hlength : s.quarantine.records.length = 0 := hfull.trans hcap
      rw [hrecords] at hlength
      cases hlength
    · rw [State.allocate_oldest (s := (s.setLock .unlocked false).resulted e q .accepted) hnone rfl hrecords hold]
  · exact State.executeEntry_guarded q hcode (by decide) hstep ((runCommand_unlock hcode).trans (by rw [cmdUnlock, hfrozen]))
  · intro t locked
    refine ⟨fun hcode => ⟨fun hlock => ?_, fun hfrozen => ?_⟩, fun hcode => ?_, fun hcode hstep => ⟨fun hlock => ?_, fun hlock => ?_⟩⟩
    · exact State.executeEntry_unguarded q hcode (by decide) ((runCommand_lock hcode).trans (cmdLock_of_not_frozen hlock))
    · exact State.executeEntry_unguarded q hcode (by decide) ((runCommand_lock hcode).trans (by rw [cmdLock, hfrozen]))
    · exact State.executeEntry_unguarded q hcode (by decide) (runCommand_freeze hcode)
    · exact State.executeEntry_guarded q hcode (by decide) hstep ((runCommand_release hcode).trans (cmdRelease_of_not_unlocked e hlock))
    · intro n result
      have hresult : t = (s.released n).settle.resulted e q result :=
        State.executeEntry_guarded q hcode (by decide) hstep ((runCommand_release hcode).trans (cmdRelease_of_unlocked e hlock))
      obtain ⟨htimeline, hedits, hquarantine⟩ := foldl_freeSeg_rest (s.quarantine.records.take n)
        { s with quarantine := { s.quarantine with records := s.quarantine.records.drop n } }
      refine ⟨⟨s.released n, htimeline, hedits, hquarantine, hresult⟩, fun hs hkept hfloor => ?_⟩
      obtain ⟨honly, hn, hseg⟩ := s.released_of_owned n hs hkept
      have hdue : ∀ x rest, (s.released n).timeline.entries = x :: rest → serialLt x.pi (s.released n).floor = false := by
        have hsame : (s.released n).floor = s.floor := by
          have hdmax : (s.released n).dmax = s.dmax := by
            unfold State.dmax
            rw [hn, honly]
            rfl
          unfold State.floor State.idleFloor
          rw [hdmax, honly]
          rfl
        rw [hsame, honly]
        exact hfloor
      rw [State.settle_of_not_due hdue] at hresult
      rw [hresult]
      refine ⟨hquarantine, htimeline, ?_, hseg⟩
      show (s.released n).edits.filter (fun e => !(s.released n).spent e) = _
      rw [honly]
      rfl

end Sys2Proof.Machine

/-! SUPPORT. What freeing, handing on and departures do to the taps and their settings: at most a clamp to a lowered Dmax (R51) and latched
events, and no clamp in a pool with nothing retire-pending. -/

namespace Sys2Proof.Machine

/-- No segment of the pool is to retire. -/
def State.nothingRetires (s : State) : Prop := ∀ g ∈ s.pool.segs, g.retirePending = false

/-- From `s` to `t` taps and settings changed at most in delays, clamp flags and latches: delays and flags only by a retirement, two equal
delays alike, and no latch lost a bit. -/
structure Eased (s t : State) : Prop where
  tap : ∀ i, t.tap i = { s.tap i with dt := (t.tap i).dt, clampFlag := (t.tap i).clampFlag, latch := (t.tap i).latch }
  settings : ∀ i, t.settings i = { s.settings i with de := (t.settings i).de }
  equal : ∀ i, (s.tap i).dt = (s.settings i).de → (t.tap i).dt = (t.settings i).de
  latch : ∀ i, LatchKept (s.tap i) (t.tap i)
  calm : s.nothingRetires → t.nothingRetires ∧
    ∀ i, (t.settings i).de = (s.settings i).de ∧ (t.tap i).dt = (s.tap i).dt ∧ (t.tap i).clampFlag = (s.tap i).clampFlag

theorem Eased.refl (s : State) : Eased s s := ⟨fun _ => rfl, fun _ => rfl, fun _ h => h, fun _ => .refl _, fun h => ⟨h, fun _ => ⟨rfl, rfl, rfl⟩⟩⟩

theorem Eased.trans {s t u : State} (h : Eased s t) (k : Eased t u) : Eased s u where
  tap := fun i => by
    have htap := k.tap i
    rw [h.tap i] at htap
    exact htap
  settings := fun i => by
    have hset := k.settings i
    rw [h.settings i] at hset
    exact hset
  equal := fun i hi => k.equal i (h.equal i hi)
  latch := fun i => (h.latch i).trans (k.latch i)
  calm := fun hs => by
    obtain ⟨ht, hsame⟩ := h.calm hs
    obtain ⟨hu, hsame'⟩ := k.calm ht
    refine ⟨hu, fun i => ?_⟩
    obtain ⟨hde, hdt, hflag⟩ := hsame i
    obtain ⟨hde', hdt', hflag'⟩ := hsame' i
    exact ⟨hde'.trans hde, hdt'.trans hdt, hflag'.trans hflag⟩

theorem Eased.foldl {α : Type} {f : State → α → State} (h : ∀ s x, Eased s (f s x)) (l : List α) (s : State) : Eased s (l.foldl f s) := by
  induction l generalizing s with
  | nil => exact .refl s
  | cons x l ih => exact (h s x).trans (ih _)

theorem Eased.ite {s t u : State} {c : Prop} [Decidable c] (h : Eased s t) (k : Eased s u) : Eased s (if c then t else u) := by
  split <;> assumption

/-- A change that leaves taps and settings alone and makes nothing retire-pending. -/
theorem Eased.of_eq {s t : State} (htaps : t.taps = s.taps) (hconfig : t.store.config = s.store.config)
    (hcalm : s.nothingRetires → t.nothingRetires) : Eased s t := by
  have htap (i : Fin 4) : t.tap i = s.tap i := congrArg (fun v : PerTap Tap => v.get i) htaps
  have hset (i : Fin 4) : t.settings i = s.settings i := congrArg (fun c : WorkingConfig => c.taps.get i) hconfig
  refine ⟨fun i => ?_, fun i => ?_, fun i h => ?_, fun i => ?_, fun h => ⟨hcalm h, fun i => ?_⟩⟩
  · rw [htap]
  · rw [hset]
  · rw [htap, hset]; exact h
  · rw [htap]; exact .refl _
  · rw [htap, hset]; exact ⟨rfl, rfl, rfl⟩

theorem Eased.raiseAll (s : State) (e : Event) : Eased s (s.raiseAll e) := by
  refine ⟨fun i => ?_, fun _ => rfl, fun i h => ?_, fun i => ?_, fun h => ⟨h, fun i => ?_⟩⟩
  · rw [State.tap_raiseAll]; rfl
  · rw [State.tap_raiseAll]; exact h
  · rw [State.tap_raiseAll]; exact .raise _ _
  · rw [State.tap_raiseAll]; exact ⟨rfl, rfl, rfl⟩

theorem Eased.raiseUnless (s : State) (quiet : Bool) (e : Event) : Eased s (s.raiseUnless quiet e) := .ite (.refl s) (.raiseAll s e)

theorem mem_modify {α : Type} {l : List α} {p : Nat} {f : α → α} {x : α} (h : x ∈ l.modify p f) : x ∈ l ∨ ∃ y ∈ l, x = f y := by
  obtain ⟨q, hq⟩ := List.mem_iff_getElem?.mp h
  rw [List.getElem?_modify] at hq
  obtain ⟨y, hy, rfl⟩ := Option.map_eq_some_iff.mp hq
  split
  · exact .inr ⟨y, List.mem_of_getElem? hy, rfl⟩
  · exact .inl (List.mem_of_getElem? hy)

theorem Eased.modifySeg (s : State) (p : Nat) {f : Segment → Segment} (hf : ∀ g, (f g).retirePending = g.retirePending) :
    Eased s (s.modifySeg p f) := by
  refine .of_eq rfl rfl fun h g hg => ?_
  obtain hg | ⟨g0, hg0, rfl⟩ := mem_modify hg
  · exact h g hg
  · exact (hf g0).trans (h g0 hg0)

theorem Eased.withTimeline (s : State) (tl : Timeline) : Eased s { s with timeline := tl } := .of_eq rfl rfl id

theorem Eased.pruneSpent (s : State) : Eased s s.pruneSpent := .of_eq rfl rfl id

/-! ### Freeing -/

theorem State.clampTap_equal (ceil : Nat) (s : State) (t i : Fin 4) (h : (s.tap i).dt = (s.settings i).de) :
    ((State.clampTap ceil s t).tap i).dt = ((State.clampTap ceil s t).settings i).de := by
  obtain ⟨hdt, hde⟩ := State.clampTap_delays ceil s t i
  rw [hdt, hde]
  split
  · rw [h]
  · exact h

theorem foldl_clampTap_equal (ceil : Nat) (l : List (Fin 4)) (s : State) (i : Fin 4) (h : (s.tap i).dt = (s.settings i).de) :
    ((l.foldl (State.clampTap ceil) s).tap i).dt = ((l.foldl (State.clampTap ceil) s).settings i).de := by
  induction l generalizing s with
  | nil => exact h
  | cons t l ih => exact ih _ (State.clampTap_equal ceil s t i h)

theorem State.retire_equal (s : State) (p : Nat) (i : Fin 4) (h : (s.tap i).dt = (s.settings i).de) :
    ((s.retire p).tap i).dt = ((s.retire p).settings i).de := by
  have hentered : ((s.enterRetired p).tap i).dt = ((s.enterRetired p).settings i).de := by
    unfold State.enterRetired
    rw [State.tap_raiseAll]
    exact h
  rw [State.retire_eq]
  split
  · refine foldl_clampTap_equal _ _ _ i ?_
    rw [State.tap_raiseAll]
    exact hentered
  · exact hentered

theorem Eased.freeSeg (s : State) (p : Nat) : Eased s (s.freeSeg p) := by
  cases hg : s.seg? p with
  | none => rw [State.freeSeg_of_none hg]; exact .refl s
  | some g =>
    cases hpending : g.retirePending with
    | false =>
      rw [State.freeSeg_of_kept hg hpending, ← State.modifySeg_eq (fun g => { g with state := .free, departure := none }) hg]
      exact .modifySeg s p fun _ => rfl
    | true =>
      rw [State.freeSeg_of_retirePending hg hpending]
      refine ⟨fun i => State.retire_tap _ p i, fun i => State.retire_settings _ p i, fun i h => State.retire_equal _ p i h,
        fun i => State.retire_latchKept (s.setSeg p { g with departure := none }) p i, fun h => ?_⟩
      have hkept := h g (List.mem_of_getElem? hg)
      rw [hpending] at hkept
      cases hkept

/-- `Eased`, the timeline and the edit list staying. -/
structure Frees (s t : State) : Prop extends Eased s t where
  timeline : t.timeline = s.timeline
  edits : t.edits = s.edits

theorem Frees.refl (s : State) : Frees s s := ⟨.refl s, rfl, rfl⟩

theorem Frees.trans {s t u : State} (h : Frees s t) (k : Frees t u) : Frees s u :=
  ⟨h.toEased.trans k.toEased, k.timeline.trans h.timeline, k.edits.trans h.edits⟩

theorem Frees.foldl {α : Type} {f : State → α → State} (h : ∀ s x, Frees s (f s x)) (l : List α) (s : State) : Frees s (l.foldl f s) := by
  induction l generalizing s with
  | nil => exact .refl s
  | cons x l ih => exact (h s x).trans (ih _)

theorem Frees.ite {s t u : State} {c : Prop} [Decidable c] (h : Frees s t) (k : Frees s u) : Frees s (if c then t else u) := by
  split <;> assumption

theorem Frees.raiseAll (s : State) (e : Event) : Frees s (s.raiseAll e) := ⟨.raiseAll s e, rfl, rfl⟩

theorem Frees.raiseUnless (s : State) (quiet : Bool) (e : Event) : Frees s (s.raiseUnless quiet e) := .ite (.refl s) (.raiseAll s e)

theorem Frees.modifySeg (s : State) (p : Nat) {f : Segment → Segment} (hf : ∀ g, (f g).retirePending = g.retirePending) :
    Frees s (s.modifySeg p f) := ⟨.modifySeg s p hf, rfl, rfl⟩

theorem Frees.withRecords (s : State) (rs : List SegmentRecord) : Frees s { s with quarantine := { s.quarantine with records := rs } } :=
  ⟨.of_eq rfl rfl id, rfl, rfl⟩

theorem Frees.freeSeg (s : State) (p : Nat) : Frees s (s.freeSeg p) := ⟨.freeSeg s p, State.freeSeg_timeline s p, State.freeSeg_edits s p⟩

theorem Frees.takeRecord (s : State) (r : SegmentRecord) : Frees s (s.takeRecord r) := by
  unfold State.takeRecord
  exact (Frees.withRecords ..).trans (.modifySeg _ _ fun _ => rfl)

theorem Frees.offer (quiet : Bool) (s : State) (r : SegmentRecord) : Frees s (State.offer quiet s r) := by
  unfold State.offer
  refine .ite (.freeSeg ..) (.ite (.takeRecord ..) ?_)
  split
  · exact (((Frees.withRecords ..).trans (.raiseUnless ..)).trans (.freeSeg ..)).trans (.takeRecord ..)
  · exact (Frees.raiseUnless ..).trans (.freeSeg ..)

theorem Frees.handOver (s : State) (p : Nat) (r : Option SegmentRecord) : Frees s (s.handOver p r) := by
  unfold State.handOver
  split
  · exact .freeSeg ..
  · exact .ite (.freeSeg ..) (.offer ..)

theorem Frees.pin (s : State) (p : Nat) : Frees s (s.pin p) := .modifySeg s p fun _ => rfl

theorem Frees.unpin (s : State) (p : Nat) : Frees s (s.unpin p) := by
  unfold State.unpin
  split
  · exact .refl s
  · have hless : Frees s (s.modifySeg p fun g => { g with pins := g.pins - 1 }) := .modifySeg s p fun _ => rfl
    exact .ite (hless.trans (.handOver ..)) hless

theorem Frees.pinOpt (s : State) (p : Option Nat) : Frees s (s.pinOpt p) := by
  unfold State.pinOpt
  split
  · exact .refl s
  · exact .pin ..

theorem Frees.unpinOpt (s : State) (p : Option Nat) : Frees s (s.unpinOpt p) := by
  unfold State.unpinOpt
  split
  · exact .refl s
  · exact .unpin ..

theorem Frees.handOn (s : State) (e : TimelineEntry) : Frees s (s.handOn e) := by
  unfold State.handOn
  split
  · exact .refl s
  · split
    · exact .refl s
    · exact .ite (.modifySeg _ _ fun _ => rfl) (.ite (.freeSeg ..) (.offer ..))

/-! ### Departures -/

theorem Eased.departHead (s : State) : Eased s s.departHead := by
  unfold State.departHead
  split
  · exact .refl s
  · exact (Eased.withTimeline ..).trans (Frees.handOn ..).toEased

theorem Eased.departDue (n : Nat) (s : State) : Eased s (State.departDue n s) := by
  induction n generalizing s with
  | zero => exact .refl s
  | succ n ih =>
    unfold State.departDue
    split
    · exact .refl s
    · exact .ite ((Eased.departHead s).trans (ih _)) (.refl s)

theorem Eased.settle (s : State) : Eased s s.settle := (Eased.departDue ..).trans (.pruneSpent _)

end Sys2Proof.Machine

/-! SUPPORT. Turning taps on and off (R107, R108), and the commands that set tap values and settings (R163 to R168). -/

namespace Sys2Proof.Machine

/-! ### Control of one tap -/

/-- A tap with another Dt, clamp flag and latch. -/
def Tap.eased (x : Tap) (dt : Nat) (flag : Bool) (latch : Word) : Tap := { x with dt := dt, clampFlag := flag, latch := latch }

theorem Eased.tap_eq {s t : State} (h : Eased s t) (i : Fin 4) :
    t.tap i = (s.tap i).eased (t.tap i).dt (t.tap i).clampFlag (t.tap i).latch := h.tap i

/-- A change of a tap's settings and values that passes Dt on or sets it to De, and passes De, the clamp flag and the latch on. -/
structure Controls (w : TapSettings → TapSettings) (f : TapSettings → Tap → Tap) : Prop where
  settings : ∀ c d, w { c with de := d } = { w c with de := d }
  tap : ∀ c c' x a b l, f c' (x.eased a b l) = (f c x).eased (f c' (x.eased a b l)).dt b l
  dt : ∀ c c' x x', x.dt = x'.dt → c.de = c'.de → (f c x).dt = (f c' x').dt
  equal : ∀ c c' x x', (x.dt = c.de → x'.dt = c'.de) → (f c x).dt = (w c).de → (f c' x').dt = (w c').de

theorem Controls.de {w : TapSettings → TapSettings} {f : TapSettings → Tap → Tap} (h : Controls w f) (c : TapSettings) : (w c).de = c.de :=
  congrArg (·.de) (h.settings c c.de)

theorem Controls.clampFlag {w : TapSettings → TapSettings} {f : TapSettings → Tap → Tap} (h : Controls w f) (c : TapSettings) (x : Tap) :
    (f c x).clampFlag = x.clampFlag := congrArg (·.clampFlag) (h.tap c c x x.dt x.clampFlag x.latch)

theorem Controls.latch {w : TapSettings → TapSettings} {f : TapSettings → Tap → Tap} (h : Controls w f) (c : TapSettings) (x : Tap) :
    (f c x).latch = x.latch := congrArg (·.latch) (h.tap c c x x.dt x.clampFlag x.latch)

/-- `s` after such a change of tap `i`. -/
def State.control (w : TapSettings → TapSettings) (f : TapSettings → Tap → Tap) (s : State) (i : Fin 4) : State :=
  s.setControl i (w (s.settings i)) (f (s.settings i) (s.tap i))

theorem State.tap_control (w : TapSettings → TapSettings) (f : TapSettings → Tap → Tap) (s : State) (i j : Fin 4) :
    (s.control w f i).tap j = if j = i then f (s.settings j) (s.tap j) else s.tap j := by
  unfold State.control
  rw [State.setControl_tap_get]
  split
  · next h => rw [h]
  · rfl

theorem State.settings_control (w : TapSettings → TapSettings) (f : TapSettings → Tap → Tap) (s : State) (i j : Fin 4) :
    (s.control w f i).settings j = if j = i then w (s.settings j) else s.settings j := by
  unfold State.control
  rw [State.setControl_settings_get]
  split
  · next h => rw [h]
  · rfl

/-- Such a change carries `Eased` on. -/
theorem Eased.control {w : TapSettings → TapSettings} {f : TapSettings → Tap → Tap} (hc : Controls w f) {s t : State} (h : Eased s t)
    (i : Fin 4) : Eased (s.control w f i) (t.control w f i) := by
  have hsettings (j : Fin 4) : w (t.settings j) = { w (s.settings j) with de := (w (t.settings j)).de } := by
    rw [hc.de, h.settings j, hc.settings]
  have htap (j : Fin 4) : f (t.settings j) (t.tap j) =
      (f (s.settings j) (s.tap j)).eased (f (t.settings j) (t.tap j)).dt (f (t.settings j) (t.tap j)).clampFlag
        (f (t.settings j) (t.tap j)).latch := by
    rw [hc.clampFlag, hc.latch, h.tap_eq j]
    exact hc.tap ..
  refine ⟨fun j => ?_, fun j => ?_, fun j => ?_, fun j => ?_, fun hs => ⟨(h.calm hs).1, fun j => ?_⟩⟩ <;>
    by_cases hj : j = i <;>
    simp only [State.tap_control, State.settings_control, hj, if_true, if_false]
  · exact htap i
  · exact h.tap j
  · exact hsettings i
  · exact h.settings j
  · exact hc.equal _ _ _ _ (h.equal i)
  · exact h.equal j
  · intro n hn
    rw [hc.latch] at hn ⊢
    exact h.latch i n hn
  · exact h.latch j
  · obtain ⟨hde, hdt, hflag⟩ := (h.calm hs).2 i
    exact ⟨by rw [hc.de, hc.de, hde], hc.dt _ _ _ _ hdt hde, by rw [hc.clampFlag, hc.clampFlag, hflag]⟩
  · exact (h.calm hs).2 j

theorem Frees.control {w : TapSettings → TapSettings} {f : TapSettings → Tap → Tap} (hc : Controls w f) {s t : State} (h : Frees s t)
    (i : Fin 4) : Frees (s.control w f i) (t.control w f i) := ⟨h.toEased.control hc i, h.timeline, h.edits⟩

/-- An action that controls one tap and otherwise frees at most, done to each tap of a list. -/
theorem Frees.foldl_control {w : TapSettings → TapSettings} {f : TapSettings → Tap → Tap} (hc : Controls w f) {F : State → Fin 4 → State}
    (l : List (Fin 4)) {s t : State} (h : Frees s t) (hF : ∀ u i, u.timeline = s.timeline → Frees (u.control w f i) (F u i)) :
    Frees (l.foldl (State.control w f) s) (l.foldl F t) := by
  induction l generalizing s t with
  | nil => exact h
  | cons i l ih => exact ih ((h.control hc i).trans (hF t i h.timeline)) hF

/-- The same for the taps of a mask. -/
theorem Frees.forTaps {w : TapSettings → TapSettings} {f : TapSettings → Tap → Tap} (hc : Controls w f) {F : State → Fin 4 → State} (m : BitVec 4)
    (s : State) (hF : ∀ u i, u.timeline = s.timeline → Frees (u.control w f i) (F u i)) :
    Frees (s.withControls (.of fun i => if hasTap m i then w (s.settings i) else s.settings i)
      (.of fun i => if hasTap m i then f (s.settings i) (s.tap i) else s.tap i)) (s.forTaps m F) := by
  have h := Frees.foldl_control hc (tapsOf m) (.refl s) hF
  have hfold : (tapsOf m).foldl (State.control w f) s = _ := forTaps_setControl w f m s
  rw [hfold] at h
  exact h

/-! ### TAP ON and TAP OFF (R107, R108) -/

/-- A tap without references. -/
def Tap.bare (x : Tap) : Tap := { x with current := none, previous := none, repeatSource := none }

theorem Frees.dropReferences (s : State) (i : Fin 4) : Frees (s.setTap i (s.tap i).bare) (s.dropReferences i) := by
  unfold State.dropReferences
  exact ((Frees.unpinOpt ..).trans (.unpinOpt ..)).trans (.unpinOpt ..)

/-- The settings that TAP ON leaves. -/
def TapSettings.on (policy : StartPolicy) (c : TapSettings) : TapSettings := { c with enabled := true, policy := policy }

/-- The values of a tap that is turned on at the live edge `edge`, its references aside. -/
def Tap.on (x : Tap) (policy : StartPolicy) (edge : Word) (c : TapSettings) : Tap :=
  { x with
    state := match policy with | .build => .run | .wait => .priming
    op := 0xFFFFFFFF#32
    bound := edge
    dt := c.de
    mode := .steady
    acc := 0
    sinceLast := 255
    underrunRun := 0
    stalled := false
    spliceOwed := false
    stepErrorOwed := false
    dropped := 0
    repeats := 0
    shed := 0
    stepErrors := 0 }

/-- The values of a tap that is turned off. -/
def Tap.off (x : Tap) : Tap := if x.active then { x.bare with state := .off } else x

theorem controls_on (policy : StartPolicy) (edge : Word) : Controls (.on policy) (fun c x => x.bare.on policy edge c) :=
  ⟨fun _ _ => rfl, fun _ _ _ _ _ _ => rfl, fun _ _ _ _ _ h => h, fun _ _ _ _ _ _ => rfl⟩

theorem controls_id_on (policy : StartPolicy) (edge : Word) : Controls id (fun c x => x.on policy edge c) :=
  ⟨fun _ _ => rfl, fun _ _ _ _ _ _ => rfl, fun _ _ _ _ _ h => h, fun _ _ _ _ _ _ => rfl⟩

theorem Tap.off_dt (x : Tap) : x.off.dt = x.dt := by unfold Tap.off; split <;> rfl

theorem controls_off : Controls (fun c => { c with enabled := false }) (fun _ x => x.off) := by
  refine ⟨fun _ _ => rfl, fun _ _ x a b l => ?_, fun _ _ _ _ h _ => ?_, fun _ _ _ _ h k => ?_⟩
  · rw [Tap.off_dt]
    show (if x.active then _ else _) = Tap.eased (if x.active then _ else _) _ _ _
    split <;> rfl
  · rw [Tap.off_dt, Tap.off_dt, h]
  · rw [Tap.off_dt] at k ⊢
    exact h k

theorem State.setControl_setControl (s : State) (i : Fin 4) (w w' : TapSettings) (x x' : Tap) :
    (s.setControl i w x).setControl i w' x' = s.setControl i w' x' := by
  match i with
  | 0 => rfl
  | 1 => rfl
  | 2 => rfl
  | 3 => rfl

/-- A control of tap `i` that was set before is one of the values that were set. -/
theorem State.control_setControl (w : TapSettings → TapSettings) (f : TapSettings → Tap → Tap) (s : State) (i : Fin 4) (c : TapSettings)
    (x : Tap) : (s.setControl i c x).control w f i = s.setControl i (w c) (f c x) := by
  unfold State.control
  rw [State.setControl_settings_get, State.setControl_tap_get, if_pos rfl, if_pos rfl, State.setControl_setControl]

/-- Dropping the references of tap `i`, its settings having been set to `c`. -/
theorem Frees.dropReferences_control {f : TapSettings → Tap → Tap} (hf : Controls id f) (u : State) (i : Fin 4) (c : TapSettings) :
    Frees (u.setControl i c (f c (u.tap i).bare)) (((u.setSettings i c).dropReferences i).control id f i) := by
  have hdrop := (Frees.dropReferences (u.setSettings i c) i).control hf i
  have hset : (u.setSettings i c).setTap i ((u.setSettings i c).tap i).bare = u.setControl i c (u.tap i).bare := rfl
  rw [hset, State.control_setControl] at hdrop
  exact hdrop

/-- A control that keeps the settings sets the tap alone. -/
theorem State.control_id (f : TapSettings → Tap → Tap) (s : State) (i : Fin 4) : s.control id f i = s.setTap i (f (s.settings i) (s.tap i)) :=
  s.setControl_settings i _

theorem Frees.tapOn (policy : StartPolicy) {s u : State} (i : Fin 4) (h : u.timeline = s.timeline) :
    Frees (u.control (.on policy) (fun c x => x.bare.on policy s.liveEdge c) i)
      ((u.setSettings i { u.settings i with enabled := true, policy := policy }).tapOn policy i) := by
  have hdrop := Frees.dropReferences_control (controls_id_on policy s.liveEdge) u i ((u.settings i).on policy)
  have hedge : ((u.setSettings i ((u.settings i).on policy)).dropReferences i).liveEdge = s.liveEdge := by
    unfold State.liveEdge
    rw [(Frees.dropReferences ..).timeline]
    exact congrArg (·.nextPi - 1#32) h
  rw [State.control_id, ← hedge] at hdrop
  rw [← hedge]
  exact hdrop

theorem controls_id_state (st : TapState) : Controls id (fun _ x => { x with state := st }) :=
  ⟨fun _ _ => rfl, fun _ _ _ _ _ _ => rfl, fun _ _ _ _ h _ => h, fun _ _ _ _ h k => h k⟩

theorem Frees.tapOff (u : State) (i : Fin 4) :
    Frees (u.control (fun c => { c with enabled := false }) (fun _ x => x.off) i)
      ((u.setSettings i { u.settings i with enabled := false }).tapOff i) := by
  unfold State.tapOff State.control Tap.off
  rw [State.tap_setSettings]
  dsimp only
  by_cases hactive : (u.tap i).active = true
  · rw [if_pos hactive, if_pos hactive]
    have hdrop := Frees.dropReferences_control (controls_id_state .off) u i { u.settings i with enabled := false }
    rw [State.control_id] at hdrop
    exact hdrop
  · rw [if_neg hactive, if_neg hactive, State.setControl_tap]
    exact .refl _

end Sys2Proof.Machine

/-! SUPPORT. The commands that set tap values and settings (R163 to R168). -/

namespace Sys2Proof.Machine

theorem clampedIf_congr {p q : Prop} [Decidable p] [Decidable q] (h : p ↔ q) :
    (if p then CmdResult.clamped else CmdResult.accepted) = if decide q = true then CmdResult.clamped else CmdResult.accepted :=
  ite_congr_cond (h.trans decide_eq_true_iff.symm) rfl rfl

theorem clampTo_eq {lo hi : Nat} (v : Nat) (h : lo ≤ hi) : clampTo lo hi v = if v < lo then lo else if hi < v then hi else v := by
  unfold clampTo
  split
  · omega
  · split <;> omega

theorem State.tap_resulted (s : State) (e : ControlEntry) (q : Word) (r : CmdResult) (i : Fin 4) :
    (s.resulted e q r).tap i =
      { s.tap i with
        executed := min ((s.tap i).executed + 1) 255
        report := if r = .accepted then (s.tap i).report else (s.tap i).report.or (some ⟨e.code, r, q⟩) } := PerTap.get_map ..

theorem State.settings_withControls (s : State) (w : Fin 4 → TapSettings) (v : PerTap Tap) (i : Fin 4) :
    (s.withControls (.of w) v).settings i = w i := PerTap.get_of w i

theorem State.tap_withControls (s : State) (w : PerTap TapSettings) (v : Fin 4 → Tap) (i : Fin 4) :
    (s.withControls w (.of v)).tap i = v i := PerTap.get_of v i

/-! ### Which command a code runs (Table 15) -/

theorem runCommand_tapOn {s : State} {e : ControlEntry} (h : e.code = 0x01#8) : runCommand s e = cmdTapOn s e := by simp [runCommand, h]

theorem runCommand_tapOff {s : State} {e : ControlEntry} (h : e.code = 0x02#8) : runCommand s e = cmdTapOff s e := by simp [runCommand, h]

theorem runCommand_setTarget {s : State} {e : ControlEntry} (h : e.code = 0x03#8) : runCommand s e = cmdSetTarget s e := by
  simp [runCommand, h]

theorem runCommand_setPacer {s : State} {e : ControlEntry} (h : e.code = 0x04#8) : runCommand s e = cmdSetPacer s e := by
  simp [runCommand, h]

theorem runCommand_clearCounters {s : State} {e : ControlEntry} (h : e.code = 0x0D#8) : runCommand s e = cmdClearCounters s e := by
  simp [runCommand, h]

theorem runCommand_setDump {s : State} {e : ControlEntry} (h : e.code = 0x08#8) : runCommand s e = cmdSetDump s e := by simp [runCommand, h]

theorem runCommand_setMaskTiming {s : State} {e : ControlEntry} (h : e.code = 0x09#8) : runCommand s e = cmdSetMaskTiming s e := by
  simp [runCommand, h]

theorem runCommand_setSnap {s : State} {e : ControlEntry} (h : e.code = 0x0A#8) : runCommand s e = cmdSetSnap s e := by simp [runCommand, h]

theorem runCommand_setPanel {s : State} {e : ControlEntry} (h : e.code = 0x0B#8) : runCommand s e = cmdSetPanel s e := by
  simp [runCommand, h]

theorem runCommand_setPolicy {s : State} {e : ControlEntry} (h : e.code = 0x0C#8) : runCommand s e = cmdSetPolicy s e := by
  simp [runCommand, h]

/-! ### What the commands leave -/

/-- Each of the five commands on taps is refused without taps. -/
theorem runCommand_no_taps {s : State} {e : ControlEntry}
    (h : e.code = 0x01#8 ∨ e.code = 0x02#8 ∨ e.code = 0x03#8 ∨ e.code = 0x04#8 ∨ e.code = 0x0D#8) (htaps : e.taps = 0#4) :
    runCommand s e = (s, .refusedRange) := by
  obtain h | h | h | h | h := h
  · rw [runCommand_tapOn h]; exact if_pos htaps
  · rw [runCommand_tapOff h]; exact if_pos htaps
  · rw [runCommand_setTarget h]; exact if_pos htaps
  · rw [runCommand_setPacer h]; exact if_pos htaps
  · rw [runCommand_clearCounters h]; exact if_pos htaps

theorem cmdSetTarget_eq {s : State} {e : ControlEntry} (htaps : e.taps ≠ 0#4) :
    cmdSetTarget s e =
      (s.withControls (.of fun i => if hasTap e.taps i then { s.settings i with de := min e.argA.toNat s.dmax } else s.settings i)
          (.of fun i => if hasTap e.taps i then { s.tap i with dt := min e.argA.toNat s.dmax, clampFlag := false } else s.tap i),
        if decide (s.dmax < e.argA.toNat) = true then .clamped else .accepted) := by
  unfold cmdSetTarget
  rw [if_neg htaps]
  refine Prod.ext ?_ ?_
  · exact forTaps_setControl (fun w => { w with de := min e.argA.toNat s.dmax })
      (fun _ x => { x with dt := min e.argA.toNat s.dmax, clampFlag := false }) e.taps s
  · exact clampedIf_congr (by omega)

theorem cmdSetPacer_eq {s : State} {e : ControlEntry} (htaps : e.taps ≠ 0#4) {p k : Nat} (hp : clampTo 2 4095 e.argA.toNat = p)
    (hk : min (e.argB.toNat % 65536) (p / 2) = k) :
    cmdSetPacer s e =
      (s.withControls
          (.of fun i => if hasTap e.taps i then { s.settings i with p := p, k := k, g := e.argB.toNat / 65536 % 256 } else s.settings i)
          (.of fun i => if hasTap e.taps i then { s.tap i with acc := 0 } else s.tap i),
        if decide (p ≠ e.argA.toNat ∨ k ≠ e.argB.toNat % 65536) = true then .clamped else .accepted) := by
  subst hk
  unfold cmdSetPacer
  rw [if_neg htaps, hp]
  refine Prod.ext ?_ (clampedIf_congr Iff.rfl)
  exact forTaps_setControl (fun w => { w with p := p, k := min (e.argB.toNat % 65536) (p / 2), g := e.argB.toNat / 65536 % 256 }) (fun _ x => { x with acc := 0 }) e.taps s

theorem cmdClearCounters_eq {s : State} {e : ControlEntry} (htaps : e.taps ≠ 0#4) :
    cmdClearCounters s e =
      ({ s with taps := .of fun i =>
          if hasTap e.taps i then { s.tap i with dropped := 0, repeats := 0, shed := 0, stepErrors := 0 } else s.tap i }, .accepted) := by
  unfold cmdClearCounters
  rw [if_neg htaps]
  refine Prod.ext ?_ rfl
  exact forTaps_setTap (fun _ x => { x with dropped := 0, repeats := 0, shed := 0, stepErrors := 0 }) e.taps s

/-- What TAP ON and TAP OFF do before the floor test: each tap of the mask is controlled, and references that fall may free segments. -/
structure Switches (s : State) (e : ControlEntry) (w : TapSettings → TapSettings) (f : TapSettings → Tap → Tap) (u : State) : Prop where
  run : runCommand s e = (u.settle, .accepted)
  frees : Frees (s.withControls (.of fun i => if hasTap e.taps i then w (s.settings i) else s.settings i)
    (.of fun i => if hasTap e.taps i then f (s.settings i) (s.tap i) else s.tap i)) u

/-- The policy that TAP ON takes from its operand. -/
def ControlEntry.startPolicy (e : ControlEntry) : StartPolicy := if e.argA.getLsbD 0 then .wait else .build

theorem Tap.on_state (x : Tap) (e : ControlEntry) (edge : Word) (c : TapSettings) :
    (x.on e.startPolicy edge c).state = if e.argA.getLsbD 0 then .priming else .run := by
  unfold Tap.on ControlEntry.startPolicy
  cases e.argA.getLsbD 0 <;> rfl

theorem switches_on {s : State} {e : ControlEntry} (h : e.code = 0x01#8) (htaps : e.taps ≠ 0#4) :
    ∃ u, Switches s e (.on e.startPolicy) (fun c x => x.bare.on e.startPolicy s.liveEdge c) u :=
  ⟨_, by rw [runCommand_tapOn h]; exact if_neg htaps,
    Frees.forTaps (controls_on _ _) e.taps s fun _ i hu => .tapOn e.startPolicy i hu⟩

theorem switches_off {s : State} {e : ControlEntry} (h : e.code = 0x02#8) (htaps : e.taps ≠ 0#4) :
    ∃ u, Switches s e (fun c => { c with enabled := false }) (fun _ x => x.off) u :=
  ⟨_, by rw [runCommand_tapOff h]; exact if_neg htaps, Frees.forTaps controls_off e.taps s fun u i _ => .tapOff u i⟩

section
variable {s : State} {e : ControlEntry} {w : TapSettings → TapSettings} {f : TapSettings → Tap → Tap} {u : State}

theorem Switches.eased (h : Switches s e w f u) :
    Eased (s.withControls (.of fun i => if hasTap e.taps i then w (s.settings i) else s.settings i)
      (.of fun i => if hasTap e.taps i then f (s.settings i) (s.tap i) else s.tap i)) u.settle := h.frees.toEased.trans (.settle u)

theorem Switches.settings_of_mem (h : Switches s e w f u) (q : Word) {i : Fin 4} (hi : hasTap e.taps i = true) :
    (u.settle.resulted e q .accepted).settings i =
      { w (s.settings i) with de := ((u.settle.resulted e q .accepted).settings i).de } := by
  have hset := h.eased.settings i
  rw [State.settings_withControls, if_pos hi] at hset
  exact hset

theorem Switches.settings_of_not_mem (h : Switches s e w f u) (q : Word) {i : Fin 4} (hi : hasTap e.taps i = false) :
    (u.settle.resulted e q .accepted).settings i = { s.settings i with de := ((u.settle.resulted e q .accepted).settings i).de } := by
  have hset := h.eased.settings i
  rw [State.settings_withControls, if_neg (by rw [hi]; decide)] at hset
  exact hset

/-- A tap's values after the command, `x` being those it was controlled to. -/
theorem Switches.tap (h : Switches s e w f u) (q : Word) {i : Fin 4} {x : Tap}
    (hx : (if hasTap e.taps i then f (s.settings i) (s.tap i) else s.tap i) = x) (hcount : x.executed = (s.tap i).executed) :
    (u.settle.resulted e q .accepted).tap i =
      { x with
        dt := ((u.settle.resulted e q .accepted).tap i).dt
        latch := ((u.settle.resulted e q .accepted).tap i).latch
        clampFlag := ((u.settle.resulted e q .accepted).tap i).clampFlag
        executed := min ((s.tap i).executed + 1) 255 } := by
  have htap := h.eased.tap i
  rw [State.tap_withControls, hx] at htap
  rw [State.tap_resulted, if_pos rfl, htap, ← hcount]

/-- In a pool with nothing retire-pending no delay is clamped. -/
theorem Switches.calm (hc : Controls w f) (h : Switches s e w f u) (q : Word) (hs : s.nothingRetires) (i : Fin 4) :
    ((u.settle.resulted e q .accepted).settings i).de = (s.settings i).de ∧
      ((u.settle.resulted e q .accepted).tap i).clampFlag = (s.tap i).clampFlag ∧
      ((u.settle.resulted e q .accepted).tap i).dt = (if hasTap e.taps i then f (s.settings i) (s.tap i) else s.tap i).dt := by
  obtain ⟨hde, hdt, hflag⟩ := (h.eased.calm hs).2 i
  rw [State.settings_withControls] at hde
  rw [State.tap_withControls] at hdt hflag
  rw [State.tap_resulted]
  refine ⟨hde.trans ?_, hflag.trans ?_, hdt⟩
  · split
    · exact hc.de _
    · rfl
  · split
    · exact hc.clampFlag ..
    · rfl

end

/-- Settles O59: the values set are those of `forTaps_setControl`; TAP ON and TAP OFF besides free segments and depart entries, which leaves
the taps eased. -/
theorem tapAndSettingCommandsSetTheirValues : Obligations.TapAndSettingCommandsSetTheirValues := by
  refine ⟨fun s q e hcode htaps => ?_, ?_⟩
  · intro one
    rw [State.executeEntry_unguarded q hcode (by decide) ((runCommand_clearCounters hcode).trans (cmdClearCounters_eq htaps))]
    have hone (i : Fin 4) :
        (fun x : Tap => { x with executed := min (x.executed + 1) 255 })
          (if hasTap e.taps i then { s.tap i with dropped := 0, repeats := 0, shed := 0, stepErrors := 0 } else s.tap i) = one i := by
      dsimp only [one]
      split <;> rfl
    exact congrArg (fun v => { s with guardStep := 0, taps := v }) (congrArg PerTap.of (funext hone))
  intro s q e t a b onTaps onSettings config c clampedIf
  refine ⟨fun hcode htaps => ?_, fun hcode htaps => ?_, fun hcode htaps => ?_, fun hcode htaps => ?_, fun hcode => ?_, fun hcode => ?_,
    fun hcode => ?_, fun hcode i hi => ?_, fun hcode => ?_⟩
  · have hrun := runCommand_no_taps (s := s) hcode htaps
    obtain hcode | hcode | hcode | hcode | hcode := hcode
    all_goals exact State.executeEntry_unguarded q hcode (by decide) hrun
  · exact State.executeEntry_unguarded q hcode (by decide) ((runCommand_setTarget hcode).trans (cmdSetTarget_eq htaps))
  · exact State.executeEntry_unguarded q hcode (by decide)
      ((runCommand_setPacer hcode).trans (cmdSetPacer_eq htaps (clampTo_eq a (by decide)) rfl))
  · intro wait now
    obtain hcode | hcode := hcode
    · obtain ⟨u, hu⟩ := switches_on (s := s) hcode htaps
      have ht : t = u.settle.resulted e q .accepted := State.executeEntry_unguarded q hcode (by decide) hu.run
      clear_value t
      subst ht
      refine ⟨⟨u, hu.frees.timeline, hu.frees.edits, rfl⟩, fun i hi _ => ⟨?_, ?_, ?_⟩, fun i hi hoff => ?_,
        fun i hi => ⟨hu.settings_of_not_mem q hi, ?_⟩, fun hcalm i => ?_⟩
      · exact hu.settings_of_mem q hi
      · have hequal := hu.eased.equal i
        rw [State.tap_withControls, State.settings_withControls, if_pos hi, if_pos hi] at hequal
        rw [State.tap_resulted]
        exact hequal rfl
      · refine (hu.tap q (if_pos hi) rfl).trans ?_
        dsimp only [now]
        rw [← Tap.on_state (s.tap i).bare e s.liveEdge (s.settings i)]
        rfl
      · rw [hcode] at hoff
        exact absurd hoff (by decide)
      · exact hu.tap q (if_neg (by rw [hi]; decide)) rfl
      · obtain ⟨hde, hflag, hdt⟩ := hu.calm (controls_on _ _) q hcalm i
        refine ⟨hde, hflag, fun hnot => hdt.trans ?_⟩
        rw [if_neg fun hi => hnot ⟨hi, hcode⟩]
    · obtain ⟨u, hu⟩ := switches_off (s := s) hcode htaps
      have ht : t = u.settle.resulted e q .accepted := State.executeEntry_unguarded q hcode (by decide) hu.run
      clear_value t
      subst ht
      refine ⟨⟨u, hu.frees.timeline, hu.frees.edits, rfl⟩, fun i hi hon => ?_, fun i hi _ => ⟨hu.settings_of_mem q hi, ?_⟩,
        fun i hi => ⟨hu.settings_of_not_mem q hi, ?_⟩, fun hcalm i => ?_⟩
      · rw [hcode] at hon
        exact absurd hon (by decide)
      · refine hu.tap q (if_pos hi) ?_
        split <;> rfl
      · exact hu.tap q (if_neg (by rw [hi]; decide)) rfl
      · obtain ⟨hde, hflag, hdt⟩ := hu.calm controls_off q hcalm i
        refine ⟨hde, hflag, fun _ => hdt.trans ?_⟩
        split
        · exact Tap.off_dt _
        · rfl
  · refine State.executeEntry_unguarded q hcode (by decide) ((runCommand_setDump hcode).trans (Prod.ext ?_ ?_))
    · exact congrArg (fun v => config { c with dumpLength := v }) (clampTo_eq a (by decide))
    · rw [cmdSetDump, clampTo_eq _ (by decide)]
      exact clampedIf_congr Iff.rfl
  · intro lead limit
    have hlead : clampTo 1 64 e.argA.toNat = lead := clampTo_eq a (by decide)
    have hlimit : clampTo 1 4096 e.argB.toNat = limit := clampTo_eq b (by decide)
    refine State.executeEntry_unguarded q hcode (by decide) ((runCommand_setMaskTiming hcode).trans ?_)
    rw [cmdSetMaskTiming, hlead, hlimit]
    exact Prod.ext rfl (clampedIf_congr Iff.rfl)
  · refine State.executeEntry_unguarded q hcode (by decide) ((runCommand_setSnap hcode).trans (Prod.ext rfl ?_))
    exact clampedIf_congr (by omega)
  · refine State.executeEntry_unguarded q hcode (by decide) ((runCommand_setPanel hcode).trans (Prod.ext ?_ rfl))
    have htally : Fin.ofNat 4 (e.argB.toNat / 16) = i := Fin.ext hi.symm
    rw [cmdSetPanel, htally, ← BitVec.ofNat_toNat]
    rfl
  · intro threshold stall
    have hstall : clampTo 1 255 e.argB.toNat = stall := clampTo_eq b (by decide)
    have hthreshold : max 1 threshold = if threshold = 0 then 1 else threshold := by split <;> omega
    refine State.executeEntry_unguarded q hcode (by decide) ((runCommand_setPolicy hcode).trans ?_)
    rw [cmdSetPolicy, hstall, ← hthreshold]
    exact Prod.ext rfl (clampedIf_congr Iff.rfl)

end Sys2Proof.Machine

/-! SUPPORT. The pattern run's segments and requests (R15, R56, R57). -/

namespace Sys2Proof.Machine

/-! ### The first allocatable segment (R44, R56) -/

theorem Segment.allocatable_iff (g : Segment) : g.allocatable = true ↔ g.state = .free ∧ g.outstanding = 0 := by
  unfold Segment.allocatable
  rw [Bool.and_eq_true, beq_iff_eq, beq_iff_eq]

theorem State.testable_getElem? (s : State) (cursor stop i : Nat) :
    ((s.pool.segs.take stop).drop cursor)[i]? = if cursor + i < stop then s.seg? (cursor + i) else none := by
  rw [List.getElem?_drop, List.getElem?_take]
  rfl

/-- The lowest allocatable index of a range. -/
theorem State.nextTestable_eq_some {s : State} {cursor stop p : Nat} {g : Segment} (hlow : cursor ≤ p) (hhigh : p < stop)
    (hg : s.seg? p = some g) (hfree : g.allocatable = true)
    (hfirst : ∀ p' g', cursor ≤ p' → p' < p → s.seg? p' = some g' → g'.allocatable = false) : s.nextTestable cursor stop = some p := by
  have hget (i : Nat) := s.testable_getElem? cursor stop i
  have hfound : ((s.pool.segs.take stop).drop cursor).findIdx? Segment.allocatable = some (p - cursor) := by
    rw [List.findIdx?_eq_some_iff_getElem]
    have hp : ((s.pool.segs.take stop).drop cursor)[p - cursor]? = some g := by
      rw [hget, Nat.add_sub_cancel' hlow, if_pos hhigh, hg]
    obtain ⟨hlt, hval⟩ := List.getElem?_eq_some_iff.mp hp
    refine ⟨hlt, by rw [hval]; exact hfree, fun j hj => ?_⟩
    have hj' := hget j
    rw [List.getElem?_eq_getElem (Nat.lt_trans hj hlt), if_pos (by omega)] at hj'
    rw [hfirst (cursor + j) _ (Nat.le_add_right ..) (by omega) hj'.symm]
    decide
  unfold State.nextTestable
  rw [hfound, Option.map_some, Nat.add_sub_cancel' hlow]

theorem State.nextTestable_eq_none {s : State} {cursor stop : Nat}
    (h : ∀ p g, cursor ≤ p → p < stop → s.seg? p = some g → g.allocatable = false) : s.nextTestable cursor stop = none := by
  unfold State.nextTestable
  rw [Option.map_eq_none_iff, List.findIdx?_eq_none_iff]
  intro g hg
  obtain ⟨i, hi⟩ := List.mem_iff_getElem?.mp hg
  rw [State.testable_getElem?] at hi
  split at hi
  · next hlt => exact h _ g (Nat.le_add_right ..) hlt hi
  · exact absurd hi.symm (Option.some_ne_none g)

theorem State.takeTestable_of_some {s : State} {cursor stop p : Nat} (h : s.nextTestable cursor stop = some p) :
    s.takeTestable cursor stop =
      (s.setPattern (some (.start p stop))).modifySeg p fun g => { g with state := .testing, counted := false } := by
  unfold State.takeTestable
  rw [h]

theorem State.takeTestable_of_none {s : State} {cursor stop : Nat} (h : s.nextTestable cursor stop = none) :
    s.takeTestable cursor stop = (s.setPattern none).raiseAll .patternDone := by
  unfold State.takeTestable
  rw [h]

theorem State.setPattern_of_eq {s : State} {r : Option PatternRun} (h : s.pool.pattern = r) : s.setPattern r = s := by
  subst h
  rfl

/-- An event latched in every tap. -/
theorem State.raiseAll_eq (s : State) (e : Event) : s.raiseAll e = { s with taps := s.latching fun _ => 1#32 <<< e.bit } := rfl

/-! ### PATTERN TEST (R56) -/

theorem runCommand_patternTest {s : State} {e : ControlEntry} (h : e.code = 0x1C#8) : runCommand s e = cmdPatternTest s e := by
  simp [runCommand, h]

theorem cmdPatternTest_of_range {s : State} {e : ControlEntry} (hidle : s.pool.pattern = none) (hfirst : e.argB.toNat < s.pool.segs.length)
    (hcount : e.argA ≠ 0#16) :
    cmdPatternTest s e =
      (s.takeTestable e.argB.toNat (min (e.argB.toNat + e.argA.toNat) s.pool.segs.length),
        if s.pool.segs.length < e.argB.toNat + e.argA.toNat then .clamped else .accepted) := by
  have hpos : e.argA.toNat ≠ 0 := fun h => hcount (BitVec.eq_of_toNat_eq h)
  unfold cmdPatternTest
  rw [hidle]
  have hrange : ¬ (s.pool.segs.length ≤ e.argB.toNat ∨ e.argA.toNat = 0) := by omega
  exact if_neg hrange

theorem cmdPatternTest_of_no_range {s : State} {e : ControlEntry} (hidle : s.pool.pattern = none)
    (h : s.pool.segs.length ≤ e.argB.toNat ∨ e.argA = 0#16) : cmdPatternTest s e = (s, .refusedRange) := by
  unfold cmdPatternTest
  rw [hidle]
  exact if_pos (h.imp_right fun h => by rw [h]; rfl)

theorem cmdPatternTest_of_busy {s : State} {e : ControlEntry} (h : s.pool.pattern ≠ none) : cmdPatternTest s e = (s, .refusedBusy) := by
  unfold cmdPatternTest
  obtain ⟨r, hr⟩ := Option.ne_none_iff_exists'.mp h
  rw [hr]
  rfl

/-! ### Its requests (R15, R57) -/

theorem exec_patternRequestIssue_of_next {s : State} {r r1 : PatternRun} {g : Geometry} {m : MRequest} (hr : s.pool.pattern = some r)
    (hg : s.link.geometry = some g) (hmay : s.patternMayIssue = true) (hnext : (s.freeTags.head?).bind (r.nextRequest g) = some (m, r1)) :
    exec .patternRequestIssue s = .next (s.issuePattern m r1) := by
  have hexec : exec .patternRequestIssue s = execPatternRequestIssue s := rfl
  rw [hexec, execPatternRequestIssue, hr, hg]
  dsimp only
  rw [if_pos hmay, hnext]

theorem exec_patternRequestIssue_waits {s : State} {r : PatternRun} {g : Geometry} (hr : s.pool.pattern = some r)
    (hg : s.link.geometry = some g) (hwait : s.patternMayIssue = true → (s.freeTags.head?).bind (r.nextRequest g) = none) :
    exec .patternRequestIssue s = .next s := by
  have hexec : exec .patternRequestIssue s = execPatternRequestIssue s := rfl
  rw [hexec, execPatternRequestIssue, hr, hg]
  dsimp only
  split
  · next hmay => rw [hwait hmay]
  · rfl

theorem State.patternMayIssue_iff (s : State) :
    s.patternMayIssue = true ↔ s.link.mHoldOff = false ∧ s.patternHolds < 8 ∧ 6 ≤ s.freeTags.length := by
  unfold State.patternMayIssue
  rw [Bool.and_eq_true, Bool.and_eq_true, Bool.not_eq_true', decide_eq_true_eq, decide_eq_true_eq, and_assoc]
  rfl

/-- The run has no next request. -/
theorem PatternRun.nextRequest_eq_none {r : PatternRun} {g : Geometry} (t : Fin 128)
    (h : r.failed = true ∨
      (r.writesIssued = g.segSize / 1024 ∧ (r.writesAnswered ≠ r.writesIssued ∨ r.readsIssued = g.segSize / 1024))) :
    r.nextRequest g t = none := by
  unfold PatternRun.nextRequest
  dsimp only
  obtain hfailed | ⟨hwrites, hwait⟩ := h
  · rw [if_pos hfailed]
  · split
    · rfl
    · rw [if_neg (by omega), if_neg (by omega)]

/-- Settles O51: the command takes the first allocatable segment of its range; the run's next request is its next write or read. -/
theorem patternRunIssuesWithinItsTags : Obligations.PatternRunIssuesWithinItsTags := by
  refine ⟨fun s q e hcode => ?_, fun s r g hr hg => ?_⟩
  · intro t n stop result testable
    have hresult {u : State} {c : CmdResult} (hrun : cmdPatternTest s e = (u, c)) : t = u.resulted e q c :=
      State.executeEntry_unguarded q hcode (by decide) ((runCommand_patternTest hcode).trans hrun)
    have htestable {p : Nat} : testable p ↔ e.argB.toNat ≤ p ∧ p < stop ∧ ∃ sp, s.seg? p = some sp ∧ sp.allocatable = true := by
      simp only [testable, Segment.allocatable_iff]
    refine ⟨fun hbusy => hresult (cmdPatternTest_of_busy hbusy), fun hidle => ⟨fun hno => hresult (cmdPatternTest_of_no_range hidle hno),
      fun hfirst hcount => ⟨fun p hp hlow => ?_, fun hnone => ?_⟩⟩⟩
    · obtain ⟨hfrom, hto, sp, hsp, hfree⟩ := htestable.mp hp
      have hnext : s.nextTestable e.argB.toNat stop = some p :=
        State.nextTestable_eq_some hfrom hto hsp hfree fun p' g' hfrom' hlt hg' =>
          Bool.eq_false_iff.mpr fun hfree' => hlow p' hlt (htestable.mpr ⟨hfrom', by omega, g', hg', hfree'⟩)
      refine (hresult (cmdPatternTest_of_range hidle hfirst hcount)).trans ?_
      rw [State.takeTestable_of_some hnext]
      rfl
    · have hnext : s.nextTestable e.argB.toNat stop = none :=
        State.nextTestable_eq_none fun p g' hfrom hto hg' =>
          Bool.eq_false_iff.mpr fun hfree => hnone p (htestable.mpr ⟨hfrom, hto, g', hg', hfree⟩)
      refine (hresult (cmdPatternTest_of_range hidle hfirst hcount)).trans ?_
      rw [State.takeTestable_of_none hnext, State.setPattern_of_eq hidle, State.raiseAll_eq]
      rfl
  · intro blocks held free issued
    have hheld : held.length = s.patternHolds := by
      refine congrArg (fun p => (s.link.outstanding.filter p).length) (funext fun m => ?_)
      show (match m.use with | .patternWrite _ => true | .patternRead _ _ => true | _ => false) = m.use.ofPattern
      cases m.use <;> rfl
    have hmay : s.patternMayIssue = true ↔ free := by
      rw [State.patternMayIssue_iff, ← hheld]
    refine ⟨fun hfree hok => ?_, fun hwait => exec_patternRequestIssue_waits hr hg fun hissue => ?_⟩
    · have hissue := hmay.mpr hfree
      obtain ⟨_, _, hsix⟩ := hfree
      obtain ⟨tag, rest, htags⟩ := List.exists_cons_of_length_pos (l := s.freeTags) (by omega)
      obtain ⟨hhigh, htagFree⟩ := State.mem_freeTags (htags ▸ List.mem_cons_self : tag ∈ s.freeTags)
      have hhead : (s.freeTags.head?).bind (r.nextRequest g) = r.nextRequest g tag := by
        rw [htags, List.head?_cons, Option.bind_some]
      have hok' : ¬ r.failed = true := by rw [hok]; decide
      refine ⟨tag, hhigh, htagFree, fun hwrite => ?_, fun hwrites hanswered hread => ?_⟩
      · exact exec_patternRequestIssue_of_next hr hg hissue (hhead.trans ((if_neg hok').trans (if_pos hwrite)))
      · have hall : ¬ r.writesIssued < g.segSize / 1024 := Nat.not_lt.mpr (Nat.le_of_eq hwrites.symm)
        exact exec_patternRequestIssue_of_next hr hg hissue
          (hhead.trans ((if_neg hok').trans ((if_neg hall).trans (if_pos ⟨hanswered, hread⟩))))
    · rw [Option.bind_eq_none_iff]
      exact fun t _ => PatternRun.nextRequest_eq_none t (hwait.resolve_left fun hnot => hnot (hmay.mp hissue))

end Sys2Proof.Machine

/-! SUPPORT. Fill plans handed to a read (R13 to R16), out-of-step reads (R111) and review reads (R152). -/

namespace Sys2Proof.Machine

/-! ### A plan handed to a read (R13 to R16) -/

/-- The entry of a read that takes a plan. -/
def InFlight.withPlan (f : InFlight) (plan : FillPlan) : InFlight :=
  let f1 := { f with reserved := [], parts := plan.reads.length, targets := plan.targets, plan := some plan }
  if plan.reads.isEmpty then f1.answer ⟨.ok, plan.compose []⟩ else { f1 with phase := .waitingM }

theorem InFlight.withPlan_req (f : InFlight) (plan : FillPlan) : (f.withPlan plan).req = f.req := by
  unfold InFlight.withPlan
  dsimp only
  split <;> rfl

/-- The segment records once the READs of `reads` count on them. -/
def raisedBy (reads : List PartRead) (segs : List Segment) : List Segment :=
  reads.foldl (fun l r => l.modify r.phys fun g => { g with outstanding := g.outstanding + 1 }) segs

theorem foldl_plan (l : List MRequest) (s : State) :
    l.foldl State.plan s = { s with link := { s.link with planned := s.link.planned ++ l } } := by
  induction l generalizing s with
  | nil => rw [List.append_nil]; rfl
  | cons m l ih =>
    rw [List.foldl_cons, ih]
    show { s with link := { s.link with planned := s.link.planned ++ [m] ++ l } } = _
    rw [List.append_assoc]
    rfl

theorem foldl_raiseOutstanding (reads : List PartRead) (s : State) :
    reads.foldl (fun s r => s.raiseOutstanding r.phys) s = { s with pool := { s.pool with segs := raisedBy reads s.pool.segs } } := by
  induction reads generalizing s with
  | nil => rfl
  | cons r l ih => rw [List.foldl_cons, ih]; rfl

/-- A read's plan: its READs join the planned requests under the tags the read reserved, its entry takes the plan, and each READ counts on
its segment. -/
theorem State.servePlan_eq (s : State) (tag : Fin 64) (g : Geometry) (plan : FillPlan) (use : PartRead → MUse) :
    s.servePlan tag g plan use =
      { s with
        link :=
          { s.link with
            planned := s.link.planned ++ List.zipWith (partRequest g use) plan.reads (((s.entry tag).map (·.reserved)).getD [])
            inflight := s.link.inflight.map fun y => if y.req.tag == tag then y.withPlan plan else y }
        pool := { s.pool with segs := raisedBy plan.reads s.pool.segs } } := by
  unfold State.servePlan
  dsimp only
  rw [foldl_plan, foldl_raiseOutstanding]
  rfl

theorem find?_map_self {α : Type} {p : α → Bool} {f : α → α} {l : List α} (hf : ∀ x, p (f x) = p x) :
    (l.map f).find? p = (l.find? p).map f := by
  rw [List.find?_map]
  exact congrArg (fun q => (l.find? q).map f) (funext hf)

/-- The read's entry once it took its plan. -/
theorem State.entry_servePlan {s : State} {tag : Fin 64} {f : InFlight} (h : s.entry tag = some f) (g : Geometry) (plan : FillPlan)
    (use : PartRead → MUse) : (s.servePlan tag g plan use).entry tag = some (f.withPlan plan) := by
  rw [State.servePlan_eq]
  unfold State.entry at h ⊢
  dsimp only
  rw [find?_map_self fun x => ?_, h, Option.map_some]
  · rw [if_pos (beq_iff_eq.mpr (State.tag_of_entry h))]
  · split
    · rw [InFlight.withPlan_req]
    · rfl

theorem raisedBy_getElem? (reads : List PartRead) (segs : List Segment) (p : Nat) :
    (raisedBy reads segs)[p]? =
      (segs[p]?).map fun q => { q with outstanding := q.outstanding + (reads.filter fun r => r.phys == p).length } := by
  induction reads generalizing segs with
  | nil => exact Option.map_id'.symm
  | cons r l ih =>
    show (raisedBy l (segs.modify r.phys _))[p]? = _
    rw [ih, List.getElem?_modify, Option.map_eq_map, Option.map_map]
    refine congrArg (fun f => Option.map f _) (funext fun q => ?_)
    by_cases hp : r.phys = p
    · simp only [Function.comp_apply, List.filter_cons, hp, beq_self_eq_true, if_true, List.length_cons, Nat.add_assoc, Nat.add_comm 1]
    · simp only [Function.comp_apply, List.filter_cons, beq_iff_eq, hp, if_false]

/-- The segment records after a read took its plan. -/
theorem State.seg?_servePlan (s : State) (tag : Fin 64) (g : Geometry) (plan : FillPlan) (use : PartRead → MUse) (p : Nat) :
    (s.servePlan tag g plan use).seg? p = (s.seg? p).map fun q => { q with outstanding := q.outstanding + plan.readsOn p } := by
  rw [State.servePlan_eq]
  exact raisedBy_getElem? ..

/-! ### Out-of-step reads (R111) -/

theorem Tap.classifyRead_of_elsewhere {x : Tap} {j : Nat} (o : Nat) (hactive : x.active = true)
    (hcurrent : ∀ b, x.current = some b → b.slot ≠ j) (hprevious : ∀ b, x.previous = some b → b.slot ≠ j) :
    x.classifyRead j o = if o = 0 then .advance else .outOfStep := by
  have hnone {b? : Option SlotBinding} (h : ∀ b, b? = some b → b.slot ≠ j) : b?.filter (fun b => b.slot == j) = none := by
    rw [Option.filter_eq_none_iff]
    exact fun b hb => by rw [beq_iff_eq]; exact h b hb
  unfold Tap.classifyRead
  rw [if_neg (by rw [hactive]; decide), hnone hcurrent, hnone hprevious]

theorem Tap.stepError_eq (x : Tap) :
    x.stepError =
      { x with
        stepErrors := min (x.stepErrors + 1) 65535
        stepErrorOwed := true
        latch := x.latch ||| (if x.stepErrors = 32767 then 0x18000000#32 else 0x10000000#32) } := by
  have hhalf : x.stepErrors + 1 = Config.counterHalf ↔ x.stepErrors = 32767 := Nat.succ_inj
  unfold Tap.stepError Tap.countStepError Tap.halfScale
  simp only [hhalf]
  split
  · have hbits : x.latch ||| 1#32 <<< 27 ||| 1#32 <<< 28 = x.latch ||| 0x18000000#32 := BitVec.or_assoc ..
    rw [← hbits]
    rfl
  · rfl

theorem zeroPlan_compose (o len : Nat) : (zeroPlan o len).compose [] = zeros len := by
  have hzero (n : Nat) : (zeroPlan o len).byteAt [] n = 0#8 := by
    by_cases hn : n < 64 <;> simp [FillPlan.byteAt, FillPlan.source, zeroPlan, hn]
  unfold FillPlan.compose
  simp only [hzero, zeros, List.map_const', List.length_range]
  rfl

/-- Settles O42: such a read is out of step, its plan is zeros throughout, and it is answered in the step of its arrival. -/
theorem outOfStepReadsReturnZeros : Obligations.OutOfStepReadsReturnZeros := by
  intro s tag g f i j o hwaits hactive ho hcurrent hprevious x
  have hkind : (s.tap i).classifyRead j o = .outOfStep :=
    (Tap.classifyRead_of_elsewhere o hactive hcurrent hprevious).trans (if_neg (Nat.ne_of_gt ho))
  rw [exec_tapReadArrival_of_waits hwaits, State.tapRead, hkind]
  dsimp only
  rw [State.tag_of_tapReadWaits hwaits, State.servePlan_of_no_reads _ _ _ _ rfl, zeroPlan_compose]
  unfold State.modifyTap
  rw [Tap.stepError_eq]
  rfl

/-! ### Review reads (R152) -/

theorem exec_reviewReadArrival_of_arriving {s : State} {tag : Fin 64} {g : Geometry} {f : InFlight} {j o : Nat}
    (hg : s.link.geometry = some g) (hf : s.arriving tag .review = some f) (hwindow : windowOf (g.slotOf f.req.addr) = .review j)
    (ho : g.offsetOf f.req.addr = o) :
    exec (.reviewReadArrival tag) s =
      .next (s.servePlan tag g (s.reviewPlan j o f.req.length) fun r => .reviewPart tag r.phys r.base) := by
  have hexec : exec (.reviewReadArrival tag) s = execReviewReadArrival tag s := rfl
  rw [hexec, execReviewReadArrival, hg, hf]
  dsimp only
  rw [hwindow, ho]

theorem emptyReviewHeader_eq (j : Nat) :
    emptyReviewHeader j = [0x51#8, 0x4F#8, 0x55#8, 0x54#8] ++ zeros 15 ++ [0xFF#8] ++ zeros 12 ++ toLE 4 j ++ zeros 28 := by
  have hlow : zeros 12 ++ zeros 1 ++ zeros 1 ++ zeros 1 = zeros 15 := by decide
  have hhigh : zeros 4 ++ zeros 24 = zeros 28 := by decide
  rw [← hlow, ← hhigh, emptyReviewHeader, outMark]
  simp only [List.append_assoc]
  rfl

theorem reviewHeader_eq (r : SegmentRecord) (j : Nat) :
    reviewHeader r j =
      [0x51#8, 0x4F#8, 0x55#8, 0x54#8] ++ zeros 4 ++ toLE 4 r.seq.toNat ++ toLE 4 r.pi.toNat ++ [3#8, 0#8, 0#8, 0xFF#8] ++
        toLE 4 r.la ++ toLE 4 r.lv ++ toLE 4 r.check.toNat ++ toLE 4 j ++
        toLE 4 (r.withheld.toNat + if r.origin = some .inband then 256 else 0) ++ zeros 24 := by
  have hkind : toLE 1 3 ++ zeros 1 ++ zeros 1 ++ toLE 1 255 = [3#8, 0#8, 0#8, 0xFF#8] := by decide
  have horigin : weigh (r.origin == some .inband) 8 = if r.origin = some .inband then 256 else 0 := by
    simp [weigh]
  rw [← hkind, ← horigin, reviewHeader, outMark]
  simp only [List.append_assoc]

/-- The sources of a record's read. -/
theorem recordPlan_source (r : SegmentRecord) (j o len n : Nat) (hn : o ≤ n) (hn' : n < o + len) :
    (recordPlan r j o len).source n = if n < 64 then .header n else if n < 64 + r.la + r.lv then .segment r.phys n else .zero := by
  unfold FillPlan.source recordPlan headerPart segmentRun
  dsimp only
  split
  · rw [if_pos (by omega)]
  · by_cases hrun : max o 64 < min (o + len) (64 + r.la + r.lv)
    · rw [if_pos hrun]
      exact ite_congr_cond (by dsimp only; omega) rfl rfl
    · rw [if_neg hrun, if_neg (by omega)]

theorem recordPlan_reads_length (r : SegmentRecord) (j o len : Nat) :
    (recordPlan r j o len).reads.length ≤ 1 ∧ ∀ q ∈ (recordPlan r j o len).reads, q.phys = r.phys := by
  unfold FillPlan.reads recordPlan segmentRun
  dsimp only
  split
  · exact ⟨Nat.zero_le _, fun _ hq => nomatch hq⟩
  · next run hrun =>
    rw [Option.ite_none_right_eq_some] at hrun
    obtain ⟨_, hrun⟩ := hrun
    cases hrun
    refine ⟨Nat.le_refl 1, fun q hq => ?_⟩
    rw [List.append_nil, List.mem_singleton] at hq
    rw [hq]

/-- READs of one segment raise its count by their number. -/
theorem raisedBy_of_phys {reads : List PartRead} {p : Nat} (h : ∀ r ∈ reads, r.phys = p) (segs : List Segment) :
    raisedBy reads segs = segs.modify p fun q => { q with outstanding := q.outstanding + reads.length } := by
  refine List.ext_getElem? fun i => ?_
  rw [raisedBy_getElem?, List.getElem?_modify]
  split
  · next hi =>
    rw [List.filter_eq_self.mpr fun r hr => by rw [beq_iff_eq, h r hr, hi], Option.map_eq_map]
  · next hi =>
    rw [List.filter_eq_nil_iff.mpr fun r hr => by rw [beq_iff_eq, h r hr]; exact hi]
    simp

theorem InFlight.withPlan_parts (f : InFlight) (plan : FillPlan) :
    (f.withPlan plan).plan = some plan ∧ (f.withPlan plan).parts = plan.reads.length ∧ (f.withPlan plan).reserved = [] ∧
      (plan.reads = [] → (f.withPlan plan).phase = .ready ∧ (f.withPlan plan).reply = some ⟨.ok, plan.compose []⟩) ∧
      (plan.reads ≠ [] → (f.withPlan plan).phase = .waitingM) := by
  unfold InFlight.withPlan
  dsimp only
  split
  · next hnone => exact ⟨rfl, rfl, rfl, fun _ => ⟨rfl, rfl⟩, fun hsome => absurd (List.isEmpty_iff.mp hnone) hsome⟩
  · next hsome => exact ⟨rfl, rfl, rfl, fun hnone => absurd (List.isEmpty_iff.mpr hnone) hsome, fun _ => rfl⟩

/-- Settles O49: the record's plan, or the empty header's, is handed to the read. -/
theorem reviewReadsShowTheRecord : Obligations.ReviewReadsShowTheRecord := by
  intro s tag g f j o hg hf hwindow ho len
  have hexec := exec_reviewReadArrival_of_arriving hg hf hwindow ho
  refine ⟨?_, ?_⟩
  · intro hnone header
    have hplan : s.reviewPlan j o len = headerPlan header o len := by
      unfold State.reviewPlan
      rw [hnone]
      exact congrArg (headerPlan · o len) (emptyReviewHeader_eq j)
    rw [hexec, hplan, State.servePlan_of_no_reads _ _ _ _ (headerPlan_reads ..), headerPlan_targets, headerPlan_compose]
  · intro r hr header
    have hplan : s.reviewPlan j o len = recordPlan r j o len := by
      unfold State.reviewPlan
      rw [hr]
    have hentry := State.entry_of_arriving hf
    obtain ⟨hlen, hphys⟩ := recordPlan_reads_length r j o len
    obtain ⟨htaken, hparts, hreserved, hready, _⟩ := f.withPlan_parts (recordPlan r j o len)
    rw [hplan] at hexec
    refine ⟨_, recordPlan r j o len, hexec, recordPlan_source r j o len, fun hlow => ?_, hlen, ?_, ?_, ?_, ?_⟩
    · exact (if_pos hlow).trans (congrArg some (reviewHeader_eq r j))
    · rw [State.servePlan_eq]
    · rw [State.servePlan_eq, hentry]
      rfl
    · exact ⟨_, State.entry_servePlan hentry g _ _, htaken, hparts, hreserved, hready⟩
    · rw [State.servePlan_eq, ← raisedBy_of_phys hphys]

end Sys2Proof.Machine

/-! SUPPORT. Payload writes that fill an open context (R32 to R34). -/

namespace Sys2Proof.Machine

/-! ### The first case of R32 that matches -/

theorem Coherence.depart_eq (c loss : Coherence) : c.depart loss = if c ≠ .clean then c else loss := by
  unfold Coherence.depart
  by_cases h : c = .clean <;> simp [h]

theorem ContextBody.fillWrite_eq (b : ContextBody) (o : Nat) (data : List Byte) (n : Nat) :
    b.fillWrite o data n =
      { b with
        fill := if b.header.payloadEnd ≤ o then b.fill else if o < b.fill then max b.fill (o + n) else o + n
        coherence :=
          if b.header.payloadEnd ≤ o ∨ o = b.fill ∨ b.coherence ≠ .clean then b.coherence
          else if o < b.fill then .rewritten else .hole
        running :=
          if o < b.header.payloadEnd ∧ o = b.fill ∧ b.coherence = .clean then
            crcRun b.running (data.take (min (o + n) b.header.payloadEnd - o))
          else b.running
        writesOut := b.writesOut + 1 } := by
  have hslice : slice data o o (min (o + n) b.header.payloadEnd) = data.take (min (o + n) b.header.payloadEnd - o) := by
    unfold slice
    rw [Nat.sub_self, List.drop_zero]
  unfold ContextBody.fillWrite
  dsimp only
  by_cases hpast : b.header.payloadEnd ≤ o
  · have hnot : ¬ o < b.header.payloadEnd := Nat.not_lt.mpr hpast
    simp only [hpast, hnot, if_true, true_or, false_and, if_false]
  · have hlt : o < b.header.payloadEnd := Nat.not_le.mp hpast
    by_cases hat : o = b.fill
    · simp only [hpast, hlt, hslice, ← hat, Nat.lt_irrefl, if_true, if_false, true_and, false_or, true_or]
    · by_cases hbelow : o < b.fill
      · simp only [hpast, hat, hbelow, Coherence.depart_eq, if_true, if_false, false_and, and_false, false_or]
      · simp only [hpast, hat, hbelow, Coherence.depart_eq, if_false, false_and, and_false, false_or]

/-- The completion test of a context that takes a payload write (R34). -/
theorem Context.takeWrite_eq {c : Context} {b : ContextBody} (o : Nat) (data : List Byte) (n : Nat) (h : c.body = some b) :
    c.takeWrite o data n =
      { c with
        state := if c.state = .filling ∧ b.header.payloadEnd ≤ (b.fillWrite o data n).fill then .completeWaiting else c.state
        body := some (b.fillWrite o data n) } := by
  unfold Context.takeWrite contextState
  rw [h]
  dsimp only
  by_cases hfilling : c.state = .filling
  · simp only [hfilling, if_true, true_and]
  · simp only [hfilling, if_false, false_and]

/-- Contexts on different slots: the one found on a slot is the only one there. -/
theorem context_eq_of_slot {cs : List Context} {c x : Context} {k : Nat} (hslots : (cs.map (·.slot)).Nodup)
    (hc : cs.find? (fun c => c.slot == k) = some c) (hx : x ∈ cs) (hk : x.slot = k) : x = c := by
  have hslot : c.slot = k := beq_iff_eq.mp (List.find?_some (p := fun c : Context => c.slot == k) hc)
  exact injOn_of_nodup_map hslots hx (List.mem_of_find?_eq_some hc) (hk.trans hslot.symm)

theorem State.payloadWrite_of_open {s : State} {k : Nat} {c : Context} {b : ContextBody} (g : Geometry) (f : InFlight) (o : Nat)
    (hfind : s.capture.contexts.find? (fun c => c.slot == k) = some c) (hbody : c.body = some b) :
    s.payloadWrite g f k o =
      (s.setContexts (s.capture.contexts.map fun c =>
        if c.slot = k then c.takeWrite o f.req.data f.req.length else c)).forwardWrite g f b.phys o := by
  unfold State.payloadWrite
  rw [hfind]
  dsimp only
  rw [hbody]

/-- A capture write that is forwarded. -/
theorem State.forwardWrite_eq (s : State) (g : Geometry) (f : InFlight) (p o : Nat) :
    s.forwardWrite g f p o =
      { s with
        link :=
          { s.link with
            inflight := s.link.inflight.map fun x =>
              if x.req.tag = f.req.tag then { x with cls := .capture, phase := .waitingM, targets := [p] } else x
            planned := s.link.planned ++
              [{ tag := forwardTag f.req.tag, op := .write, addr := BitVec.ofNat 40 (g.backingBase.toNat + p * g.segSize + o),
                 length := f.req.length, data := f.req.data, use := .captureWrite p, draining := false }] }
        pool := { s.pool with segs := s.pool.segs.modify p fun sp => { sp with outstanding := sp.outstanding + 1 } } } := by
  simp only [State.forwardWrite, State.modifyFlight, beq_iff_eq]
  rfl

/-- Settles O36: the write is forwarded to the context's segment, and the context takes it by R32 and R34. -/
theorem payloadWritesFillTheContext : Obligations.PayloadWritesFillTheContext := by
  intro s tag g f k o c b hwrite ho hfind hbody hslots n e fill coherence running
  have hbody' : b.fillWrite o f.req.data n =
      { b with fill := fill, coherence := coherence, running := running, writesOut := b.writesOut + 1 } := b.fillWrite_eq o f.req.data n
  have hcontexts : (s.capture.contexts.map fun x => if x.slot = k then x.takeWrite o f.req.data n else x) =
      s.capture.contexts.map fun x =>
        if x.slot = k then
          { slot := k
            state := if c.state = .filling ∧ e ≤ fill then .completeWaiting else c.state
            body := some { b with fill := fill, coherence := coherence, running := running, writesOut := b.writesOut + 1 } }
        else x := by
    refine List.map_congr_left fun x hx => ?_
    split
    · next hk =>
      obtain rfl := context_eq_of_slot hslots hfind hx hk
      rw [Context.takeWrite_eq _ _ _ hbody, hbody', ← hk]
      rfl
    · rfl
  rw [exec_payloadWriteArrival_of_captureWrite hwrite ho, State.payloadWrite_of_open g f o hfind hbody, State.forwardWrite_eq, hcontexts,
    State.tag_of_captureWrite hwrite]
  rfl

end Sys2Proof.Machine

/-! SUPPORT. The plan of a read served from a binding (Table 45), and reads of the current and the previous slot (R110, R125). -/

namespace Sys2Proof.Machine

/-! ### Sources (R122, R123) -/

theorem FillPlan.source_of_low {f : FillPlan} {n : Nat} (h : n < 64) : f.source n = if f.header = none then .zero else .header n := by
  unfold FillPlan.source
  rw [if_pos h]
  cases f.header <;> rfl

/-- Past the header a byte is the segment run's, else the mask run's, else zero. -/
theorem FillPlan.source_of_high {f : FillPlan} {n : Nat} (h : 64 ≤ n) :
    f.source n =
      match f.segment.filter (fun r => decide (r.lo ≤ n ∧ n < r.hi)), f.mask.filter (fun m => decide (m.lo ≤ n ∧ n < m.hi)) with
      | some r, _ => .segment r.phys n
      | none, some m => .mask m.phys (m.offset n)
      | none, none => .zero := by
  unfold FillPlan.source
  rw [if_neg (Nat.not_lt.mpr h)]
  cases f.segment with
  | none =>
    cases f.mask with
    | none => rfl
    | some m => by_cases hm : m.lo ≤ n ∧ n < m.hi <;> simp [hm, Option.filter]
  | some r =>
    cases f.mask with
    | none => by_cases hr : r.lo ≤ n ∧ n < r.hi <;> simp [hr, Option.filter]
    | some m => by_cases hr : r.lo ≤ n ∧ n < r.hi <;> by_cases hm : m.lo ≤ n ∧ n < m.hi <;> simp [hr, hm, Option.filter]

/-- A segment run holds an offset. -/
theorem segmentRun_filter (p lo hi n : Nat) :
    (segmentRun p lo hi).filter (fun r => decide (r.lo ≤ n ∧ n < r.hi)) = if lo ≤ n ∧ n < hi then some ⟨p, lo, hi⟩ else none := by
  unfold segmentRun
  by_cases hrun : lo < hi
  · rw [if_pos hrun]
    simp [Option.filter]
  · rw [if_neg hrun, if_neg (by omega)]
    rfl

/-- The mask run of a masked read for the offsets `lo` to `hi - 1`, when there is one. -/
def State.maskRun (s : State) (lo hi : Nat) : Option MaskRun :=
  s.pool.maskImage.bind fun m => if lo < hi ∧ 0 < s.pool.lmask then some ⟨m, s.pool.lmask, lo, hi⟩ else none

theorem State.maskRun_filter (s : State) (lo hi n : Nat) :
    (s.maskRun lo hi).filter (fun m => decide (m.lo ≤ n ∧ n < m.hi)) =
      if (lo ≤ n ∧ n < hi) ∧ 0 < s.pool.lmask then s.pool.maskImage.map fun m => ⟨m, s.pool.lmask, lo, hi⟩ else none := by
  unfold State.maskRun
  cases s.pool.maskImage with
  | none => exact (ite_self _).symm
  | some m =>
    dsimp only [Option.bind_some, Option.map_some]
    by_cases hrun : lo < hi ∧ 0 < s.pool.lmask
    · rw [if_pos hrun, Option.filter_some]
      exact ite_congr_cond (decide_eq_true_iff.trans (and_iff_left hrun.2).symm) rfl rfl
    · rw [if_neg hrun, if_neg (by omega)]
      rfl

theorem State.bindingPlan_header (s : State) (b : Binding) (o len : Nat) : (s.bindingPlan b o len).header = headerPart o b.header := by
  unfold State.bindingPlan
  dsimp only
  split
  · rfl
  · split <;> rfl

theorem State.bindingPlan_of_no_phys {s : State} {b : Binding} (o len : Nat) (h : b.phys = none) :
    (s.bindingPlan b o len).segment = none ∧ (s.bindingPlan b o len).mask = none := by
  unfold State.bindingPlan
  rw [h]
  exact ⟨rfl, rfl⟩

theorem State.bindingPlan_of_unmasked {s : State} {b : Binding} {p : Nat} (o len : Nat) (h : b.phys = some p) (hb : b.masked = false) :
    (s.bindingPlan b o len).segment = segmentRun p (max o 64) (min (o + len) (64 + b.la + b.lv)) ∧
      (s.bindingPlan b o len).mask = none := by
  unfold State.bindingPlan
  rw [h, hb]
  exact ⟨rfl, rfl⟩

theorem State.bindingPlan_of_masked {s : State} {b : Binding} {p : Nat} (o len : Nat) (h : b.phys = some p) (hb : b.masked = true) :
    (s.bindingPlan b o len).segment = segmentRun p (max o (64 + b.la)) (min (o + len) (64 + b.la + b.lv)) ∧
      (s.bindingPlan b o len).mask = s.maskRun (max o 64) (min (o + len) (64 + b.la)) := by
  unfold State.bindingPlan State.maskRun
  rw [h, hb]
  refine ⟨rfl, ?_⟩
  cases s.pool.maskImage <;> rfl

/-- The plan names the sources of Table 45. -/
theorem State.planNames_bindingPlan (s : State) (b : Binding) (o len : Nat) : s.planNames b (s.bindingPlan b o len) o len := by
  intro n hn hn'
  by_cases hlow : n < 64
  · have hheader : headerPart o b.header = some b.header := if_pos (by omega)
    rw [FillPlan.source_of_low hlow, if_pos hlow, State.bindingPlan_header, hheader]
    rfl
  · rw [FillPlan.source_of_high (Nat.not_lt.mp hlow), if_neg hlow]
    cases hphys : b.phys with
    | none =>
      obtain ⟨hsegment, hmask⟩ := s.bindingPlan_of_no_phys o len hphys
      rw [hsegment, hmask]
      rfl
    | some p =>
      dsimp only
      cases hmasked : b.masked with
      | false =>
        obtain ⟨hsegment, hmask⟩ := s.bindingPlan_of_unmasked o len hphys hmasked
        have hno : ¬ (false = true ∧ n < 64 + b.la) := fun h => Bool.false_ne_true h.1
        rw [hsegment, hmask, segmentRun_filter, if_neg hno]
        by_cases hend : n < 64 + b.la + b.lv
        · rw [if_pos (by omega), if_pos hend]
        · rw [if_neg (by omega), if_neg hend]
          rfl
      | true =>
        obtain ⟨hsegment, hmask⟩ := s.bindingPlan_of_masked o len hphys hmasked
        rw [hsegment, hmask, segmentRun_filter, State.maskRun_filter]
        by_cases haudio : n < 64 + b.la
        · have hyes : true = true ∧ n < 64 + b.la := ⟨rfl, haudio⟩
          rw [if_neg (by omega), if_pos hyes]
          by_cases hlmask : s.pool.lmask = 0
          · rw [if_neg (by omega)]
            cases s.pool.maskImage with
            | none => rfl
            | some m => exact (if_pos hlmask).symm
          · rw [if_pos (by omega)]
            cases s.pool.maskImage with
            | none => rfl
            | some m => exact (if_neg hlmask).symm
        · have hno : ¬ ((max o 64 ≤ n ∧ n < min (o + len) (64 + b.la)) ∧ 0 < s.pool.lmask) := by omega
          have hno' : ¬ (true = true ∧ n < 64 + b.la) := fun h => haudio h.2
          rw [if_neg hno, if_neg hno']
          by_cases hend : n < 64 + b.la + b.lv
          · rw [if_pos (by omega), if_pos hend]
          · rw [if_neg (by omega), if_neg hend]

/-- The plan names its header only for a burst that begins below it. -/
theorem State.bindingPlan_header_of_low (s : State) (b : Binding) {o : Nat} (len : Nat) (h : o < 64) :
    (s.bindingPlan b o len).header = some b.header := (s.bindingPlan_header b o len).trans (if_pos h)

/-! ### Reads of the current and the previous slot (R110) -/

/-- One of a tap's two bindings. -/
def Tap.served (x : Tap) (previous : Bool) : Option SlotBinding := if previous then x.previous else x.current

/-- A tap with one of its bindings replaced. -/
def Tap.withServed (x : Tap) (previous : Bool) (sb : SlotBinding) : Tap :=
  if previous then { x with previous := some sb } else { x with current := some sb }

theorem Tap.served_withServed (x : Tap) (previous : Bool) (sb : SlotBinding) : (x.withServed previous sb).served previous = some sb := by
  cases previous <;> rfl

theorem Tap.served_withServed_other (x : Tap) (previous : Bool) (sb : SlotBinding) :
    (x.withServed previous sb).served (!previous) = x.served (!previous) := by
  cases previous <;> rfl

theorem Tap.withServed_eq (x : Tap) (previous : Bool) (sb : SlotBinding) :
    x.withServed previous sb =
      { x with current := (x.withServed previous sb).current, previous := (x.withServed previous sb).previous } := by
  cases previous <;> rfl

theorem Tap.classifyRead_of_served {x : Tap} {previous : Bool} {sb : SlotBinding} {j : Nat} (o : Nat) (hactive : x.active = true)
    (hsb : x.served previous = some sb) (hslot : sb.slot = j) (hfirst : previous = true → ∀ b, x.current = some b → b.slot ≠ j) :
    x.classifyRead j o = if previous then .previous sb else .current sb := by
  have hfound : (some sb).filter (fun b => b.slot == j) = some sb := Option.filter_some_pos (beq_iff_eq.mpr hslot)
  unfold Tap.classifyRead
  rw [if_neg (by rw [hactive]; decide)]
  cases previous with
  | false =>
    rw [show x.current = some sb from hsb, hfound]
    rfl
  | true =>
    have hnone : x.current.filter (fun b => b.slot == j) = none :=
      Option.filter_eq_none_iff.mpr fun b hb => by rw [beq_iff_eq]; exact hfirst rfl b hb
    rw [hnone, show x.previous = some sb from hsb, hfound]
    rfl

/-- A read of the current or the previous slot. -/
theorem State.tapRead_of_served {s : State} {i : Fin 4} {j : Nat} {previous : Bool} {sb : SlotBinding} (g : Geometry) (r : LinkRequest)
    (o : Nat) (hactive : (s.tap i).active = true) (hsb : (s.tap i).served previous = some sb) (hslot : sb.slot = j)
    (hfirst : previous = true → ∀ b, (s.tap i).current = some b → b.slot ≠ j) :
    s.tapRead g r i j o =
      (s.setTap i ((s.tap i).withServed previous (sb.readArrives r.tag o r.length))).servePlan r.tag g
        (s.bindingPlan sb.binding o r.length) (tapUse r.tag i) := by
  unfold State.tapRead
  rw [Tap.classifyRead_of_served o hactive hsb hslot hfirst]
  cases previous with
  | false =>
    show s.serveCurrent g r i o = _
    unfold State.serveCurrent
    rw [show (s.tap i).current = some sb from hsb]
    rfl
  | true =>
    show s.servePrevious g r i o = _
    unfold State.servePrevious
    rw [show (s.tap i).previous = some sb from hsb]
    rfl

/-- What the read made of the state, as `readPlanned` says it. -/
theorem State.readPlanned_servePlan {s u : State} {tag : Fin 64} {f : InFlight} (hentry : s.entry tag = some f) (hlink : u.link = s.link)
    (g : Geometry) (i : Fin 4) (plan : FillPlan) :
    s.readPlanned (u.servePlan tag g plan (tapUse tag i)).refreshTally tag g i f plan := by
  have hentry' : u.entry tag = some f := by
    unfold State.entry
    rw [hlink]
    exact hentry
  obtain ⟨htaken, hparts, hreserved, hready, hwaiting⟩ := f.withPlan_parts plan
  have hplanned := State.entry_servePlan hentry' g plan (tapUse tag i)
  refine ⟨?_, ?_, f.withPlan plan, ?_, htaken, hreserved, hparts, hready, hwaiting⟩
  · rw [State.refreshTally_link, State.servePlan_eq, hentry', hlink]
    rfl
  · rw [State.refreshTally_link, State.servePlan_eq, hlink]
  · exact hplanned

/-- What a read leaves of the rest. -/
theorem SlotBinding.readArrives_eq (sb : SlotBinding) (tag : Fin 64) (o len : Nat) :
    sb.readArrives tag o len =
      { sb with binding := { sb.binding with readback := (sb.readArrives tag o len).binding.readback } } := by
  unfold SlotBinding.readArrives Binding.readArrives
  dsimp only
  split
  · split <;> rfl
  · rfl

theorem SlotBinding.readArrives_of_none {sb : SlotBinding} (tag : Fin 64) {o len : Nat}
    (h : min (o + len) (64 + sb.binding.la + sb.binding.lv) ≤ max o 64 ∨ sb.binding.readback.state ≠ .expecting) :
    sb.readArrives tag o len = sb := by
  have hno : ¬ (max o 64 < min (o + len) sb.binding.payloadEnd ∧ sb.binding.readback.state = .expecting) := fun ⟨hlt, hstate⟩ =>
    h.elim (Nat.not_le.mpr hlt) (fun hne => hne hstate)
  unfold SlotBinding.readArrives Binding.readArrives
  dsimp only
  rw [if_neg hno]

theorem SlotBinding.readArrives_of_expecting {sb : SlotBinding} (tag : Fin 64) {o len : Nat}
    (hrun : max o 64 < min (o + len) (64 + sb.binding.la + sb.binding.lv)) (hstate : sb.binding.readback.state = .expecting) :
    (max o 64 = sb.binding.readback.next →
      (sb.readArrives tag o len).binding.readback.state = .expecting ∧
        (sb.readArrives tag o len).binding.readback.next = min (o + len) (64 + sb.binding.la + sb.binding.lv) ∧
          (sb.readArrives tag o len).binding.readback.running = sb.binding.readback.running) ∧
      (max o 64 ≠ sb.binding.readback.next → (sb.readArrives tag o len).binding.readback.state = .broken) := by
  have hyes : max o 64 < min (o + len) sb.binding.payloadEnd ∧ sb.binding.readback.state = .expecting := ⟨hrun, hstate⟩
  unfold SlotBinding.readArrives Binding.readArrives
  dsimp only
  rw [if_pos hyes]
  refine ⟨fun hnext => ?_, fun hnext => ?_⟩
  · rw [if_pos hnext]
    exact ⟨hstate, rfl, rfl⟩
  · rw [if_neg hnext]

/-- Settles O43: the read is served by the plan of its slot's binding, which takes its arrival alone. -/
theorem reReadsKeepTheBinding : Obligations.ReReadsKeepTheBinding := by
  intro s tag g f i j o previous sb hwaits hactive served other hsb hslot hfirst b len e plan
  have htag := State.tag_of_tapReadWaits hwaits
  have hserved (x : Tap) : served x = x.served previous := rfl
  have hother (x : Tap) : other x = x.served (!previous) := by
    cases previous <;> rfl
  have hread := State.tapRead_of_served g f.req o hactive hsb hslot hfirst
  rw [htag] at hread
  have hexec := exec_tapReadArrival_of_waits hwaits
  rw [hread] at hexec
  have hentry := State.entry_of_arriving hwaits.2.1
  refine ⟨s.planNames_bindingPlan b o len, s.bindingPlan_header_of_low b len, _, sb.readArrives tag o len, hexec,
    State.readPlanned_servePlan (u := s.setTap i _) hentry rfl g i plan, ?_⟩
  have htap (k : Fin 4) : ((s.setTap i ((s.tap i).withServed previous (sb.readArrives tag o len))).servePlan tag g plan
      (tapUse tag i)).refreshTally.tap k = if k = i then (s.tap i).withServed previous (sb.readArrives tag o len) else s.tap k := by
    rw [State.servePlan_eq]
    exact State.tap_setTap ..
  refine ⟨?_, ?_, ?_, fun k hk => ?_, sb.readArrives_eq tag o len, SlotBinding.readArrives_of_none tag,
    SlotBinding.readArrives_of_expecting tag, ?_⟩
  · rw [hserved, htap, if_pos rfl, Tap.served_withServed]
  · rw [hother, hother, htap, if_pos rfl, Tap.served_withServed_other]
  · rw [htap, if_pos rfl]
    exact Tap.withServed_eq ..
  · rw [htap, if_neg hk]
  · rw [State.servePlan_eq]
    exact ⟨rfl, rfl, rfl, rfl, rfl, rfl, rfl, raisedBy_getElem? plan.reads s.pool.segs⟩

end Sys2Proof.Machine

/-! SUPPORT. Allocation under capacity pressure (R45, R53, R54, R75). -/

namespace Sys2Proof.Machine

/-! ### The candidates of Table 23 -/

theorem State.insideDrop_iff (s : State) (x : Word) : s.insideDrop x = true ↔ ∃ d ∈ s.edits, d.kind = .drop ∧ d.covers x = true := by
  simp only [State.insideDrop, List.any_eq_true, Bool.and_eq_true, beq_iff_eq]

theorem State.droppedFor_iff (s : State) (i : Fin 4) (x : Word) :
    s.droppedFor i x = true ↔ ∃ d ∈ s.edits, d.kind = .drop ∧ hasTap d.taps i = true ∧ d.covers x = true := by
  simp only [State.droppedFor_eq, List.any_eq_true, Bool.and_eq_true, beq_iff_eq, and_assoc]

theorem State.mem_activeTaps (s : State) (i : Fin 4) : i ∈ s.activeTaps ↔ (s.tap i).active = true := by
  unfold State.activeTaps
  rw [List.mem_filter, and_iff_right (mem_tapIds i)]

/-- The entry names an unpinned LIVE segment that would be allocatable once freed. -/
def State.Evictable (s : State) (e : TimelineEntry) : Prop :=
  ∃ p g, e.phys = some p ∧ s.seg? p = some g ∧ g.state = .live ∧ g.pins = 0 ∧ g.outstanding = 0 ∧ g.retirePending = false

theorem State.evictable_iff (s : State) (e : TimelineEntry) : s.evictable e = true ↔ s.Evictable e := by
  unfold State.evictable State.Evictable
  cases e.phys with
  | none => simp
  | some p =>
    simp only [Option.any_eq_true, Bool.and_eq_true, beq_iff_eq, Segment.releasable_iff, Option.some.injEq]
    constructor
    · rintro ⟨g, hg, ⟨hstate, hpins⟩, hout, hpending⟩
      exact ⟨p, g, rfl, hg, hstate, hpins, hout, hpending⟩
    · rintro ⟨_, g, rfl, hg, hstate, hpins, hout, hpending⟩
      exact ⟨g, hg, ⟨hstate, hpins⟩, hout, hpending⟩

/-- A candidate of step 2: inside a DROP, and no active tap still to bind it would play it. -/
def State.DroppedCandidate (s : State) (e : TimelineEntry) : Prop :=
  s.Evictable e ∧ (∃ d ∈ s.edits, d.kind = .drop ∧ d.covers e.pi = true) ∧
    ∀ i, (s.tap i).active = true → serialLt (s.tap i).bound e.pi = true →
      ∃ d ∈ s.edits, d.kind = .drop ∧ hasTap d.taps i = true ∧ d.covers e.pi = true

/-- A candidate of step 3: inside no DROP. -/
def State.PlainCandidate (s : State) (e : TimelineEntry) : Prop :=
  s.Evictable e ∧ ∀ d ∈ s.edits, d.kind = .drop → d.covers e.pi = false

theorem State.droppedCandidate_iff (s : State) (e : TimelineEntry) :
    (s.evictable e && s.insideDrop e.pi && s.activeTaps.all fun t => !serialLt (s.tap t).bound e.pi || s.droppedFor t e.pi) = true ↔
      s.DroppedCandidate e := by
  rw [Bool.and_eq_true, Bool.and_eq_true, State.evictable_iff, State.insideDrop_iff, List.all_eq_true, and_assoc]
  refine and_congr_right fun _ => and_congr_right fun _ => forall_congr' fun i => ?_
  rw [State.mem_activeTaps, ← State.droppedFor_iff]
  cases serialLt (s.tap i).bound e.pi <;> simp

theorem State.plainCandidate_iff (s : State) (e : TimelineEntry) :
    (s.evictable e && !s.insideDrop e.pi) = true ↔ s.PlainCandidate e := by
  rw [Bool.and_eq_true, State.evictable_iff, Bool.not_eq_true', ← Bool.not_eq_true, State.insideDrop_iff]
  simp only [State.PlainCandidate, not_exists, not_and, Bool.not_eq_true]

/-- The first element of a list with a property. -/
theorem find?_eq_some_of_first {α : Type} {p : α → Bool} {P : α → Prop} (hp : ∀ x, p x = true ↔ P x) {l before after : List α} {a : α}
    (hl : l = before ++ a :: after) (ha : P a) (hbefore : ∀ x ∈ before, ¬ P x) : l.find? p = some a := by
  rw [List.find?_eq_some_iff_append]
  refine ⟨(hp a).mpr ha, before, after, hl, fun x hx => ?_⟩
  rw [Bool.not_eq_true', ← Bool.not_eq_true, hp]
  exact hbefore x hx

theorem find?_eq_none_of_none {α : Type} {p : α → Bool} {P : α → Prop} (hp : ∀ x, p x = true ↔ P x) {l : List α} (h : ∀ x ∈ l, ¬ P x) :
    l.find? p = none := by
  rw [List.find?_eq_none]
  exact fun x hx hpx => h x hx ((hp x).mp hpx)

/-! ### What pressure gives -/

theorem State.findIdx?_allocatable_some {s : State} {p : Nat} {g : Segment} (hg : s.seg? p = some g) (hfree : g.allocatable = true)
    (hfirst : ∀ q g', q < p → s.seg? q = some g' → g'.allocatable = false) : s.pool.segs.findIdx? Segment.allocatable = some p := by
  obtain ⟨hlt, hval⟩ := List.getElem?_eq_some_iff.mp hg
  rw [List.findIdx?_eq_some_iff_getElem]
  refine ⟨hlt, hval ▸ hfree, fun q hq => ?_⟩
  rw [hfirst q _ hq (List.getElem?_eq_getElem (Nat.lt_trans hq hlt))]
  decide

/-- With nothing allocatable, allocation is the pressure order. -/
theorem State.allocate_of_none {s : State} (h : s.pool.segs.findIdx? Segment.allocatable = none) : s.allocate = s.relieve := by
  unfold State.allocate
  rw [h]

theorem State.pressureOldest_eq_none {s : State}
    (h : ∀ r rest, s.quarantine.lock = .unlocked → s.quarantine.records = r :: rest →
      ¬ ∃ g, s.seg? r.phys = some g ∧ g.outstanding = 0 ∧ g.retirePending = false) : s.pressureOldest = none := by
  unfold State.pressureOldest
  split
  · next r rest hlock hrecords =>
    refine if_neg fun hreleasable => h r rest hlock hrecords ?_
    obtain ⟨g, hg, hg'⟩ := (Option.any_eq_true ..).mp hreleasable
    exact ⟨g, hg, (Segment.releasable_iff g).mp hg'⟩
  · rfl

/-- A segment with nothing to retire is freed and taken without a trace in the taps. -/
theorem State.evictFor_eq {s : State} {e : TimelineEntry} {p : Nat} {g : Segment} (hphys : e.phys = some p) (hg : s.seg? p = some g)
    (hkept : g.retirePending = false) :
    s.evictFor e =
      ((((s.modifyEntry e.pi TimelineEntry.evict).setSeg p { g with state := .free, departure := none }).takeSegment p), some p) := by
  have hg' : (s.modifyEntry e.pi TimelineEntry.evict).seg? p = some g := hg
  unfold State.evictFor
  rw [hphys]
  dsimp only
  rw [State.freeSeg_of_kept hg' hkept]

/-- The effect of an eviction on timeline, quarantine and taps. -/
theorem State.evictFor_effect {s : State} {e : TimelineEntry} (h : s.Evictable e) :
    (s.evictFor e).2 = e.phys ∧
      ((s.evictFor e).1.timeline = { s.timeline with entries := s.timeline.entries.map fun x =>
          if x.pi = e.pi then
            { x with gap := some .evicted, phys := none, cutOk := false, checkPass := none, la := 0, lv := 0, check := 0#32 }
          else x } ∧
        (s.evictFor e).1.quarantine = s.quarantine) ∧
      (s.evictFor e).1.taps = s.taps := by
  obtain ⟨p, g, hphys, hg, _, _, _, hkept⟩ := h
  rw [State.evictFor_eq hphys hg hkept, hphys]
  refine ⟨rfl, ⟨?_, rfl⟩, rfl⟩
  show { s.timeline with entries := s.timeline.entries.map fun (x : TimelineEntry) => if x.pi == e.pi then x.evict else x } = _
  simp only [beq_iff_eq]
  rfl

/-- Settles O34: the search for an allocatable segment and the three searches of Table 23, in their order. -/
theorem allocationFollowsThePressureOrder : Obligations.AllocationFollowsThePressureOrder := by
  intro s allocatable releasable evictable first droppedCandidate plainCandidate evicted
  refine ⟨fun p hp hfirst => ?_, fun hnone => ⟨fun r rest hlock hrecords hr => ?_, fun hkept => ⟨fun e he => ?_, fun hnodrop =>
    ⟨fun e he => ?_, fun hnoplain => ?_⟩⟩⟩⟩
  · obtain ⟨g, hg, hfree⟩ := hp
    have hfind : s.pool.segs.findIdx? Segment.allocatable = some p :=
      State.findIdx?_allocatable_some hg ((Segment.allocatable_iff g).mpr hfree) fun q g' hq hg' =>
        Bool.eq_false_iff.mpr fun hfree' => hfirst q hq ⟨g', hg', (Segment.allocatable_iff g').mp hfree'⟩
    unfold State.allocate
    rw [hfind]
    rfl
  · rw [State.allocate_oldest (fun p g hg hfree => hnone p ⟨g, hg, hfree⟩) hlock hrecords hr]
    obtain ⟨g, hg, _, hpending⟩ := hr
    have hkept (u : State) (hu : u.pool = s.pool) : u.freeSeg r.phys = u.setSeg r.phys { g with state := .free, departure := none } :=
      State.freeSeg_of_kept ((congrArg (·.segs[r.phys]?) hu).trans hg) hpending
    rw [hkept (({ s with quarantine := { s.quarantine with records := rest } } : State).raiseAll .quarOverwrite) rfl]
    exact ⟨rfl, rfl, rfl, rfl⟩
  all_goals
    have hallocate : s.allocate = s.relieve :=
      State.allocate_of_none (State.findIdx?_allocatable_none fun p g hg hfree => hnone p ⟨g, hg, hfree⟩)
    have holdest : s.pressureOldest = none := State.pressureOldest_eq_none hkept
    rw [hallocate]
    unfold State.relieve
    rw [holdest]
    dsimp only
  · obtain ⟨before, after, hentries, hok, hbefore⟩ := he
    have hfind : s.pressureDropped = some e := find?_eq_some_of_first s.droppedCandidate_iff hentries hok hbefore
    rw [hfind]
    dsimp only
    obtain ⟨hphys, heffect, htaps⟩ := State.evictFor_effect (s := s.raiseAll .quarMissed) hok.1
    exact ⟨hphys, heffect, htaps⟩
  all_goals
    have hnone : s.pressureDropped = none := find?_eq_none_of_none s.droppedCandidate_iff hnodrop
    rw [hnone]
    dsimp only
  · obtain ⟨before, after, hentries, hok, hbefore⟩ := he
    have hfind : s.pressureUndropped = some e := find?_eq_some_of_first s.plainCandidate_iff hentries hok hbefore
    rw [hfind]
    dsimp only
    by_cases hheld : e.withheld = 0#4
    · rw [if_pos hheld]
      obtain ⟨hphys, heffect, htaps⟩ := State.evictFor_effect (s := s.raiseAll .evicted) hok.1
      exact ⟨hphys, heffect, htaps.trans (by simp only [if_pos hheld]; rfl)⟩
    · rw [if_neg hheld]
      obtain ⟨hphys, heffect, htaps⟩ := State.evictFor_effect (s := (s.raiseAll .evicted).raiseAll .quarMissed) hok.1
      have hbits (w : Word) : w ||| 1#32 <<< 3 ||| 1#32 <<< 18 = w ||| 0x40008#32 := BitVec.or_assoc ..
      refine ⟨hphys, heffect, htaps.trans ?_⟩
      simp only [if_neg hheld, ← hbits]
      rfl
  · have hnone : s.pressureUndropped = none := find?_eq_none_of_none s.plainCandidate_iff hnoplain
    rw [hnone]

end Sys2Proof.Machine

/-! SUPPORT. Header writes: their arrival, the header that is parsed (R29), the sequence check (Table 18), and the contexts that they open when
there is room (R29 to R31). -/

namespace Sys2Proof.Machine

/-! ### The arrival of a header write -/

theorem exec_headerWriteArrival_of_captureWrite {s : State} {tag : Fin 64} {g : Geometry} {f : InFlight} {k : Nat}
    (h : s.captureWrite tag = some (g, f, k, 0)) : exec (.headerWriteArrival tag) s = .next (s.headerWrite g f k).refreshTally := by
  have hexec : exec (.headerWriteArrival tag) s = execHeaderWriteArrival tag s := rfl
  rw [hexec, execHeaderWriteArrival, h]
  rfl

/-! ### Room (R27) and readiness (R36) -/

theorem State.displace_of_not_open {s : State} {k : Nat} (h : ∀ c ∈ s.capture.contexts, c.slot ≠ k) : s.displace k = s := by
  have hnone : s.capture.contexts.find? (fun c => c.slot == k) = none :=
    List.find?_eq_none.mpr fun c hc => by rw [beq_iff_eq]; exact h c hc
  unfold State.displace
  rw [hnone]

theorem State.makeRoom_of_short {s : State} {k : Nat} (h : (s.displace k).capture.contexts.length ≤ 1) : s.makeRoom k = s.displace k := by
  unfold State.makeRoom
  dsimp only
  split
  · next hcontexts =>
    rw [hcontexts, List.length_cons, List.length_cons] at h
    omega
  · rfl

theorem State.makeRoom_of_room {s : State} {k : Nat} (hshort : s.capture.contexts.length ≤ 1) (h : ∀ c ∈ s.capture.contexts, c.slot ≠ k) :
    s.makeRoom k = s := by
  have hdisplace := State.displace_of_not_open h
  rw [State.makeRoom_of_short (by rw [hdisplace]; exact hshort), hdisplace]

/-- The oldest context that is not DISCARD, if any, is not ready to commit. -/
def State.noneReady (s : State) : Prop :=
  ∀ c, s.capture.contexts.find? Context.carries = some c → c.state = .completeWaiting → ∀ b, c.body = some b → 0 < b.writesOut

theorem State.commitNext_eq_none {s : State} (h : s.noneReady) : s.commitNext = none := by
  unfold State.commitNext
  split
  · rfl
  · next c hc =>
    split
    · next b hstate hbody => exact if_neg (Nat.ne_of_gt (h c hc hstate b hbody))
    · rfl

theorem State.commitReady_of_noneReady {s : State} (h : s.noneReady) : s.commitReady = s := by
  unfold State.commitReady
  rw [State.commitNext_eq_none h]

/-- A context joins that is a DISCARD one or has a write outstanding. -/
theorem State.noneReady_of_opened {s t : State} {k : Nat} {c : Context} (hroom : s.roomFor k)
    (ht : ∃ f : Context → Context, (∀ x, (f x).state = x.state ∧ ∀ b, (f x).body = some b → ∃ b0, x.body = some b0 ∧ b0.writesOut = b.writesOut) ∧
      t.capture.contexts = s.capture.contexts.map f ++ [c]) (hc : ∀ b, c.body = some b → 0 < b.writesOut) : t.noneReady := by
  obtain ⟨f, hf, hcontexts⟩ := ht
  intro x hx hstate b hb
  have hmem := List.mem_of_find?_eq_some hx
  rw [hcontexts, List.mem_append, List.mem_map, List.mem_singleton] at hmem
  obtain ⟨y, hy, rfl⟩ | rfl := hmem
  · obtain ⟨hsame, hbody⟩ := hf y
    obtain ⟨b0, hb0, hout⟩ := hbody b hb
    rw [← hout]
    exact (hroom.2 y hy).2 (hsame ▸ hstate) b0 hb0
  · exact hc b hb

/-! ### The header (R29) -/

theorem field_one (bs : List Byte) (off : Nat) : field bs off 1 = (byteOf bs off).toNat := by
  unfold field byteOf
  rw [List.getD_eq_getElem?_getD, ← List.head?_drop]
  cases bs.drop off with
  | nil => rfl
  | cons b l => simp [fromLE]

theorem parseKind_eq_none_iff (b : Byte) : parseKind b = none ↔ b.toNat = 0 ∨ 3 < b.toNat := by
  unfold parseKind
  split
  · next h => exact ⟨fun h' => absurd h' (Option.some_ne_none _), fun h' => by omega⟩
  · next h => exact ⟨fun h' => absurd h' (Option.some_ne_none _), fun h' => by omega⟩
  · next h => exact ⟨fun h' => absurd h' (Option.some_ne_none _), fun h' => by omega⟩
  · next h1 h2 h3 =>
    have hnot : b.toNat ≠ 1 ∧ b.toNat ≠ 2 ∧ b.toNat ≠ 3 := ⟨h1, h2, h3⟩
    exact ⟨fun _ => by omega, fun _ => rfl⟩

theorem parseKind_eq_controlOnly_iff (b : Byte) : parseKind b = some .controlOnly ↔ b.toNat = 3 := by
  unfold parseKind
  split
  · next h => exact ⟨fun h' => (nomatch Option.some.inj h'), fun h' => by omega⟩
  · next h => exact ⟨fun h' => (nomatch Option.some.inj h'), fun h' => by omega⟩
  · next h => exact ⟨fun _ => h, fun _ => rfl⟩
  · next h1 h2 h3 => exact ⟨fun h' => absurd h'.symm (Option.some_ne_none _), fun h' => absurd h' h3⟩

/-- A header is bad for its mark, its KIND, its lengths or the payload of a CONTROL_ONLY one. -/
theorem parseCaptureHeader_eq_none {segSize : Nat} {bs : List Byte}
    (h : bs.take 4 ≠ [0x51#8, 0x53#8, 0x45#8, 0x47#8] ∨ field bs 8 1 = 0 ∨ 3 < field bs 8 1 ∨ segSize - 64 < field bs 12 4 + field bs 16 4 ∨
      (field bs 8 1 = 3 ∧ (field bs 12 4 ≠ 0 ∨ field bs 16 4 ≠ 0))) : parseCaptureHeader segSize bs = none := by
  rw [field_one] at h
  unfold parseCaptureHeader
  dsimp only
  cases hkind : parseKind (byteOf bs 8) with
  | none => rfl
  | some kind =>
    have hok : ¬ ((byteOf bs 8).toNat = 0 ∨ 3 < (byteOf bs 8).toNat) := by
      rw [← parseKind_eq_none_iff, hkind]
      exact Option.some_ne_none _
    have hcontrol : (byteOf bs 8).toNat = 3 → kind = .controlOnly := fun h3 => by
      rw [← parseKind_eq_controlOnly_iff, hkind] at h3
      exact Option.some.inj h3
    refine if_pos ?_
    obtain h | h | h | h | ⟨h, hpayload⟩ := h
    · exact .inl h
    · exact absurd (.inl h) hok
    · exact absurd (.inr h) hok
    · exact .inr (.inl h)
    · exact .inr (.inr ⟨hcontrol h, hpayload⟩)

/-! ### The sequence check (Table 18) -/

theorem serialDiff_eq_zero_iff (a b : Word) : serialDiff a b = 0 ↔ a = b := by
  unfold serialDiff
  rw [← BitVec.toInt_zero, BitVec.toInt_inj]
  bv_omega

theorem checkSequence_of_accepted {expected after : Option Word} {h : CaptureHeader} {lead : List GapCause} {event : Option Event}
    (ha : acceptsAs expected h lead event after) (hkind : h.kind ≠ .controlOnly) :
    checkSequence expected h.seq = .accepted lead event ∧ after = some (h.seq + 1#32) := by
  unfold checkSequence
  obtain ⟨hcontrol, _⟩ | ⟨_, hafter, ⟨rfl, rfl, rfl⟩ | ⟨x, rfl, hcase⟩⟩ := ha
  · exact absurd hcontrol hkind
  · exact ⟨rfl, hafter⟩
  · refine ⟨?_, hafter⟩
    have hwindow : Config.sequenceWindow = 64 := rfl
    dsimp only
    rw [hwindow]
    obtain ⟨hseq, rfl, rfl⟩ | ⟨hlow, hhigh, rfl, rfl⟩ | ⟨hfar, rfl, rfl⟩ := hcase
    · rw [if_pos ((serialDiff_eq_zero_iff ..).mpr hseq)]
    · rw [if_neg (by omega), if_pos ⟨hlow, hhigh⟩]
    · rw [if_neg (by omega), if_neg (by omega), if_neg (by omega)]

theorem checkSequence_of_duplicate {x q : Word} (hlow : -64 ≤ serialDiff q x) (hhigh : serialDiff q x ≤ -1) :
    checkSequence (some x) q = .duplicate := by
  have hwindow : Config.sequenceWindow = 64 := rfl
  unfold checkSequence
  dsimp only
  rw [hwindow, if_neg (by omega), if_neg (by omega), if_pos ⟨hlow, hhigh⟩]

/-- `s` once a header is accepted: the expected sequence moves and its event is latched. -/
def State.accepting (s : State) (after : Option Word) (event : Option Event) : State :=
  { s with capture := { s.capture with expected := after }, taps := s.taps.raised event }

theorem State.readHeader_of_accepted {s : State} {g : Geometry} {f : InFlight} {h : CaptureHeader} {lead : List GapCause}
    {event : Option Event} {after : Option Word} (k : Nat) (hparse : parseCaptureHeader g.segSize f.req.data = some h)
    (ha : acceptsAs s.capture.expected h lead event after) :
    s.readHeader g f k = (s.accepting after event).openContext g f k h lead := by
  unfold State.readHeader
  rw [hparse]
  dsimp only
  by_cases hkind : h.kind = .controlOnly
  · obtain ⟨_, rfl, rfl, rfl⟩ | ⟨hnot, _⟩ := ha
    · rw [if_pos hkind]
      rfl
    · exact absurd hkind hnot
  · obtain ⟨hcheck, rfl⟩ := checkSequence_of_accepted ha hkind
    rw [if_neg hkind, hcheck]
    dsimp only
    unfold State.acceptSequence State.accepting
    cases event <;> rfl

/-! ### Opening a context (R31) -/

theorem State.openContext_of_some {s u : State} {p : Nat} (g : Geometry) (f : InFlight) (k : Nat) (h : CaptureHeader) (lead : List GapCause)
    (hgot : s.allocate = (u, some p)) :
    s.openContext g f k h lead =
      (u.setContexts (u.capture.contexts ++
        [{ slot := k
           state := if 64 + h.la + h.lv ≤ max 64 f.req.length then .completeWaiting else .filling
           body := some
             { phys := p, header := h, fill := max 64 f.req.length,
               running := crcRun 0xFFFFFFFF#32 ((f.req.data.drop 64).take (min f.req.length (64 + h.la + h.lv) - 64)), coherence := .clean,
               writesOut := 1, faultSeen := false, leadRun := lead, trailingRun := [] } }])).forwardWrite g f p 0 := by
  unfold State.openContext
  rw [hgot]
  rfl

/-- The gap causes that a lost header carries on (R31). -/
def CaptureHeader.lostRun (h : CaptureHeader) (lead : List GapCause) : List GapCause :=
  match h.kind with
  | .program => lead ++ [.lost]
  | .maskSource => lead
  | .controlOnly => []

/-- With no segment to be had the header is lost. -/
theorem State.openContext_of_none {s : State} (g : Geometry) (f : InFlight) (k : Nat) (h : CaptureHeader) (lead : List GapCause)
    (hgot : s.allocate = (s, none)) :
    s.openContext g f k h lead =
      (((s.raiseAll .captureLost).carryRun s.capture.contexts (h.lostRun lead)).openDiscard k).absorbWrite f := by
  unfold State.openContext
  rw [hgot]
  rfl

/-- The lowest allocatable segment is allocated. -/
theorem State.allocate_of_lowest {s : State} {p : Nat} {g : Segment} (hg : s.seg? p = some g) (hfree : g.state = .free)
    (hout : g.outstanding = 0) (hfirst : ∀ q g', q < p → s.seg? q = some g' → ¬ (g'.state = .free ∧ g'.outstanding = 0)) :
    s.allocate = (s.takeSegment p, some p) := by
  have hfind : s.pool.segs.findIdx? Segment.allocatable = some p :=
    State.findIdx?_allocatable_some hg ((Segment.allocatable_iff g).mpr ⟨hfree, hout⟩) fun q g' hq hg' =>
      Bool.eq_false_iff.mpr fun hfree' => hfirst q g' hq hg' ((Segment.allocatable_iff g').mp hfree')
  unfold State.allocate
  rw [hfind]

/-- Settles O32: with room and an allocatable segment the header opens its context, which has a write outstanding, so nothing commits. -/
theorem acceptedHeadersOpenTheirContext : Obligations.AcceptedHeadersOpenTheirContext := by
  intro s tag g f k h lead event after p sp hwrite hroom hparse haccept hsp hfree hout hfirst n e
  have hallocate : (s.accepting after event).allocate = ((s.accepting after event).takeSegment p, some p) :=
    State.allocate_of_lowest (s := s.accepting after event) hsp hfree hout fun q g' hq hg' => hfirst q g' hq hg'
  have hsegs : (s.pool.segs.modify p fun q => { q with state := .filling, counted := false }).modify p
      (fun q => { q with outstanding := q.outstanding + 1 }) =
      s.pool.segs.set p { sp with state := .filling, counted := false, outstanding := 1 } := by
    rw [List.modify_modify_eq, modify_eq_set_of_getElem? _ hsp, Function.comp_apply, hout]
  have hroomy : s.makeRoom k = s := State.makeRoom_of_room hroom.1 fun c hc => (hroom.2 c hc).1
  rw [exec_headerWriteArrival_of_captureWrite hwrite]
  unfold State.headerWrite
  rw [hroomy, State.readHeader_of_accepted k hparse haccept, State.openContext_of_some g f k h lead hallocate,
    State.forwardWrite_eq, State.commitReady_of_noneReady ?_, State.tag_of_captureWrite hwrite]
  · rw [← hsegs]
    rfl
  · refine State.noneReady_of_opened hroom ⟨id, fun x => ⟨rfl, fun b hb => ⟨b, hb, rfl⟩⟩, (congrArg (· ++ _) (List.map_id _).symm)⟩ fun b hb => ?_
    cases hb
    exact Nat.one_pos

end Sys2Proof.Machine

/-! SUPPORT. Headers that are refused or lost (R29 to R31). -/

namespace Sys2Proof.Machine

/-! ### An allocation that gives nothing -/

/-- Nothing is allocatable and no step of Table 23 finds a segment. -/
structure State.Exhausted (s : State) : Prop where
  free : s.pool.segs.findIdx? Segment.allocatable = none
  oldest : s.pressureOldest = none
  dropped : s.pressureDropped = none
  undropped : s.pressureUndropped = none

theorem State.evictFor_ne_none {s : State} {e : TimelineEntry} (h : s.evictable e = true) : (s.evictFor e).2 ≠ none := by
  obtain ⟨p, g, hphys, _⟩ := (s.evictable_iff e).mp h
  unfold State.evictFor
  rw [hphys]
  exact Option.some_ne_none _

theorem State.exhausted_of_allocate {s : State} (h : s.allocate.2 = none) : s.Exhausted := by
  unfold State.allocate at h
  split at h
  · exact absurd h (Option.some_ne_none _)
  · next hnone =>
    unfold State.relieve at h
    split at h
    · exact absurd h (Option.some_ne_none _)
    · next holdest =>
      split at h
      · next e hdropped =>
        have hfound := List.find?_some hdropped
        rw [Bool.and_eq_true, Bool.and_eq_true] at hfound
        exact absurd h (State.evictFor_ne_none (s := s.raiseAll .quarMissed) hfound.1.1)
      · next hdropped =>
        split at h
        · next e hundropped =>
          have hfound := List.find?_some hundropped
          rw [Bool.and_eq_true] at hfound
          split at h
          · exact absurd h (State.evictFor_ne_none (s := s.raiseAll .evicted) hfound.1)
          · exact absurd h (State.evictFor_ne_none (s := (s.raiseAll .evicted).raiseAll .quarMissed) hfound.1)
        · next hundropped => exact ⟨hnone, holdest, hdropped, hundropped⟩

theorem State.Exhausted.allocate {s : State} (h : s.Exhausted) : s.allocate = (s, none) := by
  unfold State.allocate
  rw [h.free]
  dsimp only
  unfold State.relieve
  rw [h.oldest, h.dropped, h.undropped]

theorem PerTap.get_raised (v : PerTap Tap) (event : Option Event) (i : Fin 4) :
    ((v.raised event).get i).active = (v.get i).active ∧ ((v.raised event).get i).bound = (v.get i).bound := by
  cases event with
  | none => exact ⟨rfl, rfl⟩
  | some e =>
    have hget : (v.raised (some e)).get i = (v.get i).raise e := PerTap.get_map ..
    rw [hget]
    exact ⟨rfl, rfl⟩

/-- Accepting a header finds no segment where there was none. -/
theorem State.Exhausted.accepting {s : State} (h : s.Exhausted) (after : Option Word) (event : Option Event) :
    (s.accepting after event).Exhausted := by
  have htap (i : Fin 4) : ((s.accepting after event).tap i).active = (s.tap i).active ∧
      ((s.accepting after event).tap i).bound = (s.tap i).bound := PerTap.get_raised s.taps event i
  refine ⟨h.free, h.oldest, ?_, h.undropped⟩
  have hactive : (s.accepting after event).activeTaps = s.activeTaps := List.filter_congr fun i _ => (htap i).1
  have hdropped := h.dropped
  unfold State.pressureDropped at hdropped ⊢
  rw [hactive]
  simp only [fun i => (htap i).2]
  exact hdropped

/-! ### DISCARD contexts -/

/-- A run is carried on to the one context that is older, when it is not a DISCARD one, else to the pending run. -/
theorem State.carryRun_eq {s : State} {older younger : List Context} (run : List GapCause) (hshort : older.length ≤ 1)
    (hcontexts : s.capture.contexts = older ++ younger) (hslots : ∀ o ∈ older, ∀ y ∈ younger, y.slot ≠ o.slot) :
    s.carryRun older run =
      { s with capture :=
        { s.capture with
          contexts := (older.map fun (c : Context) => if c.state = .discard then c else c.trail run) ++ younger
          pendingRun := s.capture.pendingRun ++ if older.any (fun c => c.state != .discard) then [] else run } } := by
  unfold State.carryRun
  match older with
  | [] =>
    rw [List.map_nil, ← hcontexts]
    rfl
  | [c] =>
    by_cases hdiscard : c.state = .discard
    · have hcarries : c.carries = false := bne_eq_false_iff_eq.mpr hdiscard
      have hany : ([c].any fun c => c.state != .discard) = false := by rw [List.any_cons, List.any_nil, hdiscard]; rfl
      rw [List.filter_cons_of_neg (Bool.eq_false_iff.mp hcarries), hany, List.map_cons, List.map_nil, if_pos hdiscard, ← hcontexts]
      rfl
    · have hcarries : c.carries = true := bne_iff_ne.mpr hdiscard
      have hany : ([c].any fun c => c.state != .discard) = true := by rw [List.any_cons, bne_iff_ne.mpr hdiscard]; rfl
      have hyounger : younger.map (fun x => if x.slot = c.slot then x.trail run else x) = younger :=
        (List.map_congr_left fun y hy => if_neg (hslots c List.mem_cons_self y hy)).trans (List.map_id _)
      rw [List.filter_cons_of_pos hcarries, hany, List.map_cons, List.map_nil, if_neg hdiscard, if_pos rfl, List.append_nil]
      show s.setContexts (s.capture.contexts.map fun x => if x.slot = c.slot then x.trail run else x) = _
      rw [hcontexts, List.map_append, hyounger, List.map_cons, List.map_nil, if_pos rfl]
      rfl
  | _ :: _ :: _ =>
    rw [List.length_cons, List.length_cons] at hshort
    omega

theorem State.openDiscard_absorbWrite (s : State) (k : Nat) (f : InFlight) :
    (s.openDiscard k).absorbWrite f =
      { s with
        link := { s.link with inflight := s.link.inflight.map fun x =>
          if x.req.tag = f.req.tag then { x with cls := .absorbed, phase := .ready, reply := some ⟨.ok, []⟩ } else x }
        capture := { s.capture with contexts := s.capture.contexts ++ [{ slot := k, state := .discard, body := none }] } } :=
  State.absorbWrite_eq ..

theorem State.readHeader_of_bad {s : State} {g : Geometry} {f : InFlight} (k : Nat) (h : parseCaptureHeader g.segSize f.req.data = none) :
    s.readHeader g f k = ((s.raiseAll .headerBad).openDiscard k).absorbWrite f := by
  unfold State.readHeader
  rw [h]

theorem State.readHeader_of_duplicate {s : State} {g : Geometry} {f : InFlight} {h : CaptureHeader} {x : Word} (k : Nat)
    (hparse : parseCaptureHeader g.segSize f.req.data = some h) (hkind : h.kind ≠ .controlOnly) (hx : s.capture.expected = some x)
    (hlow : -64 ≤ serialDiff h.seq x) (hhigh : serialDiff h.seq x ≤ -1) :
    s.readHeader g f k = ((s.raiseAll .seqDup).openDiscard k).absorbWrite f := by
  unfold State.readHeader
  rw [hparse]
  dsimp only
  rw [if_neg hkind, hx, checkSequence_of_duplicate hlow hhigh]

/-- A header write with room whose header opens a DISCARD context commits nothing. -/
theorem exec_headerWriteArrival_of_discard {s u : State} {tag : Fin 64} {g : Geometry} {f : InFlight} {k : Nat}
    (hwrite : s.captureWrite tag = some (g, f, k, 0)) (hroom : s.roomFor k)
    (hu : ∃ φ : Context → Context, (∀ x, (φ x).state = x.state ∧ ∀ b, (φ x).body = some b → ∃ b0, x.body = some b0 ∧ b0.writesOut = b.writesOut) ∧
      u.capture.contexts = s.capture.contexts.map φ) (hread : s.readHeader g f k = (u.openDiscard k).absorbWrite f) :
    exec (.headerWriteArrival tag) s =
      .next (State.refreshTally { u with
        link := { u.link with inflight := u.link.inflight.map fun x =>
          if x.req.tag = tag then { x with cls := .absorbed, phase := .ready, reply := some ⟨.ok, []⟩ } else x }
        capture := { u.capture with contexts := u.capture.contexts ++ [{ slot := k, state := .discard, body := none }] } }) := by
  have hroomy : s.makeRoom k = s := State.makeRoom_of_room hroom.1 fun c hc => (hroom.2 c hc).1
  obtain ⟨φ, hφ, hcontexts⟩ := hu
  rw [exec_headerWriteArrival_of_captureWrite hwrite]
  unfold State.headerWrite
  rw [hroomy, hread, State.openDiscard_absorbWrite, State.commitReady_of_noneReady ?_, State.tag_of_captureWrite hwrite]
  exact State.noneReady_of_opened hroom ⟨φ, hφ, congrArg (· ++ _) hcontexts⟩ fun b hb => (nomatch hb)

/-- Settles O31: the three refusals open a DISCARD context and absorb the write, and with nothing ready nothing commits. -/
theorem refusedHeadersOpenDiscard : Obligations.RefusedHeadersOpenDiscard := by
  intro s tag g f k hwrite hroom data la lv kind absorbed discards
  have hsame : ∃ φ : Context → Context,
      (∀ x, (φ x).state = x.state ∧ ∀ b, (φ x).body = some b → ∃ b0, x.body = some b0 ∧ b0.writesOut = b.writesOut) ∧
        s.capture.contexts = s.capture.contexts.map φ := ⟨id, fun x => ⟨rfl, fun b hb => ⟨b, hb, rfl⟩⟩, (List.map_id _).symm⟩
  refine ⟨fun hbad => ?_, fun h x hparse hkind hx hlow hhigh => ?_, fun h lead event after hparse haccept hnone => ?_⟩
  · exact exec_headerWriteArrival_of_discard (u := s.raiseAll .headerBad) hwrite hroom hsame
      (State.readHeader_of_bad k (parseCaptureHeader_eq_none hbad))
  · exact exec_headerWriteArrival_of_discard (u := s.raiseAll .seqDup) hwrite hroom hsame
      (State.readHeader_of_duplicate k hparse hkind hx hlow hhigh)
  · intro run
    have hread : s.readHeader g f k =
        ((((s.accepting after event).raiseAll .captureLost).carryRun s.capture.contexts run).openDiscard k).absorbWrite f := by
      rw [State.readHeader_of_accepted k hparse haccept,
        State.openContext_of_none g f k h lead ((State.exhausted_of_allocate hnone).accepting after event).allocate]
      rfl
    have hcarry := State.carryRun_eq (s := (s.accepting after event).raiseAll .captureLost) run hroom.1 (List.append_nil _).symm
      fun _ _ y hy => nomatch hy
    rw [List.append_nil] at hcarry
    rw [hcarry] at hread
    refine exec_headerWriteArrival_of_discard hwrite hroom ⟨_, fun x => ?_, rfl⟩ hread
    split
    · exact ⟨rfl, fun b hb => ⟨b, hb, rfl⟩⟩
    · refine ⟨rfl, fun b hb => ?_⟩
      obtain ⟨b0, hb0, rfl⟩ := Option.map_eq_some_iff.mp hb
      exact ⟨b0, hb0, rfl⟩

end Sys2Proof.Machine

/-! SUPPORT. What every header write does to its own slot and to the link (R11, R27 to R31). -/

namespace Sys2Proof.Machine

/-! ### Slots (R27) -/

theorem State.displace_slots (s : State) (k : Nat) :
    (s.displace k).capture.contexts.map (·.slot) = (s.capture.contexts.map (·.slot)).filter (· != k) := by
  have h := congrArg (List.map Prod.fst) (s.displace_shapes k)
  rw [List.map_map, List.map_map] at h
  rw [List.filter_map]
  exact h

theorem State.displace_slot_ne {s : State} {k j : Nat} {c : Context} (h : ∀ x ∈ s.capture.contexts, x.slot ≠ j)
    (hc : c ∈ (s.displace k).capture.contexts) : c.slot ≠ j := by
  have hmem : c.slot ∈ (s.displace k).capture.contexts.map (·.slot) := List.mem_map_of_mem hc
  rw [State.displace_slots, List.mem_filter, List.mem_map] at hmem
  obtain ⟨⟨x, hx, hslot⟩, _⟩ := hmem
  exact hslot ▸ h x hx

/-- Once room has been made no context is open on the slot. -/
theorem State.makeRoom_slot_ne {s : State} {k : Nat} {c : Context} (hc : c ∈ (s.makeRoom k).capture.contexts) : c.slot ≠ k := by
  have hfirst (x : Context) (hx : x ∈ (s.displace k).capture.contexts) : x.slot ≠ k := by
    have hmem : x.slot ∈ (s.displace k).capture.contexts.map (·.slot) := List.mem_map_of_mem hx
    rw [State.displace_slots, List.mem_filter] at hmem
    exact bne_iff_ne.mp hmem.2
  unfold State.makeRoom at hc
  dsimp only at hc
  split at hc
  · exact State.displace_slot_ne hfirst hc
  · exact hfirst c hc

/-! ### Which segment is allocated -/

theorem State.evictFor_snd (s : State) (e : TimelineEntry) : (s.evictFor e).2 = e.phys := by
  unfold State.evictFor
  split
  · next h => exact h.symm
  · next h => exact h.symm

theorem State.allocate_snd (s : State) :
    s.allocate.2 =
      (s.pool.segs.findIdx? Segment.allocatable).or
        ((s.pressureOldest.map (·.phys)).or ((s.pressureDropped.or s.pressureUndropped).bind (·.phys))) := by
  unfold State.allocate
  split
  · next h => rw [h]; rfl
  · next h =>
    rw [h, Option.none_or]
    unfold State.relieve
    split
    · next hr => rw [hr]; rfl
    · next hr =>
      rw [hr, Option.map_none, Option.none_or]
      split
      · next e he => rw [he]; exact State.evictFor_snd ..
      · next he =>
        rw [he, Option.none_or]
        split
        · next e he' => rw [he']; exact State.evictFor_snd ..
        · next he' => rw [he']; rfl

theorem State.pressureDropped_accepting (s : State) (after : Option Word) (event : Option Event) :
    (s.accepting after event).pressureDropped = s.pressureDropped := by
  have htap (i : Fin 4) : ((s.accepting after event).tap i).active = (s.tap i).active ∧
      ((s.accepting after event).tap i).bound = (s.tap i).bound := PerTap.get_raised s.taps event i
  have hactive : (s.accepting after event).activeTaps = s.activeTaps := List.filter_congr fun i _ => (htap i).1
  unfold State.pressureDropped
  rw [hactive]
  simp only [fun i => (htap i).2]
  rfl

/-- An accepted header is allocated the segment that there was for it before. -/
theorem State.allocate_accepting_snd (s : State) (after : Option Word) (event : Option Event) :
    (s.accepting after event).allocate.2 = s.allocate.2 := by
  rw [State.allocate_snd, State.allocate_snd, State.pressureDropped_accepting]
  rfl

theorem State.lt_of_allocate {s : State} {p : Nat} (h : s.allocate.2 = some p) : p < s.pool.segs.length := by
  have hseg {q : Nat} {g : Segment} (hg : s.seg? q = some g) : q < s.pool.segs.length := (List.getElem?_eq_some_iff.mp hg).1
  have hevict {e : TimelineEntry} (he : s.evictable e = true) (hphys : e.phys = some p) : p < s.pool.segs.length := by
    obtain ⟨q, g, hq, hg, _⟩ := (s.evictable_iff e).mp he
    rw [hphys] at hq
    cases hq
    exact hseg hg
  rw [State.allocate_snd, Option.or_eq_some_iff] at h
  obtain h | ⟨_, h⟩ := h
  · exact (List.findIdx?_eq_some_iff_getElem.mp h).1
  · rw [Option.or_eq_some_iff] at h
    obtain h | ⟨_, h⟩ := h
    · obtain ⟨r, hr, rfl⟩ := Option.map_eq_some_iff.mp h
      unfold State.pressureOldest at hr
      split at hr
      · rw [Option.ite_none_right_eq_some] at hr
        obtain ⟨hreleasable, hr⟩ := hr
        cases hr
        obtain ⟨g, hg, _⟩ := (Option.any_eq_true ..).mp hreleasable
        exact hseg hg
      · cases hr
    · obtain ⟨e, he, hphys⟩ := Option.bind_eq_some_iff.mp h
      rw [Option.or_eq_some_iff] at he
      obtain he | ⟨_, he⟩ := he
      · have hfound := List.find?_some he
        rw [Bool.and_eq_true, Bool.and_eq_true] at hfound
        exact hevict hfound.1.1 hphys
      · have hfound := List.find?_some he
        rw [Bool.and_eq_true] at hfound
        exact hevict hfound.1 hphys

/-! ### The context that a header write opens -/

/-- `link` once the write `tag` is absorbed. -/
def Interposer.absorbing (link : Interposer) (tag : Fin 64) : Interposer :=
  { link with inflight := link.inflight.map fun x =>
      if x.req.tag = tag then { x with cls := .absorbed, phase := .ready, reply := some ⟨.ok, []⟩ } else x }

/-- `link` once the header write `f` is forwarded to segment `p`. -/
def Interposer.forwarding (link : Interposer) (g : Geometry) (f : InFlight) (p : Nat) : Interposer :=
  { link with
    inflight := link.inflight.map fun x =>
      if x.req.tag = f.req.tag then { x with cls := .capture, phase := .waitingM, targets := [p] } else x
    planned := link.planned ++
      [{ tag := forwardTag f.req.tag, op := .write, addr := BitVec.ofNat 40 (g.backingBase.toNat + p * g.segSize),
         length := f.req.length, data := f.req.data, use := .captureWrite p, draining := false }] }

/-- In `t` one context stands on slot `k`: a DISCARD one, the header write `f` being absorbed, or one on the segment that `u` allocates, to
which the write is forwarded. -/
def Opens (u t : State) (g : Geometry) (f : InFlight) (k : Nat) : Prop :=
  ∃ c, (t.capture.contexts.filter fun c => c.slot == k) = [c] ∧
    ((c.state = .discard ∧ c.body = none ∧ t.link = u.link.absorbing f.req.tag) ∨
      ∃ b p, c.body = some b ∧ b.phys = p ∧ c.state ≠ .discard ∧ b.writesOut = 1 ∧ u.allocate.2 = some p ∧
        t.link = u.link.forwarding g f p)

theorem Opens.of_append {u t : State} {g : Geometry} {f : InFlight} {k : Nat} {cs : List Context} {c : Context}
    (hcs : ∀ x ∈ cs, x.slot ≠ k) (ht : t.capture.contexts = cs ++ [c]) (hk : c.slot = k)
    (hc : (c.state = .discard ∧ c.body = none ∧ t.link = u.link.absorbing f.req.tag) ∨
      ∃ b p, c.body = some b ∧ b.phys = p ∧ c.state ≠ .discard ∧ b.writesOut = 1 ∧ u.allocate.2 = some p ∧
        t.link = u.link.forwarding g f p) : Opens u t g f k := by
  refine ⟨c, ?_, hc⟩
  rw [ht, List.filter_append, List.filter_eq_nil_iff.mpr fun x hx => by rw [beq_iff_eq]; exact hcs x hx,
    List.filter_cons_of_pos (p := fun c : Context => c.slot == k) (beq_iff_eq.mpr hk)]
  rfl

theorem carryRun_slot_ne {s : State} {older : List Context} {run : List GapCause} {k : Nat} (h : ∀ x ∈ s.capture.contexts, x.slot ≠ k) :
    ∀ x ∈ (s.carryRun older run).capture.contexts, x.slot ≠ k := by
  intro x hx
  have hmem : x.shape ∈ (s.carryRun older run).capture.contexts.map Context.shape := List.mem_map_of_mem hx
  rw [State.carryRun_shapes] at hmem
  obtain ⟨y, hy, hshape⟩ := List.mem_map.mp hmem
  have hslot : y.slot = x.slot := congrArg Prod.fst hshape
  exact hslot ▸ h y hy

theorem Opens.openContext {u s : State} (g : Geometry) (f : InFlight) {k : Nat} (h : CaptureHeader) (lead : List GapCause)
    (hk : ∀ x ∈ s.capture.contexts, x.slot ≠ k) (hlink : s.link = u.link) (hallocate : s.allocate.2 = u.allocate.2) :
    Opens u (s.openContext g f k h lead) g f k := by
  have hsame := Interior.allocate s
  unfold State.openContext
  dsimp only
  split
  · next p hp =>
    refine Opens.of_append (cs := s.capture.contexts) hk (by rw [← hsame.capture]; rfl) rfl
      (.inr ⟨_, p, rfl, rfl, contextState_ne_discard _ _, rfl, hallocate ▸ hp, ?_⟩)
    rw [State.forwardWrite_eq]
    exact congrArg (fun l : Interposer => l.forwarding g f p) (hsame.link.trans hlink)
  · refine Opens.of_append (carryRun_slot_ne (s := s.allocate.1.raiseAll .captureLost) (by rw [State.raiseAll_capture, hsame.capture]; exact hk)) rfl rfl
      (.inl ⟨rfl, rfl, ?_⟩)
    rw [State.absorbWrite_eq]
    exact congrArg (fun l : Interposer => l.absorbing f.req.tag) ((Inner.carryRun ..).link.trans (hsame.link.trans hlink))

theorem State.acceptSequence_eq (s : State) (q : Word) (event : Option Event) :
    s.acceptSequence q event = s.accepting (some (q + 1#32)) event := by
  unfold State.acceptSequence State.accepting
  cases event <;> rfl

theorem Opens.readHeader {u : State} (g : Geometry) (f : InFlight) {k : Nat} (hk : ∀ x ∈ u.capture.contexts, x.slot ≠ k) :
    Opens u (u.readHeader g f k) g f k := by
  have hdiscard (e : Event) : Opens u (((u.raiseAll e).openDiscard k).absorbWrite f) g f k := by
    rw [State.openDiscard_absorbWrite]
    exact Opens.of_append (cs := u.capture.contexts) hk rfl rfl (.inl ⟨rfl, rfl, rfl⟩)
  unfold State.readHeader
  split
  · exact hdiscard .headerBad
  · next h _ =>
    split
    · exact Opens.openContext g f h [] hk rfl rfl
    · split
      · exact hdiscard .seqDup
      · next lead event _ =>
        rw [State.acceptSequence_eq]
        exact Opens.openContext g f h lead hk rfl (u.allocate_accepting_snd _ _)

/-- A commit never takes the new context, which is a DISCARD one or has its header write outstanding. -/
theorem Opens.commitNext {u s t : State} {g : Geometry} {f : InFlight} {k : Nat} (h : Opens u s g f k) (ht : s.commitNext = some t) :
    Opens u t g f k := by
  have hlink := (Inner.commitNext ht).link
  obtain ⟨c, b, hfind, hstate, hbody, hout, rfl⟩ := State.commitNext_eq_some ht
  obtain ⟨x, hx, hcase⟩ := h
  have hcarries := List.find?_some hfind
  have hmem := List.mem_of_find?_eq_some hfind
  have hslot : c.slot ≠ k := fun hslot => by
    have hcx : c ∈ s.capture.contexts.filter fun c => c.slot == k := List.mem_filter.mpr ⟨hmem, beq_iff_eq.mpr hslot⟩
    rw [hx, List.mem_singleton] at hcx
    subst hcx
    obtain ⟨hdiscard, _⟩ | ⟨b', p, hb', _, _, hone, _⟩ := hcase
    · rw [hstate] at hdiscard
      cases hdiscard
    · rw [hbody] at hb'
      cases hb'
      omega
  refine ⟨x, ?_, ?_⟩
  · rw [State.commitBody_capture]
    show (s.capture.contexts.filter fun x => x.slot != c.slot).filter (fun x => x.slot == k) = _
    rw [List.filter_filter, ← hx]
    refine List.filter_congr fun y _ => ?_
    by_cases hy : y.slot = k
    · rw [hy, beq_self_eq_true, Bool.true_and, bne_iff_ne.mpr (Ne.symm hslot)]
    · rw [beq_eq_false_iff_ne.mpr hy, Bool.false_and]
  · rw [hlink]
    exact hcase

/-- Settles O30: the header write opens its context on the state with room made, and no commit of the same event takes it. -/
theorem headerWritesAreForwardedOrAbsorbed : Obligations.HeaderWritesAreForwardedOrAbsorbed := by
  intro s tag g f k hwrite
  have htag := State.tag_of_captureWrite hwrite
  have hopens : Opens (s.makeRoom k) (s.headerWrite g f k) g f k :=
    State.commitReady_induct (P := fun v => Opens (s.makeRoom k) v g f k)
      (Opens.readHeader g f fun x hx => State.makeRoom_slot_ne hx) fun _ _ h k => h.commitNext k
  have houter := Outer.headerWrite s g f k
  have hroom := Inner.makeRoom s k
  obtain ⟨c, hc, hcase⟩ := hopens
  refine ⟨_, c, exec_headerWriteArrival_of_captureWrite hwrite, houter.startUp, fun l => ?_, houter.contents, hc, ?_⟩
  · have hpanel : (s.headerWrite g f k).refreshTally.line l = (s.headerWrite g f k).line l := by cases l <;> rfl
    rw [hpanel]
    unfold State.line
    rw [houter.panel]
  · obtain ⟨hstate, hbody, hlink⟩ | ⟨b, p, hbody, hphys, hstate, hone, hallocate, hlink⟩ := hcase
    · refine .inl ⟨hstate, hbody, ?_⟩
      rw [State.refreshTally_link, hlink, hroom.link, htag]
      rfl
    · refine .inr ⟨b, p, hbody, hphys, hstate, hone, hallocate, hroom.segCount ▸ State.lt_of_allocate hallocate, ?_⟩
      rw [State.refreshTally_link, hlink, hroom.link]
      unfold Interposer.forwarding
      rw [htag]

end Sys2Proof.Machine

/-! SUPPORT. What departures, appending and freeing leave of the segment records, of the segments that nothing names, and of the taps' latches
and reports (R46, R48, R64, R70 to R73). -/

namespace Sys2Proof.Machine

/-- From `x` to `y` no event is lost from the latch, and neither a command's result nor its count changes. -/
structure Hears (x y : Tap) : Prop where
  executed : y.executed = x.executed
  report : y.report = x.report
  latch : LatchKept x y

theorem Hears.refl (x : Tap) : Hears x x := ⟨rfl, rfl, .refl x⟩

theorem Hears.trans {x y z : Tap} (h : Hears x y) (k : Hears y z) : Hears x z :=
  ⟨k.executed.trans h.executed, k.report.trans h.report, h.latch.trans k.latch⟩

theorem Hears.raise (x : Tap) (e : Event) : Hears x (x.raise e) := ⟨rfl, rfl, .raise x e⟩

theorem Eased.hears {s t : State} (h : Eased s t) (i : Fin 4) : Hears (s.tap i) (t.tap i) := by
  refine ⟨?_, ?_, h.latch i⟩
  · rw [h.tap i]
  · rw [h.tap i]

/-- No timeline entry and no quarantine record names segment `p`. -/
def State.Unnamed (s : State) (p : Nat) : Prop :=
  (∀ e ∈ s.timeline.entries, e.phys ≠ some p) ∧ ∀ r ∈ s.quarantine.records, r.phys ≠ p

/-- A segment record but for its state and its departure record. -/
def Segment.core (g : Segment) : Segment := { g with state := .free, departure := none }

/-- From `s` to `t` segment records change in state and departure record at most, those that nothing names, `Q` aside, not at all, and no tap
loses an event or a result. -/
structure Rehomes (Q : Nat → Prop) (s t : State) : Prop where
  core : ∀ p, (t.seg? p).map Segment.core = (s.seg? p).map Segment.core
  spared : ∀ p, ¬ Q p → s.Unnamed p → t.Unnamed p ∧ t.seg? p = s.seg? p
  hears : ∀ i, Hears (s.tap i) (t.tap i)

theorem Rehomes.refl {Q : Nat → Prop} (s : State) : Rehomes Q s s := ⟨fun _ => rfl, fun _ _ h => ⟨h, rfl⟩, fun _ => .refl _⟩

theorem Rehomes.trans {Q : Nat → Prop} {s t u : State} (h : Rehomes Q s t) (k : Rehomes Q t u) : Rehomes Q s u where
  core := fun p => (k.core p).trans (h.core p)
  spared := fun p hp hs => by
    obtain ⟨ht, hseg⟩ := h.spared p hp hs
    obtain ⟨hu, hseg'⟩ := k.spared p hp ht
    exact ⟨hu, hseg'.trans hseg⟩
  hears := fun i => (h.hears i).trans (k.hears i)

theorem Rehomes.ite {Q : Nat → Prop} {s t u : State} {c : Prop} [Decidable c] (h : Rehomes Q s t) (k : Rehomes Q s u) :
    Rehomes Q s (if c then t else u) := by split <;> assumption

theorem Rehomes.foldl {Q : Nat → Prop} {α : Type} {f : State → α → State} (h : ∀ s x, Rehomes Q s (f s x)) (l : List α) (s : State) :
    Rehomes Q s (l.foldl f s) := by
  induction l generalizing s with
  | nil => exact .refl s
  | cons x l ih => exact (h s x).trans (ih _)

/-- A change that leaves the segment records alone. -/
theorem Rehomes.of_segs {Q : Nat → Prop} {s t : State} (hsegs : t.pool.segs = s.pool.segs) (hnamed : ∀ p, ¬ Q p → s.Unnamed p → t.Unnamed p)
    (hears : ∀ i, Hears (s.tap i) (t.tap i)) : Rehomes Q s t := by
  have hseg (p : Nat) : t.seg? p = s.seg? p := by unfold State.seg?; rw [hsegs]
  exact ⟨fun p => by rw [hseg], fun p hp hs => ⟨hnamed p hp hs, hseg p⟩, hears⟩

theorem Rehomes.raiseAll {Q : Nat → Prop} (s : State) (e : Event) : Rehomes Q s (s.raiseAll e) :=
  .of_segs rfl (fun _ _ h => h) fun i => by rw [State.tap_raiseAll]; exact .raise _ _

theorem Rehomes.raiseUnless {Q : Nat → Prop} (s : State) (quiet : Bool) (e : Event) : Rehomes Q s (s.raiseUnless quiet e) :=
  .ite (.refl s) (.raiseAll s e)

theorem Rehomes.setTap {Q : Nat → Prop} {s : State} {i : Fin 4} {x : Tap} (h : Hears (s.tap i) x) : Rehomes Q s (s.setTap i x) := by
  refine .of_segs rfl (fun _ _ h => h) fun j => ?_
  rw [State.tap_setTap]
  split
  · next hj => rw [hj]; exact h
  · exact .refl _

theorem Rehomes.withEdits {Q : Nat → Prop} (s : State) (es : List Edit) : Rehomes Q s { s with edits := es } :=
  .of_segs rfl (fun _ _ h => h) fun _ => .refl _

theorem Rehomes.pruneSpent {Q : Nat → Prop} (s : State) : Rehomes Q s s.pruneSpent := .withEdits s _

/-- The timeline changes to one that names no further segment. -/
theorem Rehomes.withTimeline {Q : Nat → Prop} (s : State) {tl : Timeline}
    (h : ∀ e ∈ tl.entries, ∀ p, e.phys = some p → ¬ Q p → ∃ e0 ∈ s.timeline.entries, e0.phys = some p) :
    Rehomes Q s { s with timeline := tl } := by
  refine .of_segs rfl (fun p hp hs => ⟨fun e he hphys => ?_, hs.2⟩) fun _ => .refl _
  obtain ⟨e0, he0, hphys0⟩ := h e he p hphys hp
  exact hs.1 e0 he0 hphys0

/-- A record change in state and departure record of a segment of `Q`. -/
theorem Rehomes.modifySeg {Q : Nat → Prop} (s : State) {p : Nat} {f : Segment → Segment} (hf : ∀ g, (f g).core = g.core) (hp : Q p) :
    Rehomes Q s (s.modifySeg p f) := by
  have hseg (q : Nat) : (s.modifySeg p f).seg? q = (s.seg? q).map fun g => if p = q then f g else g := List.getElem?_modify ..
  refine ⟨fun q => ?_, fun q hq hs => ⟨hs, ?_⟩, fun i => .refl _⟩
  · rw [hseg, Option.map_map]
    refine congrArg (fun k => Option.map k _) (funext fun g => ?_)
    rw [Function.comp_apply]
    split
    · exact hf g
    · rfl
  · rw [hseg]
    simp only [if_neg fun hpq : p = q => hq (hpq ▸ hp)]
    exact Option.map_id'

theorem Rehomes.freeSeg {Q : Nat → Prop} (s : State) {p : Nat} (hp : Q p) : Rehomes Q s (s.freeSeg p) := by
  have hunnamed (q : Nat) (h : s.Unnamed q) : (s.freeSeg p).Unnamed q := by
    unfold State.Unnamed
    rw [State.freeSeg_timeline, State.freeSeg_quarantine]
    exact h
  refine ⟨fun q => ?_, fun q hq hs => ⟨hunnamed q hs, ?_⟩, (Eased.freeSeg s p).hears⟩
  · by_cases hqp : q = p
    · subst hqp
      cases hg : s.seg? q with
      | none => rw [State.freeSeg_of_none hg, hg]
      | some g => rw [State.freeSeg_seg?_same hg]; rfl
    · rw [State.freeSeg_seg?_other s hqp]
  · exact State.freeSeg_seg?_other s fun h => hq (h ▸ hp)

theorem Rehomes.takeRecord {Q : Nat → Prop} (s : State) {r : SegmentRecord} (hr : Q r.phys) : Rehomes Q s (s.takeRecord r) := by
  unfold State.takeRecord
  refine Rehomes.trans (t := { s with quarantine := { s.quarantine with records := s.quarantine.records ++ [r] } })
    (.of_segs rfl (fun p hp hs => ⟨hs.1, fun r' hr' => ?_⟩) fun _ => .refl _) (.modifySeg _ (fun _ => rfl) hr)
  rw [List.mem_append, List.mem_singleton] at hr'
  obtain hr' | rfl := hr'
  · exact hs.2 r' hr'
  · exact fun h => hp (h ▸ hr)

/-- The oldest record leaves and its segment is freed. -/
theorem Rehomes.dropOldest {Q : Nat → Prop} {s : State} {old : SegmentRecord} {rest : List SegmentRecord}
    (h : s.quarantine.records = old :: rest) (quiet : Bool) (e : Event) :
    Rehomes Q s ((({ s with quarantine := { s.quarantine with records := rest } }).raiseUnless quiet e).freeSeg old.phys) := by
  have hrest : Rehomes Q s (({ s with quarantine := { s.quarantine with records := rest } }).raiseUnless quiet e) := by
    refine Rehomes.trans (t := { s with quarantine := { s.quarantine with records := rest } })
      (.of_segs rfl (fun p hp hs => ⟨hs.1, fun r hr => hs.2 r ?_⟩) fun _ => .refl _) (.raiseUnless ..)
    rw [h]
    exact List.mem_cons_of_mem _ hr
  have hfree := Rehomes.freeSeg (Q := (· = old.phys))
    (({ s with quarantine := { s.quarantine with records := rest } }).raiseUnless quiet e) (p := old.phys) rfl
  refine ⟨fun p => (hfree.core p).trans (hrest.core p), fun p hp hs => ?_, fun i => (hrest.hears i).trans (hfree.hears i)⟩
  obtain ⟨ht, hseg⟩ := hrest.spared p hp hs
  have hold : p ≠ old.phys := fun heq => hs.2 old (by rw [h]; exact List.mem_cons_self) heq.symm
  obtain ⟨hu, hseg'⟩ := hfree.spared p hold ht
  exact ⟨hu, hseg'.trans hseg⟩

theorem Rehomes.offer {Q : Nat → Prop} (quiet : Bool) (s : State) {r : SegmentRecord} (hr : Q r.phys) : Rehomes Q s (State.offer quiet s r) := by
  unfold State.offer
  refine .ite (.freeSeg s hr) (.ite (.takeRecord s hr) ?_)
  split
  · next old rest _ hrecords => exact (Rehomes.dropOldest hrecords quiet _).trans (.takeRecord _ hr)
  · exact (Rehomes.raiseUnless ..).trans (.freeSeg _ hr)

theorem Rehomes.handOn {Q : Nat → Prop} (s : State) {e : TimelineEntry} (he : ∀ p, e.phys = some p → Q p) : Rehomes Q s (s.handOn e) := by
  unfold State.handOn
  split
  · exact .refl s
  · next p hp =>
    split
    · exact .refl s
    · exact .ite (.modifySeg s (fun _ => rfl) (he p hp)) (.ite (.freeSeg s (he p hp)) (.offer false s (he p hp)))

theorem Rehomes.departHead {Q : Nat → Prop} (s : State) : Rehomes Q s s.departHead := by
  unfold State.departHead
  split
  · exact .refl s
  · next e rest hentries =>
    have hrest : Rehomes Q s { s with timeline := { s.timeline with entries := rest } } :=
      .withTimeline s fun x hx p hphys _ => ⟨x, by rw [hentries]; exact List.mem_cons_of_mem _ hx, hphys⟩
    have hon := Rehomes.handOn (Q := fun p => e.phys = some p) { s with timeline := { s.timeline with entries := rest } } (e := e) fun _ h => h
    refine ⟨fun p => (hon.core p).trans (hrest.core p), fun p hp hs => ?_, fun i => (hrest.hears i).trans (hon.hears i)⟩
    obtain ⟨ht, hseg⟩ := hrest.spared p hp hs
    obtain ⟨hu, hseg'⟩ := hon.spared p (hs.1 e (by rw [hentries]; exact List.mem_cons_self)) ht
    exact ⟨hu, hseg'.trans hseg⟩

theorem Rehomes.departDue {Q : Nat → Prop} (n : Nat) (s : State) : Rehomes Q s (State.departDue n s) := by
  induction n generalizing s with
  | zero => exact .refl s
  | succ n ih =>
    unfold State.departDue
    split
    · exact .refl s
    · exact .ite ((Rehomes.departHead s).trans (ih _)) (.refl s)

theorem Rehomes.settle {Q : Nat → Prop} (s : State) : Rehomes Q s s.settle := (Rehomes.departDue ..).trans (.pruneSpent _)

/-! ### Appending (R64, R73) -/

theorem Rehomes.modifyEntry {Q : Nat → Prop} (s : State) (x : Word) {f : TimelineEntry → TimelineEntry} (hf : ∀ e, (f e).phys = e.phys) :
    Rehomes Q s (s.modifyEntry x f) := by
  refine .withTimeline s fun e he p hphys _ => ?_
  obtain ⟨e0, he0, rfl⟩ := List.mem_map.mp he
  refine ⟨e0, he0, ?_⟩
  split at hphys
  · exact (hf e0).symm.trans hphys
  · exact hphys

theorem Rehomes.markWithheld {Q : Nat → Prop} (s : State) (i : Fin 4) (x : Word) : Rehomes Q s (s.markWithheld i x) := by
  unfold State.markWithheld
  split
  · exact .refl s
  · exact .modifyEntry s x fun _ => rfl

theorem State.markWithheld_taps (s : State) (i : Fin 4) (x : Word) : (s.markWithheld i x).taps = s.taps := by
  unfold State.markWithheld
  split <;> rfl

theorem Rehomes.dragTap {Q : Nat → Prop} (h : Word) (s : State) (i : Fin 4) : Rehomes Q s (State.dragTap h s i) := by
  unfold State.dragTap
  refine .ite ((Rehomes.markWithheld ..).trans (.setTap ?_)) (.refl s)
  have htap : (s.markWithheld i h).tap i = s.tap i := congrArg (fun v : PerTap Tap => v.get i) (State.markWithheld_taps ..)
  rw [htap]
  exact ⟨rfl, rfl, .raise _ _⟩

theorem Rehomes.forceDepart {Q : Nat → Prop} (s : State) : Rehomes Q s s.forceDepart := by
  unfold State.forceDepart
  split
  · exact .refl s
  · exact ((Rehomes.foldl (.dragTap _) _ s).trans (.departHead _)).trans (.pruneSpent _)

theorem Rehomes.pushEntry {Q : Nat → Prop} (s : State) {e : TimelineEntry} (he : ∀ p, e.phys = some p → Q p) : Rehomes Q s (s.pushEntry e) := by
  refine .withTimeline s fun x hx p hphys hp => ?_
  rw [List.mem_append, List.mem_singleton] at hx
  obtain hx | rfl := hx
  · exact ⟨x, hx, hphys⟩
  · exact absurd (he p hphys) hp

theorem Rehomes.append {Q : Nat → Prop} (s : State) {e : TimelineEntry} (he : ∀ p, e.phys = some p → Q p) : Rehomes Q s (s.append e) := by
  unfold State.append
  have hforced : Rehomes Q s (if Config.timelineCapacity ≤ s.timeline.entries.length then s.forceDepart else s) :=
    .ite (.forceDepart s) (.refl s)
  exact .ite ((hforced.trans (.pushEntry _ he)).trans (.settle _)) (hforced.trans (.pushEntry _ he))

theorem Rehomes.appendRun {Q : Nat → Prop} (s : State) (run : List GapCause) : Rehomes Q s (s.appendRun run) :=
  .foldl (fun s _ => .append s fun _ h => nomatch h) run s

end Sys2Proof.Machine

/-! SUPPORT. Answers to capture writes while nothing is ready to commit (R35, R36). -/

namespace Sys2Proof.Machine

/-- A counted fault leaves of a segment record its count, at most one higher, and the requests outstanding on it. -/
theorem State.countFault_record {s : State} {p : Nat} {g : Segment} (h : s.seg? p = some g) :
    ∃ g', (s.countFault p).seg? p = some g' ∧ g'.counted = true ∧ g'.outstanding = g.outstanding ∧
      g'.faults = if g.counted then g.faults else min (g.faults + 1) 7 := by
  cases hcounted : g.counted with
  | true =>
    rw [State.countFault_of_counted h hcounted]
    exact ⟨g, h, hcounted, rfl, rfl⟩
  | false =>
    rw [State.countFault_of_uncounted h hcounted]
    have hset := State.seg?_setSeg_same (s := s) (g.faulted s.store.config.faultThreshold) h
    split
    · refine ⟨{ g.faulted s.store.config.faultThreshold with state := .retired }, ?_, rfl, rfl, rfl⟩
      rw [State.retire_rest]
      show (State.modifySeg _ p _).seg? p = _
      rw [State.modifySeg_eq _ hset]
      exact State.seg?_setSeg_same _ hset
    · exact ⟨_, hset, rfl, rfl, rfl⟩

/-- The count of faults and the requests outstanding are part of the core of a record. -/
theorem Segment.of_core_eq {g g' : Segment} (h : g'.core = g.core) :
    g'.faults = g.faults ∧ g'.retirePending = g.retirePending ∧ g'.counted = g.counted ∧ g'.pins = g.pins ∧ g'.outstanding = g.outstanding := by
  unfold Segment.core at h
  simp only [Segment.mk.injEq] at h
  obtain ⟨_, hfaults, hpending, hcounted, hpins, hout, _⟩ := h
  exact ⟨hfaults, hpending, hcounted, hpins, hout⟩

theorem Rehomes.seg_of {Q : Nat → Prop} {s t : State} (h : Rehomes Q s t) {p : Nat} {g : Segment} (hg : s.seg? p = some g) :
    ∃ g', t.seg? p = some g' ∧ g'.core = g.core := by
  have hcore := h.core p
  rw [hg, Option.map_some] at hcore
  exact Option.map_eq_some_iff.mp hcore

/-! ### The answer at the capture unit -/

theorem exec_captureWriteResponse_of_answers {s : State} {a : LinkResponse} {m : MRequest} {p : Nat} (hanswers : s.answers a = some m)
    (huse : m.use = .captureWrite p) :
    exec (.captureWriteResponse a) s = .next (((s.returnForwarded m a).lowerOutstanding p).captureAnswer p a.status).refreshTally := by
  have hexec : exec (.captureWriteResponse a) s = execCaptureWriteResponse a s := rfl
  rw [hexec, execCaptureWriteResponse, hanswers]
  dsimp only
  rw [huse]

theorem Context.takeAnswer_carries (p : Nat) (status : LinkStatus) (c : Context) : (c.takeAnswer p status).carries = c.carries := rfl

/-- A state with the contexts answered has nothing to commit when the oldest carrying context is not ready by the answer. -/
theorem State.noneReady_of_answered {s t : State} {p : Nat} {status : LinkStatus}
    (ht : t.capture.contexts = s.capture.contexts.map (Context.takeAnswer p status))
    (h : ∀ c, s.capture.contexts.find? (fun c => c.state != .discard) = some c → c.state = .completeWaiting →
      ∀ b, (c.takeAnswer p status).body = some b → 0 < b.writesOut) : t.noneReady := by
  intro c hc hstate b hb
  rw [ht, find?_map_self (Context.takeAnswer_carries p status)] at hc
  obtain ⟨c0, hc0, rfl⟩ := Option.map_eq_some_iff.mp hc
  exact h c0 hc0 hstate b hb

theorem State.captureAnswer_of_ok {s : State} {p : Nat} (h : (s.setContexts (s.capture.contexts.map (Context.takeAnswer p .ok))).noneReady) :
    s.captureAnswer p .ok = s.setContexts (s.capture.contexts.map (Context.takeAnswer p .ok)) := State.commitReady_of_noneReady h

theorem State.captureAnswer_of_fault {s : State} {p : Nat}
    (h : (((s.setContexts (s.capture.contexts.map (Context.takeAnswer p .fault))).countFault p).settle).noneReady) :
    s.captureAnswer p .fault = ((s.setContexts (s.capture.contexts.map (Context.takeAnswer p .fault))).countFault p).settle :=
  State.commitReady_of_noneReady h

/-- Settles O37: the answer returns, and with nothing ready the capture unit and the pool take it and no more. -/
theorem captureAnswersReturnToTheProcessor : Obligations.CaptureAnswersReturnToTheProcessor := by
  intro s a m p tag hfind hop huse hdraining htag answered
  have hanswers : s.answers a = some m := State.answers_eq_some hfind hdraining fun h => by rw [hop] at h; cases h
  have hreturned := State.returnForwarded_eq s a htag
  have hinner := Inner.captureAnswer ((s.returnForwarded m a).lowerOutstanding p) p a.status
  have hwrite : (if m.op = .read then a.data else []) = [] := if_neg (by rw [hop]; decide)
  have hcapture : ((s.returnForwarded m a).lowerOutstanding p).capture = s.capture := congrArg (·.capture) hreturned
  refine ⟨_, exec_captureWriteResponse_of_answers hanswers huse, ?_, hinner.startUp.trans (congrArg (·.startUp) hreturned), rfl,
    fun hquiet => ?_⟩
  · rw [State.refreshTally_link, hinner.link, State.lowerOutstanding_link, hreturned, hwrite]
  · have hanswered : answered = Context.takeAnswer p a.status := rfl
    rw [hanswered] at hquiet ⊢
    have hready {t : State} (ht : t.capture.contexts = s.capture.contexts.map (Context.takeAnswer p a.status)) : t.noneReady :=
      State.noneReady_of_answered ht hquiet
    have hsegs : ((s.returnForwarded m a).lowerOutstanding p).pool =
        { s.pool with segs := s.pool.segs.modify p fun sp => { sp with outstanding := sp.outstanding - 1 } } := by
      rw [State.lowerOutstanding_pool, hreturned]
    cases hstatus : a.status with
    | ok =>
      rw [hstatus] at hready
      rw [State.captureAnswer_of_ok (hready (by rw [← hcapture]; rfl))]
      refine ⟨?_, fun _ => ?_, fun h => nomatch h⟩
      · rw [State.refreshTally_capture, ← hcapture]
        rfl
      · rw [hreturned, hwrite]
        rfl
    | fault =>
      rw [hstatus] at hready
      have hsame (u : State) : ((u.countFault p).settle).capture = u.capture := ((Interior.countFault u p).trans (.settle _)).capture
      rw [State.captureAnswer_of_fault (hready (by rw [hsame, ← hcapture]; rfl))]
      refine ⟨?_, fun h => (nomatch h), fun _ sp hsp => ?_⟩
      · rw [State.refreshTally_capture, hsame, ← hcapture]
        rfl
      · have hlowered : ((s.returnForwarded m a).lowerOutstanding p).seg? p = some { sp with outstanding := sp.outstanding - 1 } := by
          unfold State.seg?
          rw [hsegs]
          show (s.pool.segs.modify p _)[p]? = _
          rw [List.getElem?_modify_eq, show s.pool.segs[p]? = some sp from hsp]
          rfl
        obtain ⟨g1, hg1, hcounted, hout, hfaults⟩ := State.countFault_record
          (s := ((s.returnForwarded m a).lowerOutstanding p).setContexts
            (((s.returnForwarded m a).lowerOutstanding p).capture.contexts.map (Context.takeAnswer p .fault))) hlowered
        obtain ⟨g2, hg2, hcore⟩ := (Rehomes.settle (Q := fun _ => False) _).seg_of hg1
        obtain ⟨hfaults', _, hcounted', _, hout'⟩ := Segment.of_core_eq hcore
        exact ⟨g2, hg2, hcounted'.trans hcounted, hout'.trans hout, hfaults'.trans hfaults⟩

end Sys2Proof.Machine

/-! SUPPORT. Every command, edit and capture operation keeps the latched events of the taps, and only a control entry's own result changes what a
tap reports and counts (R159, R172). -/

namespace Sys2Proof.Machine

/-- Every tap keeps its events, its report and its count of commands. -/
structure HearAll (s t : State) : Prop where
  tap : ∀ i, Hears (s.tap i) (t.tap i)

theorem HearAll.refl (s : State) : HearAll s s := ⟨fun _ => .refl _⟩

theorem HearAll.trans {s t u : State} (h : HearAll s t) (k : HearAll t u) : HearAll s u := ⟨fun i => (h.tap i).trans (k.tap i)⟩

theorem HearAll.ite {s t u : State} {c : Prop} [Decidable c] (h : HearAll s t) (k : HearAll s u) : HearAll s (if c then t else u) := by
  split <;> assumption

theorem HearAll.foldl {α : Type} {f : State → α → State} (h : ∀ s x, HearAll s (f s x)) (l : List α) (s : State) : HearAll s (l.foldl f s) := by
  induction l generalizing s with
  | nil => exact .refl s
  | cons x l ih => exact (h s x).trans (ih _)

theorem HearAll.of_taps {s t : State} (h : t.taps = s.taps) : HearAll s t := ⟨fun i => by
  have htap : t.tap i = s.tap i := congrArg (fun v : PerTap Tap => v.get i) h
  rw [htap]
  exact .refl _⟩

theorem HearAll.withEdits (s : State) (es : List Edit) : HearAll s { s with edits := es } := .of_taps rfl

theorem HearAll.pruneSpent (s : State) : HearAll s s.pruneSpent := .withEdits s _

theorem HearAll.withRecords (s : State) (rs : List SegmentRecord) :
    HearAll s { s with quarantine := { s.quarantine with records := rs } } := .of_taps rfl

theorem Eased.hearAll {s t : State} (h : Eased s t) : HearAll s t := ⟨h.hears⟩

theorem HearAll.raiseAll (s : State) (e : Event) : HearAll s (s.raiseAll e) := (Eased.raiseAll s e).hearAll

theorem HearAll.raiseUnless (s : State) (quiet : Bool) (e : Event) : HearAll s (s.raiseUnless quiet e) := (Eased.raiseUnless s quiet e).hearAll

theorem HearAll.settle (s : State) : HearAll s s.settle := (Eased.settle s).hearAll

theorem HearAll.freeSeg (s : State) (p : Nat) : HearAll s (s.freeSeg p) := (Eased.freeSeg s p).hearAll

theorem HearAll.appendRun (s : State) (run : List GapCause) : HearAll s (s.appendRun run) :=
  ⟨(Rehomes.appendRun (Q := fun _ => False) s run).hears⟩

/-! ### Edits (R85, R88, R94) -/

theorem HearAll.raiseLate (new : Edit) (s : State) (i : Fin 4) : HearAll s (State.raiseLate new s i) := by
  unfold State.raiseLate State.raiseTap State.modifyTap
  exact .ite ⟨(Rehomes.setTap (Q := fun _ => False) (.raise _ _)).hears⟩ (.refl s)

theorem HearAll.tookRange (s : State) (new : Edit) (es : List Edit) : HearAll s (s.tookRange new es) := by
  unfold State.tookRange
  exact ((HearAll.withEdits s es).trans (.foldl (.raiseLate new) _ _)).trans (.pruneSpent _)

theorem HearAll.present (s : State) (n : Word) (cutOk : Bool) : HearAll s (s.present n cutOk) := by
  unfold State.present
  dsimp only
  exact (((HearAll.withEdits s _).trans (.raiseUnless ..)).trans (.raiseUnless ..)).trans (.pruneSpent _)

theorem HearAll.mark (s : State) (kind : EditKind) (m : BitVec 4) (count : Nat) (q : Word) : HearAll s (s.mark kind m count q).1 := by
  unfold State.mark
  dsimp only
  split
  · exact .refl s
  · split
    · exact .refl s
    · split
      · exact .refl s
      · exact (HearAll.raiseUnless ..).trans (.tookRange ..)

theorem HearAll.cancelEdit (s : State) (id : Nat) : HearAll s (s.cancelEdit id).1 := by
  unfold State.cancelEdit
  split
  · exact .refl s
  · split
    · exact .refl s
    · exact .of_taps rfl

/-! ### Commands (chapter 9) -/

/-- Taps of a mask controlled so that they keep what they hear. -/
theorem HearAll.withControls {s : State} {f : TapSettings → Tap → Tap} (hf : ∀ c x, Hears x (f c x)) (m : BitVec 4) (w : PerTap TapSettings) :
    HearAll s (s.withControls w (.of fun i => if hasTap m i then f (s.settings i) (s.tap i) else s.tap i)) := ⟨fun i => by
  rw [State.tap_withControls]
  split
  · exact hf ..
  · exact .refl _⟩

theorem Tap.hears_on (x : Tap) (policy : StartPolicy) (edge : Word) (c : TapSettings) : Hears x (x.bare.on policy edge c) := ⟨rfl, rfl, .refl x⟩

theorem Tap.hears_off (x : Tap) : Hears x x.off := by
  unfold Tap.off
  split
  · exact ⟨rfl, rfl, .refl x⟩
  · exact .refl x

theorem HearAll.switches {s : State} {e : ControlEntry} {w : TapSettings → TapSettings} {f : TapSettings → Tap → Tap} {u : State}
    (h : Switches s e w f u) (hf : ∀ c x, Hears x (f c x)) : HearAll s (runCommand s e).1 := by
  rw [h.run]
  exact (HearAll.withControls hf e.taps _).trans h.eased.hearAll

theorem HearAll.cmdClearCounters (s : State) (e : ControlEntry) : HearAll s (cmdClearCounters s e).1 := by
  by_cases htaps : e.taps = 0#4
  · unfold Sys2Proof.Machine.cmdClearCounters
    rw [if_pos htaps]
    exact .refl s
  · rw [cmdClearCounters_eq htaps]
    exact HearAll.withControls (f := fun _ x => { x with dropped := 0, repeats := 0, shed := 0, stepErrors := 0 })
      (fun _ x => ⟨rfl, rfl, .refl x⟩) e.taps s.store.config.taps

theorem HearAll.cmdSetTarget (s : State) (e : ControlEntry) : HearAll s (cmdSetTarget s e).1 := by
  by_cases htaps : e.taps = 0#4
  · unfold Sys2Proof.Machine.cmdSetTarget
    rw [if_pos htaps]
    exact .refl s
  · rw [cmdSetTarget_eq htaps]
    exact HearAll.withControls (f := fun _ x => { x with dt := min e.argA.toNat s.dmax, clampFlag := false }) (fun _ x => ⟨rfl, rfl, .refl x⟩) e.taps _

theorem HearAll.cmdSetPacer (s : State) (e : ControlEntry) : HearAll s (cmdSetPacer s e).1 := by
  by_cases htaps : e.taps = 0#4
  · unfold Sys2Proof.Machine.cmdSetPacer
    rw [if_pos htaps]
    exact .refl s
  · rw [cmdSetPacer_eq htaps rfl rfl]
    exact HearAll.withControls (f := fun _ x => { x with acc := 0 }) (fun _ x => ⟨rfl, rfl, .refl x⟩) e.taps _

theorem HearAll.cmdRelease (s : State) (e : ControlEntry) : HearAll s (cmdRelease s e).1 := by
  unfold Sys2Proof.Machine.cmdRelease
  split
  · exact ((HearAll.withRecords s _).trans
      (.foldl (fun s (r : SegmentRecord) => .freeSeg s r.phys) _ _)).trans (.settle _)
  · exact .refl s
  · exact .refl s

theorem HearAll.takeTestable (s : State) (cursor stop : Nat) : HearAll s (s.takeTestable cursor stop) := by
  unfold State.takeTestable
  split
  · exact .of_taps rfl
  · have hended : HearAll s (s.setPattern none) := .of_taps rfl
    exact hended.trans (.raiseAll ..)

theorem HearAll.cmdPatternTest (s : State) (e : ControlEntry) : HearAll s (cmdPatternTest s e).1 := by
  unfold Sys2Proof.Machine.cmdPatternTest
  dsimp only
  split
  · exact .refl s
  · split
    · exact .refl s
    · exact .takeTestable ..

theorem HearAll.cmdLock (s : State) : HearAll s (cmdLock s).1 := by
  unfold Sys2Proof.Machine.cmdLock
  split <;> exact .of_taps rfl

theorem HearAll.cmdUnlock (s : State) : HearAll s (cmdUnlock s).1 := by
  unfold Sys2Proof.Machine.cmdUnlock
  split <;> exact .of_taps rfl

theorem HearAll.cmdSaveConfig (s : State) : HearAll s (cmdSaveConfig s).1 := by
  unfold Sys2Proof.Machine.cmdSaveConfig
  split <;> exact .of_taps rfl

theorem HearAll.cmdCommitRetire (s : State) : HearAll s (cmdCommitRetire s).1 := by
  unfold Sys2Proof.Machine.cmdCommitRetire
  split <;> exact .of_taps rfl

theorem HearAll.cmdSetGeometry (s : State) (e : ControlEntry) : HearAll s (cmdSetGeometry s e).1 := by
  unfold Sys2Proof.Machine.cmdSetGeometry
  split <;> exact .of_taps rfl

theorem HearAll.runCommand (s : State) (e : ControlEntry) : HearAll s (runCommand s e).1 := by
  have hcode {n : Nat} (h : e.code.toNat = n) (hn : n < 256) : e.code = BitVec.ofNat 8 n := BitVec.eq_of_toNat_eq (by
    rw [h, BitVec.toNat_ofNat, Nat.mod_eq_of_lt hn])
  by_cases hon : e.code = 0x01#8
  · by_cases htaps : e.taps = 0#4
    · rw [runCommand_no_taps (.inl hon) htaps]; exact .refl s
    · obtain ⟨u, hu⟩ := switches_on (s := s) hon htaps
      exact .switches hu fun c x => x.hears_on ..
  by_cases hoff : e.code = 0x02#8
  · by_cases htaps : e.taps = 0#4
    · rw [runCommand_no_taps (.inr (.inl hoff)) htaps]; exact .refl s
    · obtain ⟨u, hu⟩ := switches_off (s := s) hoff htaps
      exact .switches hu fun _ x => x.hears_off
  unfold Sys2Proof.Machine.runCommand
  split
  · next h => exact absurd (hcode h (by decide)) hon
  · next h => exact absurd (hcode h (by decide)) hoff
  · exact .cmdSetTarget s e
  · exact .cmdSetPacer s e
  · exact .mark ..
  · exact .mark ..
  · exact .cancelEdit ..
  · exact .of_taps rfl
  · exact .of_taps rfl
  · exact .of_taps rfl
  · exact .of_taps rfl
  · exact .of_taps rfl
  · exact .cmdClearCounters s e
  · exact .cmdLock s
  · exact .of_taps rfl
  · exact .cmdUnlock s
  · exact .cmdRelease s e
  · exact .refl s
  · exact .cmdCommitRetire s
  · exact .cmdSaveConfig s
  · exact .cmdSetGeometry s e
  · exact .cmdPatternTest s e
  · exact .refl s

/-! ### Control entries (R158, R159) -/

/-- A control entry that is not empty leaves the taps as hearing ones to which its result is reported. -/
theorem State.executeEntry_tap (q : Word) (s : State) (e : ControlEntry) (hcode : e.code ≠ 0#8) :
    ∃ u r, HearAll s u ∧ ∀ i, (State.executeEntry q s e).tap i = (u.tap i).takeResult e.code q r := by
  refine ⟨(if guarded e.code ∧ s.guardStep ≠ 4 then (s, CmdResult.refusedGuard) else Sys2Proof.Machine.runCommand s e).1,
    (if guarded e.code ∧ s.guardStep ≠ 4 then (s, CmdResult.refusedGuard) else Sys2Proof.Machine.runCommand s e).2, ?_, fun i => ?_⟩
  · split
    · exact .refl s
    · exact .runCommand s e
  · unfold State.executeEntry
    rw [if_neg hcode]
    exact PerTap.get_map ..

/-- The commands that a tap has counted go up by one at each entry that is not empty. -/
theorem State.executeEntry_executed (q : Word) (s : State) (e : ControlEntry) (i : Fin 4) :
    ((State.executeEntry q s e).tap i).executed = if e.code = 0#8 then (s.tap i).executed else min ((s.tap i).executed + 1) 255 := by
  by_cases hcode : e.code = 0#8
  · rw [if_pos hcode, State.executeEntry, if_pos hcode]
  · obtain ⟨u, r, hu, htap⟩ := s.executeEntry_tap q e hcode
    rw [if_neg hcode, htap i, ← (hu.tap i).executed]
    rfl

theorem State.executeEntry_latchKept (q : Word) (s : State) (e : ControlEntry) (i : Fin 4) :
    LatchKept (s.tap i) ((State.executeEntry q s e).tap i) := by
  by_cases hcode : e.code = 0#8
  · rw [State.executeEntry, if_pos hcode]
    exact .refl _
  · obtain ⟨u, r, hu, htap⟩ := s.executeEntry_tap q e hcode
    rw [htap i]
    exact (hu.tap i).latch

theorem State.executeEntries_latchKept (s : State) (q : Word) (es : List ControlEntry) (i : Fin 4) :
    LatchKept (s.tap i) ((s.executeEntries q es).tap i) := by
  unfold State.executeEntries
  induction es generalizing s with
  | nil => exact .refl _
  | cons e es ih => exact (s.executeEntry_latchKept q e i).trans (ih _)

/-- Each entry that is not empty is counted in every tap. -/
theorem State.executeEntries_executed (s : State) (q : Word) (es : List ControlEntry) (i : Fin 4) (h : (s.tap i).executed ≤ 255) :
    ((s.executeEntries q es).tap i).executed = min 255 ((s.tap i).executed + (es.filter fun e => e.code != 0#8).length) := by
  unfold State.executeEntries
  induction es generalizing s with
  | nil => exact (Nat.min_eq_right h).symm
  | cons e es ih =>
    have hone := s.executeEntry_executed q e i
    rw [List.foldl_cons]
    by_cases hcode : e.code = 0#8
    · rw [if_pos hcode] at hone
      rw [ih _ (hone ▸ h), hone, List.filter_cons_of_neg (by rw [hcode]; decide)]
    · rw [if_neg hcode] at hone
      rw [ih _ (by omega), hone, List.filter_cons_of_pos (p := fun e : ControlEntry => e.code != 0#8) (bne_iff_ne.mpr hcode), List.length_cons]
      omega

end Sys2Proof.Machine

/-! SUPPORT. Contexts that are displaced, and what a header write and a commit leave in the taps' latches (R27, R28, R36, R161). -/

namespace Sys2Proof.Machine

/-! ### Latches through the capture unit -/

theorem HearAll.carryRun (s : State) (older : List Context) (run : List GapCause) : HearAll s (s.carryRun older run) := by
  unfold State.carryRun
  split <;> exact .of_taps rfl

theorem HearAll.setContexts (s : State) (cs : List Context) : HearAll s (s.setContexts cs) := .of_taps rfl

theorem HearAll.displace (s : State) (k : Nat) : HearAll s (s.displace k) := by
  unfold State.displace
  split
  · exact .refl s
  · dsimp only
    split
    · exact .setContexts ..
    · exact ((((HearAll.setContexts s _).trans (.raiseAll ..)).trans (.carryRun ..)).trans (.freeSeg ..)).trans (.settle _)

theorem HearAll.makeRoom (s : State) (k : Nat) : HearAll s (s.makeRoom k) := by
  unfold State.makeRoom
  dsimp only
  split
  · exact (HearAll.displace s k).trans (.displace ..)
  · exact .displace s k

theorem HearAll.modifyEntry (s : State) (pi : Word) (f : TimelineEntry → TimelineEntry) : HearAll s (s.modifyEntry pi f) := .of_taps rfl

theorem HearAll.takeSegment (s : State) (p : Nat) : HearAll s (s.takeSegment p) := .of_taps rfl

theorem HearAll.evictFor (s : State) (e : TimelineEntry) : HearAll s (s.evictFor e).1 := by
  unfold State.evictFor
  split
  · exact .refl s
  · exact ((HearAll.modifyEntry s _ _).trans (.freeSeg ..)).trans (.takeSegment ..)

theorem HearAll.allocate (s : State) : HearAll s s.allocate.1 := by
  unfold State.allocate
  split
  · exact .of_taps rfl
  · unfold State.relieve
    split
    · exact (((HearAll.withRecords s _).trans (.raiseAll ..)).trans (.freeSeg ..)).trans (.takeSegment ..)
    · split
      · exact (HearAll.raiseAll s _).trans (.evictFor ..)
      · split
        · dsimp only
          split
          · exact (HearAll.raiseAll s _).trans (.evictFor ..)
          · exact ((HearAll.raiseAll s _).trans (.raiseAll ..)).trans (.evictFor ..)
        · exact .refl s

theorem HearAll.forwardWrite (s : State) (g : Geometry) (f : InFlight) (p off : Nat) : HearAll s (s.forwardWrite g f p off) := .of_taps rfl

theorem HearAll.openDiscard (s : State) (k : Nat) : HearAll s (s.openDiscard k) := .of_taps rfl

theorem HearAll.absorbWrite (s : State) (f : InFlight) : HearAll s (s.absorbWrite f) := .of_taps rfl

theorem HearAll.openContext (s : State) (g : Geometry) (f : InFlight) (k : Nat) (h : CaptureHeader) (lead : List GapCause) :
    HearAll s (s.openContext g f k h lead) := by
  unfold State.openContext
  dsimp only
  split
  · exact ((HearAll.allocate s).trans (.setContexts ..)).trans (.forwardWrite ..)
  · exact ((((HearAll.allocate s).trans (.raiseAll ..)).trans (.carryRun ..)).trans (.openDiscard ..)).trans (.absorbWrite ..)

theorem HearAll.acceptSequence (s : State) (q : Word) (event : Option Event) : HearAll s (s.acceptSequence q event) := by
  have hmoved : HearAll s { s with capture := { s.capture with expected := some (q + 1#32) } } := .of_taps rfl
  unfold State.acceptSequence
  cases event with
  | none => exact hmoved
  | some e => exact hmoved.trans (.raiseAll ..)

theorem HearAll.readHeader (s : State) (g : Geometry) (f : InFlight) (k : Nat) : HearAll s (s.readHeader g f k) := by
  have hdiscard (e : Event) : HearAll s (((s.raiseAll e).openDiscard k).absorbWrite f) :=
    ((HearAll.raiseAll s e).trans (.openDiscard ..)).trans (.absorbWrite ..)
  unfold State.readHeader
  split
  · exact hdiscard _
  · split
    · exact .openContext ..
    · split
      · exact hdiscard _
      · exact (HearAll.acceptSequence s _ _).trans (.openContext ..)

/-! ### Latches through a commit (R36 to R41) -/

theorem HearAll.latchCheck (s : State) (b : ContextBody) : HearAll s (s.latchCheck b) := .ite (.refl s) (.raiseAll ..)

theorem HearAll.appendLead (s : State) (b : ContextBody) : HearAll s (s.appendLead b) := by
  have hemptied : HearAll s { s with capture := { s.capture with pendingRun := [] } } := .of_taps rfl
  exact hemptied.trans (.appendRun ..)

theorem HearAll.modifySeg (s : State) (p : Nat) (f : Segment → Segment) : HearAll s (s.modifySeg p f) := .of_taps rfl

theorem HearAll.append (s : State) (e : TimelineEntry) : HearAll s (s.append e) := ⟨(Rehomes.append (Q := fun p => e.phys = some p) s fun _ h => h).hears⟩

theorem HearAll.freeOpt (s : State) (p : Option Nat) : HearAll s (s.freeOpt p) := by
  cases p with
  | none => exact .refl s
  | some p => exact .freeSeg s p

theorem HearAll.setMaskImage (s : State) (b : ContextBody) : HearAll s (s.setMaskImage b) := .of_taps rfl

theorem HearAll.commitMask (s : State) (b : ContextBody) : HearAll s (s.commitMask b) :=
  .ite (((HearAll.setMaskImage s b).trans (.freeOpt ..)).trans (.settle _)) ((HearAll.freeSeg s _).trans (.settle _))

theorem HearAll.commitSegment (s : State) (b : ContextBody) : HearAll s (s.commitSegment b) := by
  unfold State.commitSegment
  split
  · exact ((HearAll.modifySeg s _ _).trans (.append ..)).trans (.present ..)
  · exact .commitMask s b
  · exact (HearAll.freeSeg s _).trans (.settle _)

theorem State.commitBody_latchKept (s : State) (b : ContextBody) (i : Fin 4) : LatchKept (s.tap i) ((s.commitBody b).tap i) := by
  have hbefore := ((HearAll.latchCheck s b).trans (.appendLead _ b)).trans (.commitSegment _ b)
  have hran := State.executeEntries_latchKept (((s.latchCheck b).appendLead b).commitSegment b) b.header.seq b.header.controls i
  exact ((hbefore.tap i).latch.trans hran).trans ((HearAll.appendRun _ b.trailingRun).tap i).latch

theorem State.commitNext_latchKept {s t : State} (h : s.commitNext = some t) (i : Fin 4) : LatchKept (s.tap i) (t.tap i) := by
  obtain ⟨c, b, -, -, -, -, rfl⟩ := State.commitNext_eq_some h
  exact ((HearAll.setContexts s _).tap i).latch.trans (State.commitBody_latchKept _ b i)

theorem State.headerWrite_latchKept (s : State) (g : Geometry) (f : InFlight) (k : Nat) (i : Fin 4) :
    LatchKept ((s.makeRoom k).tap i) ((s.headerWrite g f k).tap i) :=
  State.commitReady_induct (P := fun v => LatchKept ((s.makeRoom k).tap i) (v.tap i)) ((HearAll.readHeader ..).tap i).latch
    fun _ _ h ht => h.trans (State.commitNext_latchKept ht i)

/-! ### The context that goes (R27, R28) -/

/-- Of the open contexts the one between `older` and `younger` is found by its slot. -/
theorem find_slot {older younger : List Context} {gone : Context} (h : ((older ++ gone :: younger).map (·.slot)).Nodup) :
    (older ++ gone :: younger).find? (fun c => c.slot == gone.slot) = some gone ∧
      (older ++ gone :: younger).takeWhile (fun c => c.slot != gone.slot) = older ∧
      (older ++ gone :: younger).filter (fun c => c.slot != gone.slot) = older ++ younger := by
  rw [List.map_append, List.map_cons, List.nodup_append, List.nodup_cons] at h
  obtain ⟨_, ⟨hyounger, _⟩, hdisjoint⟩ := h
  have hold (c : Context) (hc : c ∈ older) : c.slot ≠ gone.slot := hdisjoint _ (List.mem_map_of_mem hc) _ List.mem_cons_self
  have hyoung (c : Context) (hc : c ∈ younger) : c.slot ≠ gone.slot := fun heq => hyounger (heq ▸ List.mem_map_of_mem hc)
  refine ⟨?_, ?_, ?_⟩
  · rw [List.find?_append, List.find?_eq_none.mpr fun c hc => by rw [beq_iff_eq]; exact hold c hc, Option.none_or,
      List.find?_cons_of_pos (p := fun c : Context => c.slot == gone.slot) (beq_self_eq_true _)]
  · rw [List.takeWhile_append_of_pos fun c hc => bne_iff_ne.mpr (hold c hc), List.takeWhile_cons_of_neg (by simp), List.append_nil]
  · rw [List.filter_append, List.filter_eq_self.mpr fun c hc => bne_iff_ne.mpr (hold c hc), List.filter_cons_of_neg (by simp),
      List.filter_eq_self.mpr fun c hc => bne_iff_ne.mpr (hyoung c hc)]

section Gone

variable {s : State} {older younger : List Context} {gone : Context}

theorem State.displace_of_discard (hs : s.contextsFit) (hcontexts : s.capture.contexts = older ++ gone :: younger) (hbody : gone.body = none) :
    s.displace gone.slot = s.setContexts (older ++ younger) := by
  obtain ⟨_, hslots, _⟩ := hs
  obtain ⟨hfind, _, hfilter⟩ := find_slot (hcontexts ▸ hslots)
  unfold State.displace
  rw [hcontexts, hfind]
  dsimp only
  rw [hbody, hfilter]

/-- The run carried on by an abandoned context, with the other contexts. -/
def State.abandoning (s : State) (older younger : List Context) (run : List GapCause) : State :=
  { s.raiseAll .abandoned with
    capture :=
      { s.capture with
        contexts := (older.map fun (c : Context) => if c.state = .discard then c else c.trail run) ++ younger
        pendingRun := s.capture.pendingRun ++ if older.any (fun c => c.state != .discard) then [] else run } }

theorem State.displace_of_body (hs : s.contextsFit) (hcontexts : s.capture.contexts = older ++ gone :: younger) {b : ContextBody}
    (hbody : gone.body = some b) :
    s.displace gone.slot = ((s.abandoning older younger b.abandonedRun).freeSeg b.phys).settle := by
  obtain ⟨hlength, hslots, _⟩ := hs
  obtain ⟨hfind, hwhile, hfilter⟩ := find_slot (hcontexts ▸ hslots)
  have hdisjoint : ∀ o ∈ older, ∀ y ∈ younger, y.slot ≠ o.slot := fun o ho y hy heq => by
    rw [hcontexts, List.map_append, List.nodup_append] at hslots
    obtain ⟨_, _, hapart⟩ := hslots
    exact hapart _ (List.mem_map_of_mem ho) _ (List.mem_map_of_mem (List.mem_cons_of_mem _ hy)) heq.symm
  have hshort : older.length ≤ 1 := by
    rw [hcontexts, List.length_append, List.length_cons] at hlength
    omega
  have hcarried := State.carryRun_eq (s := (s.setContexts (older ++ younger)).raiseAll .abandoned) b.abandonedRun hshort rfl hdisjoint
  unfold State.displace
  rw [hcontexts, hfind]
  dsimp only
  rw [hbody, hwhile, hfilter]
  dsimp only
  rw [hcarried]
  rfl

/-- The context on the slot goes, or with none there the oldest of two. -/
theorem State.makeRoom_of_gone {k : Nat} (hs : s.contextsFit) (hcontexts : s.capture.contexts = older ++ gone :: younger)
    (hgone : gone.slot = k ∨ (older = [] ∧ younger ≠ [] ∧ ∀ c ∈ s.capture.contexts, c.slot ≠ k)) : s.makeRoom k = s.displace gone.slot := by
  obtain ⟨hlength, hslots, _⟩ := hs
  obtain rfl | ⟨rfl, hyounger, hnone⟩ := hgone
  · refine State.makeRoom_of_short ?_
    obtain ⟨_, _, hfilter⟩ := find_slot (hcontexts ▸ hslots)
    have hlen := congrArg List.length (s.displace_shapes gone.slot)
    rw [List.length_map, List.length_map, hcontexts, hfilter, List.length_append] at hlen
    rw [hcontexts, List.length_append, List.length_cons] at hlength
    omega
  · obtain ⟨y, rest, rfl⟩ := List.exists_cons_of_ne_nil hyounger
    unfold State.makeRoom
    rw [State.displace_of_not_open hnone]
    dsimp only
    rw [hcontexts]
    rfl

theorem State.makeRoom_slots (k : Nat) (hs : s.contextsFit) :
    (s.makeRoom k).capture.contexts.map (·.slot) =
      if 2 ≤ ((s.capture.contexts.map (·.slot)).filter (· ≠ k)).length then ((s.capture.contexts.map (·.slot)).filter (· ≠ k)).drop 1
      else (s.capture.contexts.map (·.slot)).filter (· ≠ k) := by
  have hfirst : (s.displace k).capture.contexts.map (·.slot) = (s.capture.contexts.map (·.slot)).filter (· ≠ k) :=
    (s.displace_slots k).trans (List.filter_congr fun x _ => by rw [Bool.eq_iff_iff, bne_iff_ne, decide_eq_true_iff])
  have hnodup : ((s.displace k).capture.contexts.map (·.slot)).Nodup := hfirst ▸ hs.2.1.filter _
  rw [← hfirst, List.length_map]
  unfold State.makeRoom
  dsimp only
  split
  · next c d rest hcontexts =>
    rw [if_pos (by rw [hcontexts, List.length_cons, List.length_cons]; omega), State.displace_slots, hcontexts, List.map_cons, List.drop_one,
      List.tail_cons, List.filter_cons_of_neg (by simp), List.filter_eq_self]
    rw [hcontexts, List.map_cons, List.nodup_cons] at hnodup
    exact fun x hx => bne_iff_ne.mpr fun heq => hnodup.1 (heq ▸ hx)
  · next hcontexts =>
    rw [if_neg]
    intro hlength
    match h : (s.displace k).capture.contexts with
    | [] => rw [h] at hlength; exact absurd hlength (by decide)
    | [c] => rw [h] at hlength; exact absurd hlength (by simp)
    | c :: d :: rest => exact hcontexts c d rest h

end Gone

theorem State.displace_kept (s : State) (k : Nat) :
    (s.displace k).capture.expected = s.capture.expected ∧ (s.displace k).guardStep = s.guardStep := by
  have hcarry (u : State) (older : List Context) (run : List GapCause) :
      (u.carryRun older run).capture.expected = u.capture.expected ∧ (u.carryRun older run).guardStep = u.guardStep := by
    unfold State.carryRun
    split <;> exact ⟨rfl, rfl⟩
  unfold State.displace
  split
  · exact ⟨rfl, rfl⟩
  · dsimp only
    split
    · exact ⟨rfl, rfl⟩
    · have hfreed := fun u p => (Interior.freeSeg u p).trans (.settle _)
      exact ⟨(congrArg CaptureUnit.expected (hfreed _ _).capture).trans (hcarry ..).1, (hfreed _ _).guardStep.trans (hcarry ..).2⟩

theorem State.makeRoom_kept (s : State) (k : Nat) :
    (s.makeRoom k).capture.expected = s.capture.expected ∧ (s.makeRoom k).guardStep = s.guardStep := by
  obtain ⟨hexpected, hguard⟩ := s.displace_kept k
  unfold State.makeRoom
  dsimp only
  split
  · next c _ _ _ =>
    obtain ⟨hexpected', hguard'⟩ := (s.displace k).displace_kept c.slot
    exact ⟨hexpected'.trans hexpected, hguard'.trans hguard⟩
  · exact ⟨hexpected, hguard⟩

end Sys2Proof.Machine

/-! SUPPORT. What stays of the open contexts and of the gap runs when a header write opens its own context (R28, R31), and displaced
contexts. -/

namespace Sys2Proof.Machine

theorem Context.trail_nil (c : Context) : c.trail [] = c := by
  obtain ⟨slot, state, body⟩ := c
  cases body with
  | none => rfl
  | some b =>
    unfold Context.trail
    rw [Option.map_some, List.append_nil]

/-- In `t` the contexts of `u` stand with gap causes added to their trailing runs, and the pending run of `u` has gap causes added. -/
structure Trails (u t : State) (added : List Context) : Prop where
  contexts : ∃ run : Context → List GapCause, t.capture.contexts = (u.capture.contexts.map fun c => c.trail (run c)) ++ added
  pending : ∃ more, t.capture.pendingRun = u.capture.pendingRun ++ more

theorem Trails.of_capture {u t : State} {cs : List Context} (hcontexts : t.capture.contexts = u.capture.contexts ++ cs)
    (hpending : t.capture.pendingRun = u.capture.pendingRun) : Trails u t cs where
  contexts := ⟨fun _ => [], by rw [hcontexts]; simp only [Context.trail_nil, List.map_id']⟩
  pending := ⟨[], by rw [hpending, List.append_nil]⟩

theorem Trails.carryRun (s : State) (older : List Context) (run : List GapCause) : Trails s (s.carryRun older run) [] := by
  unfold State.carryRun
  split
  · next o _ =>
    refine ⟨⟨fun c => if c.slot = o.slot then run else [], ?_⟩, ⟨[], (List.append_nil _).symm⟩⟩
    rw [List.append_nil]
    refine List.map_congr_left fun c _ => ?_
    dsimp only
    by_cases hslot : c.slot = o.slot
    · rw [if_pos hslot, if_pos hslot]
    · rw [if_neg hslot, if_neg hslot]
      exact c.trail_nil.symm
  · exact ⟨⟨fun _ => [], by simp only [Context.trail_nil, List.map_id', List.append_nil]⟩, ⟨run, rfl⟩⟩

/-- Two states with the same contexts and the same pending run are met by the same trails. -/
theorem Trails.of_eq {u u' t t' : State} {cs ds : List Context} (h : Trails u t cs) (hcontexts : u.capture.contexts = u'.capture.contexts)
    (hpending : u.capture.pendingRun = u'.capture.pendingRun) (hadded : t'.capture.contexts = t.capture.contexts ++ ds)
    (hsame : t'.capture.pendingRun = t.capture.pendingRun) : Trails u' t' (cs ++ ds) := by
  obtain ⟨⟨run, hrun⟩, ⟨more, hmore⟩⟩ := h
  refine ⟨⟨run, ?_⟩, ⟨more, ?_⟩⟩
  · rw [hadded, hrun, ← hcontexts, List.append_assoc]
  · rw [hsame, hmore, hpending]

theorem Trails.openContext {u s : State} (hu : s.capture.contexts = u.capture.contexts ∧ s.capture.pendingRun = u.capture.pendingRun)
    (g : Geometry) (f : InFlight) (k : Nat) (h : CaptureHeader) (lead : List GapCause) :
    ∃ c, Trails u (s.openContext g f k h lead) [c] ∧ ∀ b, c.body = some b → 0 < b.writesOut := by
  obtain ⟨hcontexts, hpending⟩ := hu
  have hcapture := (Interior.allocate s).capture
  unfold State.openContext
  dsimp only
  split
  · next p _ =>
    refine ⟨_, .of_capture (by rw [← hcontexts, ← hcapture]; rfl) (by rw [← hpending, ← hcapture]; rfl), fun b hb => ?_⟩
    cases hb
    exact Nat.one_pos
  · refine ⟨_, Trails.of_eq (ds := [_]) (.carryRun (s.allocate.1.raiseAll .captureLost) _ _) ?_ ?_ rfl rfl, fun b hb => nomatch hb⟩
    · rw [← hcontexts, ← hcapture]
      rfl
    · rw [← hpending, ← hcapture]
      rfl

theorem Trails.readHeader (u : State) (g : Geometry) (f : InFlight) (k : Nat) :
    ∃ c, Trails u (u.readHeader g f k) [c] ∧ ∀ b, c.body = some b → 0 < b.writesOut := by
  have hdiscard (e : Event) : ∃ c, Trails u (((u.raiseAll e).openDiscard k).absorbWrite f) [c] ∧ ∀ b, c.body = some b → 0 < b.writesOut :=
    ⟨{ slot := k, state := .discard, body := none }, .of_capture rfl rfl, fun b hb => nomatch hb⟩
  unfold State.readHeader
  split
  · exact hdiscard .headerBad
  · next h _ =>
    split
    · exact Trails.openContext ⟨rfl, rfl⟩ g f k h []
    · split
      · exact hdiscard .seqDup
      · next lead event _ =>
        rw [State.acceptSequence_eq]
        exact Trails.openContext (u := u) (s := u.accepting (some (h.seq + 1#32)) event) ⟨rfl, rfl⟩ g f k h lead

/-- A header write with room keeps the runs and the other contexts, and commits nothing. -/
theorem State.readHeader_noneReady {u : State} {k : Nat} (hroom : u.roomFor k) (g : Geometry) (f : InFlight) :
    (u.readHeader g f k).noneReady := by
  obtain ⟨c, ⟨⟨run, hrun⟩, -⟩, hc⟩ := Trails.readHeader u g f k
  refine State.noneReady_of_opened hroom ⟨fun c => c.trail (run c), fun x => ⟨rfl, fun b hb => ?_⟩, hrun⟩ hc
  obtain ⟨b0, hb0, rfl⟩ := Option.map_eq_some_iff.mp hb
  exact ⟨b0, hb0, rfl⟩

/-- Displacing a context with a body latches ABANDONED in every tap. -/
theorem State.displace_abandoned {s : State} {older younger : List Context} {gone : Context} {b : ContextBody} (hs : s.contextsFit)
    (hcontexts : s.capture.contexts = older ++ gone :: younger) (hbody : gone.body = some b) (i : Fin 4) :
    ((s.displace gone.slot).tap i).latch.getLsbD 14 = true := by
  rw [State.displace_of_body hs hcontexts hbody]
  refine (((HearAll.freeSeg (s.abandoning older younger b.abandonedRun) b.phys).trans (.settle _)).tap i).latch 14 ?_
  have htap : (s.abandoning older younger b.abandonedRun).tap i = (s.tap i).raise .abandoned := PerTap.get_map ..
  rw [htap]
  exact Tap.raise_latched _ .abandoned

theorem State.freeSeg_unnamed {s : State} {q : Nat} (p : Nat) (h : s.Unnamed q) : (s.freeSeg p).Unnamed q := by
  unfold State.Unnamed
  rw [State.freeSeg_timeline, State.freeSeg_quarantine]
  exact h

theorem State.settle_seg? {s : State} {p : Nat} (h : s.Unnamed p) : s.settle.seg? p = s.seg? p :=
  ((Rehomes.settle (Q := fun _ => False) s).spared p id h).2

/-- The record of a segment that a rule freed (R46). -/
def Segment.freed (g : Segment) : Segment := { g with state := if g.retirePending then .retired else .free, departure := none }

theorem State.freeSeg_settle_seg? {s : State} {p : Nat} {g : Segment} (hg : s.seg? p = some g) (hunnamed : s.Unnamed p) :
    (s.freeSeg p).settle.seg? p = some g.freed := by
  rw [State.settle_seg? (State.freeSeg_unnamed p hunnamed)]
  exact State.freeSeg_seg?_same hg

/-- A segment that nothing names is freed when its context is displaced. -/
theorem State.displace_freed {s : State} {older younger : List Context} {gone : Context} {b : ContextBody} {g : Segment} (hs : s.contextsFit)
    (hcontexts : s.capture.contexts = older ++ gone :: younger) (hbody : gone.body = some b) (hg : s.seg? b.phys = some g)
    (hunnamed : s.Unnamed b.phys) : (s.displace gone.slot).seg? b.phys = some g.freed := by
  rw [State.displace_of_body hs hcontexts hbody]
  exact State.freeSeg_settle_seg? (s := s.abandoning older younger b.abandonedRun) hg hunnamed

/-- Settles O33: room is made by one displacement, and a header write is a header read on the state with that room. -/
theorem displacedContextsCarryTheirRun : Obligations.DisplacedContextsCarryTheirRun := by
  refine ⟨fun s k hs => ?_, fun s k older younger gone hs hcontexts hgone => ?_, ?_⟩
  · obtain ⟨hexpected, hguard⟩ := s.makeRoom_kept k
    exact ⟨State.makeRoom_slots k hs, hexpected, hguard, fun i => ((HearAll.makeRoom s k).tap i).executed,
      fun hnone hshort => State.makeRoom_of_room hshort hnone⟩
  · have hmade := State.makeRoom_of_gone hs hcontexts hgone
    refine ⟨fun hbody => hmade.trans (State.displace_of_discard hs hcontexts hbody), fun b hbody => ?_⟩
    intro run
    have hlatched : ∀ i, ((s.makeRoom k).tap i).latch.getLsbD 14 = true := hmade ▸ State.displace_abandoned hs hcontexts hbody
    refine ⟨?_, hlatched, fun g hg htimeline hrecords => ?_, fun tag g f hwrite => ?_⟩
    · rw [hmade, State.displace_of_body hs hcontexts hbody, (Interior.settle _).capture, (Interior.freeSeg ..).capture]
      rfl
    · rw [hmade]
      exact State.displace_freed hs hcontexts hbody hg ⟨htimeline, hrecords⟩
    · exact ⟨_, exec_headerWriteArrival_of_captureWrite hwrite, fun i => s.headerWrite_latchKept g f k i 14 (hlatched i)⟩
  · intro s tag g f k hwrite hs u
    have hmade : u = s.makeRoom k := rfl
    clear_value u
    obtain ⟨_, hshort, hnot⟩ := State.makeRoom_contexts k hs
    rw [← hmade] at hshort hnot
    have hslot (c : Context) (hc : c ∈ u.capture.contexts) : c.slot ≠ k := fun h => hnot (h ▸ List.mem_map_of_mem hc)
    have hroomy : u.makeRoom k = u := State.makeRoom_of_room hshort hslot
    have hwrite' : u.captureWrite tag = some (g, f, k, 0) := by
      unfold State.captureWrite State.arriving State.entry at hwrite ⊢
      rw [hmade, (Inner.makeRoom s k).link]
      exact hwrite
    refine ⟨?_, fun hready => ?_⟩
    · rw [exec_headerWriteArrival_of_captureWrite hwrite, exec_headerWriteArrival_of_captureWrite hwrite']
      unfold State.headerWrite
      rw [hroomy, hmade]
    · have hroom : u.roomFor k := ⟨hshort, fun c hc => ⟨hslot c hc, hready c hc⟩⟩
      have hexec := exec_headerWriteArrival_of_captureWrite hwrite
      unfold State.headerWrite at hexec
      rw [← hmade, State.commitReady_of_noneReady (State.readHeader_noneReady hroom g f)] at hexec
      obtain ⟨c', ⟨⟨run, hrun⟩, hpending⟩, -⟩ := Trails.readHeader u g f k
      refine ⟨hroom, _, hexec, hpending, fun c hc => ⟨c.trail (run c), ?_, rfl, rfl, fun b hb => ⟨run c, ?_⟩⟩⟩
      · show c.trail (run c) ∈ (u.readHeader g f k).capture.contexts
        rw [hrun]
        exact List.mem_append_left _ (List.mem_map_of_mem (f := fun c => Context.trail (run c) c) hc)
      · unfold Context.trail
        rw [hb]
        rfl

end Sys2Proof.Machine

/-! SUPPORT. No command, presentation or append replaces the mask image (R55). -/

namespace Sys2Proof.Machine

/-- The mask image and its audio length stay as they are. -/
structure MaskKept (s t : State) : Prop where
  image : t.pool.maskImage = s.pool.maskImage
  lmask : t.pool.lmask = s.pool.lmask

theorem MaskKept.refl (s : State) : MaskKept s s := ⟨rfl, rfl⟩

theorem MaskKept.trans {s t u : State} (h : MaskKept s t) (k : MaskKept t u) : MaskKept s u :=
  ⟨k.image.trans h.image, k.lmask.trans h.lmask⟩

theorem Interior.maskKept {s t : State} (h : Interior s t) : MaskKept s t := by
  refine ⟨?_, ?_⟩
  · rw [h.pool]
  · rw [h.pool]

theorem MaskKept.switched {s : State} {l : List (Fin 4)} {f : State → Fin 4 → State} (h : ∀ s i, Interior s (f s i)) :
    MaskKept s (l.foldl f s).settle := ((Interior.foldl h l s).trans (.settle _)).maskKept

theorem MaskKept.takeTestable (s : State) (cursor stop : Nat) : MaskKept s (s.takeTestable cursor stop) := by
  unfold State.takeTestable
  split <;> exact ⟨rfl, rfl⟩

theorem MaskKept.cmdRelease (s : State) (e : ControlEntry) : MaskKept s (cmdRelease s e).1 := by
  unfold Sys2Proof.Machine.cmdRelease
  split
  · exact MaskKept.trans (t := { s with quarantine := { s.quarantine with records := s.quarantine.records.drop e.argA.toNat } }) ⟨rfl, rfl⟩
      ((Interior.foldl (fun s (r : SegmentRecord) => .freeSeg s r.phys) ..).trans (.settle _)).maskKept
  · exact .refl s
  · exact .refl s

theorem MaskKept.runCommand (s : State) (e : ControlEntry) : MaskKept s (runCommand s e).1 := by
  unfold Sys2Proof.Machine.runCommand
  split
  · unfold cmdTapOn
    split
    · exact .refl s
    · exact .switched fun s t => (Interior.setSettings s t _).trans (.tapOn ..)
  · unfold cmdTapOff
    split
    · exact .refl s
    · exact .switched fun s t => (Interior.setSettings s t _).trans (.tapOff ..)
  · unfold cmdSetTarget
    split
    · exact .refl s
    · exact (Interior.foldl (fun s t => (Interior.setSettings s t _).trans (.modifyTap ..)) ..).maskKept
  · unfold cmdSetPacer
    split
    · exact .refl s
    · exact (Interior.foldl (fun s t => (Interior.setSettings s t _).trans (.modifyTap ..)) ..).maskKept
  · exact (Interior.mark ..).maskKept
  · exact (Interior.mark ..).maskKept
  · exact (Interior.cancelEdit ..).maskKept
  · exact ⟨rfl, rfl⟩
  · exact ⟨rfl, rfl⟩
  · exact ⟨rfl, rfl⟩
  · exact ⟨rfl, rfl⟩
  · exact ⟨rfl, rfl⟩
  · unfold cmdClearCounters
    split
    · exact .refl s
    · exact (Interior.foldl (fun s t => Interior.modifyTap s t _) ..).maskKept
  · unfold cmdLock
    split <;> exact ⟨rfl, rfl⟩
  · exact ⟨rfl, rfl⟩
  · unfold cmdUnlock
    split <;> exact ⟨rfl, rfl⟩
  · exact .cmdRelease s e
  · exact .refl s
  · unfold cmdCommitRetire
    split <;> exact ⟨rfl, rfl⟩
  · unfold cmdSaveConfig
    split <;> exact ⟨rfl, rfl⟩
  · unfold cmdSetGeometry
    split <;> exact ⟨rfl, rfl⟩
  · unfold cmdPatternTest
    dsimp only
    split
    · exact .refl s
    · split
      · exact .refl s
      · exact .takeTestable ..
  · exact .refl s

theorem MaskKept.executeEntry (q : Word) (s : State) (e : ControlEntry) : MaskKept s (State.executeEntry q s e) := by
  unfold State.executeEntry
  split
  · exact .refl s
  · dsimp only
    split
    · exact ⟨rfl, rfl⟩
    · exact (MaskKept.runCommand s e).trans ⟨rfl, rfl⟩

theorem MaskKept.executeEntries (s : State) (q : Word) (es : List ControlEntry) : MaskKept s (s.executeEntries q es) := by
  unfold State.executeEntries
  induction es generalizing s with
  | nil => exact .refl s
  | cons e es ih => exact (MaskKept.executeEntry q s e).trans (ih _)

end Sys2Proof.Machine

/-! SUPPORT. Entries that join a timeline with room (R64), and the state in which a commit has delivered its segment (R36 to R41). -/

namespace Sys2Proof.Machine

/-! ### The floor (R69) and appending with room (R64) -/

/-- With an active tap the floor is that of any state with the same bounds. -/
theorem State.floor_congr {s t : State} (h : ∀ i, (t.tap i).active = (s.tap i).active ∧ (t.tap i).bound = (s.tap i).bound)
    (hactive : ∃ i, (s.tap i).active = true) : t.floor = s.floor := by
  have hsame : t.activeTaps = s.activeTaps := List.filter_congr fun i _ => (h i).1
  obtain ⟨i, hi⟩ := hactive
  have hmem := (State.mem_activeTaps _ i).mpr hi
  have hbound : (fun j => (t.tap j).bound) = fun j => (s.tap j).bound := funext fun j => (h j).2
  unfold State.floor State.lowestBound
  rw [hsame]
  cases hlist : s.activeTaps with
  | nil =>
    rw [hlist] at hmem
    cases hmem
  | cons j rest =>
    show rest.foldl (fun b u => serialMin b ((fun j => (t.tap j).bound) u)) ((fun j => (t.tap j).bound) j) = _
    rw [hbound]

theorem State.append_of_room {s : State} (e : TimelineEntry) (hactive : ∃ i, (s.tap i).active = true) (hroom : s.timeline.entries.length < 4096) :
    s.append e = s.pushEntry e := by
  obtain ⟨i, hi⟩ := hactive
  have hnot : ¬ Config.timelineCapacity ≤ s.timeline.entries.length := Nat.not_le.mpr hroom
  have hsome : ¬ (s.pushEntry e).activeTaps.isEmpty = true := fun h => by
    have hmem : i ∈ (s.pushEntry e).activeTaps := (State.mem_activeTaps _ i).mpr hi
    rw [List.isEmpty_iff.mp h] at hmem
    cases hmem
  unfold State.append
  dsimp only
  rw [if_neg hnot, if_neg hsome]

/-- The gap entries of a run that is appended from PI `n` on. -/
def gapEntries (run : List GapCause) (n : Word) : List TimelineEntry :=
  run.zipIdx.map fun x => { gapEntry x.1 with pi := n + BitVec.ofNat 32 x.2 }

theorem gapEntries_cons (c : GapCause) (run : List GapCause) (n : Word) :
    gapEntries (c :: run) n = { gapEntry c with pi := n } :: gapEntries run (n + 1#32) := by
  unfold gapEntries
  rw [List.zipIdx_cons', List.map_cons, List.map_map]
  refine List.cons_eq_cons.mpr ⟨congrArg (fun pi => { gapEntry c with pi := pi }) (BitVec.add_zero n), List.map_congr_left fun x _ => ?_⟩
  have hshift : n + BitVec.ofNat 32 (x.2 + 1) = n + 1#32 + BitVec.ofNat 32 x.2 := by
    rw [BitVec.ofNat_add, BitVec.add_assoc, BitVec.add_comm 1#32]
  exact congrArg (fun pi => { gapEntry x.1 with pi := pi }) hshift

theorem State.appendRun_of_room {s : State} (run : List GapCause) (hactive : ∃ i, (s.tap i).active = true)
    (hroom : s.timeline.entries.length + run.length ≤ 4096) :
    s.appendRun run =
      { s with timeline :=
          { entries := s.timeline.entries ++ gapEntries run s.timeline.nextPi
            nextPi := s.timeline.nextPi + BitVec.ofNat 32 run.length } } := by
  unfold State.appendRun
  induction run generalizing s with
  | nil =>
    rw [List.foldl_nil, List.length_nil, BitVec.add_zero]
    show s = { s with timeline := { s.timeline with entries := s.timeline.entries ++ [] } }
    rw [List.append_nil]
  | cons c run ih =>
    rw [List.length_cons] at hroom
    have hlength : (s.pushEntry (gapEntry c)).timeline.entries.length = s.timeline.entries.length + 1 := List.length_append
    have hnext : s.timeline.nextPi + 1#32 + BitVec.ofNat 32 run.length = s.timeline.nextPi + BitVec.ofNat 32 (run.length + 1) := by
      rw [BitVec.ofNat_add, BitVec.add_assoc, BitVec.add_comm 1#32]
    rw [List.foldl_cons, State.append_of_room _ hactive (by omega), ih (s := s.pushEntry (gapEntry c)) hactive (by omega), gapEntries_cons,
      List.length_cons, ← hnext]
    show { s with timeline := _ } = _
    rw [List.append_cons]
    rfl

/-! ### Readiness (R36) -/

/-- The first context that is not a DISCARD one commits when it is ready. -/
theorem State.commitNext_of_ready {s : State} {older younger : List Context} {c : Context} {b : ContextBody}
    (hcontexts : s.capture.contexts = older ++ c :: younger) (hslots : (s.capture.contexts.map (·.slot)).Nodup)
    (holder : ∀ d ∈ older, d.state = .discard) (hstate : c.state = .completeWaiting) (hbody : c.body = some b) (hout : b.writesOut = 0) :
    s.commitNext = some ((s.setContexts (older ++ younger)).commitBody b) := by
  obtain ⟨_, _, hfilter⟩ := find_slot (hcontexts ▸ hslots)
  have hfind : s.capture.contexts.find? Context.carries = some c := by
    rw [hcontexts, List.find?_append, List.find?_eq_none.mpr fun d hd => by unfold Context.carries; rw [holder d hd]; decide, Option.none_or,
      List.find?_cons_of_pos (by unfold Context.carries; rw [hstate]; rfl)]
  unfold State.commitNext
  rw [hfind]
  dsimp only
  rw [hstate, hbody]
  dsimp only
  rw [if_pos hout, hcontexts, hfilter]

theorem State.commitNext_of_discards {s : State} (h : ∀ d ∈ s.capture.contexts, d.state = .discard) : s.commitNext = none :=
  State.commitNext_eq_none fun c hc hstate => by
    rw [h c (List.mem_of_find?_eq_some hc)] at hstate
    cases hstate

/-! ### What a commit delivers (R37 to R41) -/

/-- The state in which the gap causes stand in the timeline and the segment has taken the place that its KIND gives it; only then is the
entry of a PROGRAM presented, and the control entries execute. -/
def State.delivered (s : State) (b : ContextBody) : State :=
  match b.header.kind with
  | .program => (((s.latchCheck b).appendLead b).modifySeg b.phys fun g => { g with state := .live }).append b.entry
  | .maskSource => ((s.latchCheck b).appendLead b).commitMask b
  | .controlOnly => (((s.latchCheck b).appendLead b).freeSeg b.phys).settle

/-- The entry of a PROGRAM that was delivered is presented. -/
def State.presented (s : State) (h : CaptureHeader) : State := if h.kind = .program then s.present s.liveEdge h.cutOk else s

theorem State.commitBody_eq (s : State) (b : ContextBody) :
    s.commitBody b = (((s.delivered b).presented b.header).executeEntries b.header.seq b.header.controls).appendRun b.trailingRun := by
  unfold State.commitBody State.commitSegment State.delivered State.presented
  cases b.header.kind <;> rfl

theorem ContextBody.passes_iff (b : ContextBody) :
    b.passes = true ↔ b.coherence = .clean ∧ b.faultSeen = false ∧ ~~~ b.running = b.header.check := by
  unfold ContextBody.passes crcFinal
  rw [Bool.and_eq_true, Bool.and_eq_true, beq_iff_eq, beq_iff_eq, Bool.not_eq_true', and_assoc]

theorem State.appendLead_guardStep (s : State) (b : ContextBody) : (s.appendLead b).guardStep = s.guardStep :=
  (Interior.appendRun { s with capture := { s.capture with pendingRun := [] } } (s.capture.pendingRun ++ b.leadRun)).guardStep

theorem State.commitMask_guardStep (s : State) (b : ContextBody) : (s.commitMask b).guardStep = s.guardStep := by
  unfold State.commitMask
  split
  · exact ((Interior.freeOpt (s.setMaskImage b) s.pool.maskImage).trans (.settle _)).guardStep
  · exact ((Interior.freeSeg s b.phys).trans (.settle _)).guardStep

theorem State.delivered_guardStep (s : State) (b : ContextBody) : (s.delivered b).guardStep = s.guardStep := by
  have hlead : ((s.latchCheck b).appendLead b).guardStep = s.guardStep :=
    (State.appendLead_guardStep ..).trans (Interior.latchCheck s b).guardStep
  unfold State.delivered
  split
  · exact ((Interior.modifySeg ((s.latchCheck b).appendLead b) b.phys _).trans (.append ..)).guardStep.trans hlead
  · exact (State.commitMask_guardStep ..).trans hlead
  · exact ((Interior.freeSeg ((s.latchCheck b).appendLead b) b.phys).trans (.settle _)).guardStep.trans hlead

theorem State.delivered_capture (s : State) (b : ContextBody) : (s.delivered b).capture = { s.capture with pendingRun := [] } := by
  have hcommit := State.commitBody_capture s b
  rw [State.commitBody_eq, (Interior.appendRun ..).capture, State.executeEntries_capture] at hcommit
  unfold State.presented at hcommit
  split at hcommit
  · rw [(Interior.present ..).capture] at hcommit
    exact hcommit
  · exact hcommit

theorem Inner.delivered (s : State) (b : ContextBody) : Inner s (s.delivered b) := by
  have hlead := (Interior.latchCheck s b).inner.trans (Inner.appendLead (s.latchCheck b) b)
  unfold State.delivered
  split
  · exact hlead.trans ((Interior.modifySeg ..).trans (.append ..)).inner
  · exact hlead.trans (.commitMask ..)
  · exact hlead.trans ((Interior.freeSeg ..).trans (.settle _)).inner

theorem HearAll.delivered (s : State) (b : ContextBody) : HearAll s (s.delivered b) := by
  have hlead := (HearAll.latchCheck s b).trans (.appendLead _ b)
  unfold State.delivered
  split
  · exact (hlead.trans (.modifySeg ..)).trans (.append ..)
  · exact hlead.trans (.commitMask ..)
  · exact (hlead.trans (.freeSeg ..)).trans (.settle _)

theorem HearAll.presented (s : State) (h : CaptureHeader) : HearAll s (s.presented h) := .ite (.present ..) (.refl s)

/-- A FAIL of a PROGRAM or MASK_SOURCE is latched. -/
theorem State.delivered_latched {s : State} {b : ContextBody} (hkind : b.header.kind ≠ .controlOnly) (hfail : b.passes = false) (i : Fin 4) :
    ((s.delivered b).tap i).latch.getLsbD 6 = true := by
  have hraised : s.latchCheck b = s.raiseAll .captureCheckFail :=
    if_neg fun h => h.elim hkind fun hpass => by rw [hfail] at hpass; cases hpass
  have hfirst : ((s.latchCheck b).tap i).latch.getLsbD 6 = true := by
    rw [hraised, State.tap_raiseAll]
    exact Tap.raise_latched _ .captureCheckFail
  have hlead := (HearAll.appendLead (s.latchCheck b) b)
  have hrest : HearAll (s.latchCheck b) (s.delivered b) := by
    unfold State.delivered
    split
    · exact (hlead.trans (.modifySeg ..)).trans (.append ..)
    · exact hlead.trans (.commitMask ..)
    · exact (hlead.trans (.freeSeg ..)).trans (.settle _)
  exact (hrest.tap i).latch 6 hfirst

theorem MaskKept.lead (s : State) (b : ContextBody) : MaskKept s ((s.latchCheck b).appendLead b) := by
  have hemptied : MaskKept (s.latchCheck b) { s.latchCheck b with capture := { (s.latchCheck b).capture with pendingRun := [] } } := ⟨rfl, rfl⟩
  exact ((Interior.latchCheck s b).maskKept.trans hemptied).trans (Interior.appendRun ..).maskKept

/-- A passing MASK_SOURCE becomes the mask image. -/
theorem State.delivered_image {s : State} {b : ContextBody} (hkind : b.header.kind = .maskSource) (hpass : b.passes = true) :
    (s.delivered b).pool.maskImage = some b.phys ∧ (s.delivered b).pool.lmask = b.header.la := by
  have hmask := ((Interior.freeOpt (((s.latchCheck b).appendLead b).setMaskImage b) ((s.latchCheck b).appendLead b).pool.maskImage).trans
    (.settle _)).maskKept
  unfold State.delivered State.commitMask
  rw [hkind, if_pos hpass]
  exact ⟨hmask.image, hmask.lmask⟩

theorem MaskKept.delivered {s : State} {b : ContextBody} (h : b.header.kind ≠ .maskSource ∨ b.passes = false) : MaskKept s (s.delivered b) := by
  have hlead := MaskKept.lead s b
  unfold State.delivered
  split
  · exact hlead.trans ((Interior.modifySeg ..).trans (.append ..)).maskKept
  · next hkind =>
    unfold State.commitMask
    rw [if_neg fun hpass => h.elim (fun hk => hk hkind) fun hfail => by rw [hfail] at hpass; cases hpass]
    exact hlead.trans ((Interior.freeSeg ..).trans (.settle _)).maskKept
  · exact hlead.trans ((Interior.freeSeg ..).trans (.settle _)).maskKept

theorem MaskKept.rest (s : State) (b : ContextBody) :
    MaskKept (s.delivered b) ((((s.delivered b).presented b.header).executeEntries b.header.seq b.header.controls).appendRun b.trailingRun) := by
  have hpresented : MaskKept (s.delivered b) ((s.delivered b).presented b.header) := by
    unfold State.presented
    split
    · exact (Interior.present ..).maskKept
    · exact .refl _
  exact (hpresented.trans (.executeEntries ..)).trans (Interior.appendRun ..).maskKept

end Sys2Proof.Machine

/-! SUPPORT. The timeline and the segments that a commit delivers, and the commits that an answer brings (R36 to R41). -/

namespace Sys2Proof.Machine

theorem State.latchCheck_active (s : State) (b : ContextBody) (i : Fin 4) :
    ((s.latchCheck b).tap i).active = (s.tap i).active ∧ ((s.latchCheck b).tap i).bound = (s.tap i).bound := by
  unfold State.latchCheck
  split
  · exact ⟨rfl, rfl⟩
  · rw [State.tap_raiseAll]
    exact ⟨rfl, rfl⟩

/-- With room the pending run and the lead run stand at the live end, as gap entries. -/
theorem State.lead_of_room {s : State} {b : ContextBody} (hactive : ∃ i, (s.tap i).active = true)
    (hroom : s.timeline.entries.length + (s.capture.pendingRun ++ b.leadRun).length ≤ 4096) :
    (s.latchCheck b).appendLead b =
      { s.latchCheck b with
        capture := { s.capture with pendingRun := [] }
        timeline :=
          { entries := s.timeline.entries ++ gapEntries (s.capture.pendingRun ++ b.leadRun) s.timeline.nextPi
            nextPi := s.timeline.nextPi + BitVec.ofNat 32 (s.capture.pendingRun ++ b.leadRun).length } } := by
  obtain ⟨i, hi⟩ := hactive
  have hactive' : ∃ i, ((s.latchCheck b).tap i).active = true := ⟨i, ((s.latchCheck_active b i).1).trans hi⟩
  have hsame : (s.latchCheck b).timeline = s.timeline ∧ (s.latchCheck b).capture = s.capture := by
    unfold State.latchCheck
    split <;> exact ⟨rfl, rfl⟩
  obtain ⟨htimeline, hcapture⟩ := hsame
  rw [← hcapture, ← htimeline] at hroom
  unfold State.appendLead
  rw [State.appendRun_of_room (s := { s.latchCheck b with capture := { (s.latchCheck b).capture with pendingRun := [] } }) _ hactive' hroom,
    hcapture, htimeline]

/-- The settling after a segment was freed departs nothing while the head is not below the floor. -/
theorem State.settle_timeline {s t : State} (htimeline : t.timeline = s.timeline)
    (htaps : ∀ i, (t.tap i).active = (s.tap i).active ∧ (t.tap i).bound = (s.tap i).bound) (hactive : ∃ i, (s.tap i).active = true)
    (hfloor : ∀ x rest, s.timeline.entries = x :: rest → serialLt x.pi s.floor = false) : t.settle.timeline = s.timeline := by
  have hsame := State.floor_congr htaps hactive
  rw [State.settle_of_not_due fun x rest hx => hsame ▸ hfloor x rest (htimeline ▸ hx)]
  exact htimeline

theorem Frees.bounds {s t : State} (h : Frees s t) (i : Fin 4) : (t.tap i).active = (s.tap i).active ∧ (t.tap i).bound = (s.tap i).bound := by
  rw [h.tap i]
  exact ⟨rfl, rfl⟩

theorem Frees.freeOpt (s : State) (p : Option Nat) : Frees s (s.freeOpt p) := by
  cases p with
  | none => exact .refl s
  | some p => exact .freeSeg s p

/-- A commit of no PROGRAM appends its gap causes only, when there is room and the head is not below the floor. -/
theorem State.delivered_timeline {s : State} {b : ContextBody} (hkind : b.header.kind ≠ .program) (hactive : ∃ i, (s.tap i).active = true)
    (hroom : s.timeline.entries.length + (s.capture.pendingRun ++ b.leadRun).length ≤ 4096) {e : TimelineEntry} {rest : List TimelineEntry}
    (hhead : s.timeline.entries = e :: rest) (hfloor : serialLt e.pi s.floor = false) :
    (s.delivered b).timeline =
      { entries := s.timeline.entries ++ gapEntries (s.capture.pendingRun ++ b.leadRun) s.timeline.nextPi
        nextPi := s.timeline.nextPi + BitVec.ofNat 32 (s.capture.pendingRun ++ b.leadRun).length } := by
  have hlead := State.lead_of_room hactive hroom
  have hsame : ((s.latchCheck b).appendLead b).floor = s.floor := by
    rw [hlead]
    exact State.floor_congr (t := { s.latchCheck b with capture := _, timeline := _ }) (s.latchCheck_active b) hactive
  have hdue : ∀ x xs, ((s.latchCheck b).appendLead b).timeline.entries = x :: xs →
      serialLt x.pi ((s.latchCheck b).appendLead b).floor = false := fun x xs hx => by
    rw [hlead, hhead, List.cons_append] at hx
    rw [hsame, ← (List.cons.inj hx).1]
    exact hfloor
  have hactive' : ∃ i, (((s.latchCheck b).appendLead b).tap i).active = true := by
    obtain ⟨i, hi⟩ := hactive
    exact ⟨i, by rw [hlead]; exact ((s.latchCheck_active b i).1).trans hi⟩
  have hsettled {t : State} (h : Frees ((s.latchCheck b).appendLead b) t) : t.settle.timeline = ((s.latchCheck b).appendLead b).timeline :=
    State.settle_timeline h.timeline h.bounds hactive' hdue
  have hall : (s.delivered b).timeline = ((s.latchCheck b).appendLead b).timeline := by
    unfold State.delivered
    split
    · next hprogram => exact absurd hprogram hkind
    · unfold State.commitMask
      split
      · have hfreed := Frees.freeOpt (((s.latchCheck b).appendLead b).setMaskImage b) ((s.latchCheck b).appendLead b).pool.maskImage
        exact State.settle_timeline hfreed.timeline hfreed.bounds hactive' hdue
      · exact hsettled (.freeSeg ..)
    · exact hsettled (.freeSeg ..)
  rw [hall, hlead]

/-- With room the entry of a PROGRAM joins the timeline behind its gap causes, and its segment is LIVE. -/
theorem State.delivered_program {s : State} {b : ContextBody} (hkind : b.header.kind = .program) (hactive : ∃ i, (s.tap i).active = true)
    (hroom : s.timeline.entries.length + (s.capture.pendingRun ++ b.leadRun).length < 4096) :
    s.delivered b =
      { s with
        capture := { s.capture with pendingRun := [] }
        timeline :=
          { entries := s.timeline.entries ++ gapEntries (s.capture.pendingRun ++ b.leadRun) s.timeline.nextPi ++
              [{ b.entry with pi := s.timeline.nextPi + BitVec.ofNat 32 (s.capture.pendingRun ++ b.leadRun).length }]
            nextPi := s.timeline.nextPi + BitVec.ofNat 32 ((s.capture.pendingRun ++ b.leadRun).length + 1) }
        pool := { s.pool with segs := s.pool.segs.modify b.phys fun g => { g with state := .live } }
        taps := s.taps.map fun x => { x with latch := if b.passes then x.latch else x.latch ||| 0x40#32 } } := by
  have hlatched : s.latchCheck b = { s with taps := s.taps.map fun x => { x with latch := if b.passes then x.latch else x.latch ||| 0x40#32 } } := by
    unfold State.latchCheck
    by_cases hpass : b.passes = true
    · rw [if_pos (.inr hpass), hpass]
      rfl
    · rw [if_neg (by rw [hkind]; exact fun h => h.elim (fun h => nomatch h) hpass), Bool.eq_false_iff.mpr hpass]
      rfl
  have hlength : (gapEntries (s.capture.pendingRun ++ b.leadRun) s.timeline.nextPi).length = (s.capture.pendingRun ++ b.leadRun).length := by
    unfold gapEntries
    rw [List.length_map, List.length_zipIdx]
  have hlead := State.lead_of_room hactive (Nat.le_of_lt hroom)
  obtain ⟨i, hi⟩ := hactive
  have hactive' : (((s.latchCheck b).appendLead b).tap i).active = true := by rw [hlead]; exact ((s.latchCheck_active b i).1).trans hi
  have hroom' : ((s.latchCheck b).appendLead b).timeline.entries.length < 4096 := by
    rw [hlead]
    show (s.timeline.entries ++ _).length < 4096
    rw [List.length_append, hlength]
    exact hroom
  have hpush := State.append_of_room (s := ((s.latchCheck b).appendLead b).modifySeg b.phys fun g => { g with state := .live }) b.entry
    ⟨i, hactive'⟩ hroom'
  unfold State.delivered
  rw [hkind]
  dsimp only
  rw [hpush, hlead, hlatched, BitVec.ofNat_add, ← BitVec.add_assoc]
  rfl

/-! ### Segments (R46, R55) -/

theorem State.lead_unnamed {s : State} {q : Nat} (b : ContextBody) (h : s.Unnamed q) :
    ((s.latchCheck b).appendLead b).Unnamed q ∧ ((s.latchCheck b).appendLead b).seg? q = s.seg? q := by
  have hlatched : Rehomes (fun _ => False) s (s.latchCheck b) := .ite (.refl s) (.raiseAll ..)
  have hemptied : Rehomes (fun _ => False) (s.latchCheck b) { s.latchCheck b with capture := { (s.latchCheck b).capture with pendingRun := [] } } :=
    .of_segs rfl (fun _ _ h => h) fun _ => .refl _
  exact ((hlatched.trans hemptied).trans (.appendRun _ ((s.latchCheck b).capture.pendingRun ++ b.leadRun))).spared q id h

theorem State.setMaskImage_seg? (s : State) (b : ContextBody) (q : Nat) :
    (s.setMaskImage b).seg? q = (s.seg? q).map fun g => if b.phys = q then { g with state := .maskImage } else g := List.getElem?_modify ..

/-- A MASK_SOURCE's or a CONTROL_ONLY's segment that nothing else names is the mask image on a PASS, and freed otherwise. -/
theorem State.delivered_seg? {s : State} {b : ContextBody} {g : Segment} (hkind : b.header.kind ≠ .program) (hunnamed : s.Unnamed b.phys)
    (himage : s.pool.maskImage ≠ some b.phys) (hg : s.seg? b.phys = some g) :
    (s.delivered b).seg? b.phys = some (if b.header.kind = .maskSource ∧ b.passes = true then { g with state := .maskImage } else g.freed) := by
  obtain ⟨hlead, hseg⟩ := State.lead_unnamed b hunnamed
  rw [← hseg] at hg
  have hfreed := State.freeSeg_settle_seg? hg hlead
  unfold State.delivered
  split
  · next hprogram => exact absurd hprogram hkind
  · next hmask =>
    unfold State.commitMask
    by_cases hpass : b.passes = true
    · rw [if_pos hpass, if_pos ⟨hmask, hpass⟩, (MaskKept.lead s b).image]
      have hset := State.setMaskImage_seg? ((s.latchCheck b).appendLead b) b b.phys
      rw [hg, Option.map_some, if_pos rfl] at hset
      unfold State.freeOpt
      cases hold : s.pool.maskImage with
      | none =>
        dsimp only
        rw [State.settle_seg? (s := ((s.latchCheck b).appendLead b).setMaskImage b) hlead]
        exact hset
      | some old =>
        dsimp only
        rw [State.settle_seg? (State.freeSeg_unnamed (s := ((s.latchCheck b).appendLead b).setMaskImage b) old hlead),
          State.freeSeg_seg?_other _ fun h => himage (by rw [hold, h])]
        exact hset
    · rw [if_neg hpass, if_neg fun h => hpass h.2]
      exact hfreed
  · next hcontrol =>
    rw [if_neg fun h => by rw [hcontrol] at h; exact nomatch h.1]
    exact hfreed

/-- The old mask image is freed. -/
theorem State.delivered_old {s : State} {b : ContextBody} {old : Nat} {g : Segment} (hkind : b.header.kind = .maskSource)
    (hpass : b.passes = true) (hold : s.pool.maskImage = some old) (hother : old ≠ b.phys) (hunnamed : s.Unnamed old)
    (hg : s.seg? old = some g) : (s.delivered b).seg? old = some g.freed := by
  obtain ⟨hlead, hseg⟩ := State.lead_unnamed b hunnamed
  have hset := State.setMaskImage_seg? ((s.latchCheck b).appendLead b) b old
  rw [hseg, hg, Option.map_some, if_neg (Ne.symm hother)] at hset
  unfold State.delivered State.commitMask
  rw [hkind]
  dsimp only
  rw [if_pos hpass, (MaskKept.lead s b).image, hold]
  exact State.freeSeg_settle_seg? hset hlead

/-! ### The answer that makes a context ready (R35, R36) -/

theorem Context.takeAnswer_body {c : Context} {b : ContextBody} (hbody : c.body = some b) (hout : b.writesOut = 1) :
    (c.takeAnswer b.phys .ok).body = some { b with writesOut := 0 } := by
  unfold Context.takeAnswer
  rw [hbody, Option.map_some, if_pos rfl, hout, show (LinkStatus.ok == LinkStatus.fault) = false from rfl, Bool.or_false]

theorem Context.takeAnswer_of_other {c : Context} {p : Nat} (h : ∀ b, c.body = some b → b.phys ≠ p) (status : LinkStatus) :
    c.takeAnswer p status = c := by
  unfold Context.takeAnswer
  obtain ⟨slot, state, body⟩ := c
  cases body with
  | none => rfl
  | some b =>
    rw [Option.map_some, if_neg (h b rfl)]

end Sys2Proof.Machine

/-! SUPPORT. The commits that the last answer of a context brings (R35, R36). -/

namespace Sys2Proof.Machine

/-- `s` once an OK answer to a capture write returned and lowered the count of its segment. -/
theorem State.returned_eq (s : State) {m : MRequest} {a : LinkResponse} {tag : Fin 64} (p : Nat) (htag : m.tag = forwardTag tag) (cs : List Context) :
    ((s.returnForwarded m a).lowerOutstanding p).setContexts cs =
      { s with
        link := (s.returnForwarded m a).link
        capture := { s.capture with contexts := cs }
        pool := { s.pool with segs := s.pool.segs.modify p fun g => { g with outstanding := g.outstanding - 1 } } } := by
  rw [State.returnForwarded_eq s a htag]
  rfl

/-- An answer that makes the newest context ready, behind DISCARD contexts only, commits it. -/
theorem State.captureAnswer_commits {s : State} {ds : List Context} {c : Context} {b : ContextBody}
    (hcontexts : s.capture.contexts = ds ++ [c]) (hslots : (s.capture.contexts.map (·.slot)).Nodup)
    (hds : ∀ d ∈ ds, d.state = .discard ∧ d.body = none) (hstate : c.state = .completeWaiting) (hbody : c.body = some b)
    (hout : b.writesOut = 1) : s.captureAnswer b.phys .ok = (s.setContexts ds).commitBody { b with writesOut := 0 } := by
  have hanswered : s.capture.contexts.map (Context.takeAnswer b.phys .ok) = ds ++ [c.takeAnswer b.phys .ok] := by
    have hkept : ds.map (Context.takeAnswer b.phys .ok) = ds :=
      (List.map_congr_left fun d hd => Context.takeAnswer_of_other (fun b' hb' => by rw [(hds d hd).2] at hb'; cases hb') .ok).trans (List.map_id _)
    rw [hcontexts, List.map_append, hkept]
    rfl
  have hslots' : ((ds ++ [c.takeAnswer b.phys .ok]).map (·.slot)).Nodup := by
    rw [hcontexts, List.map_append] at hslots
    rw [List.map_append]
    exact hslots
  have hfirst := State.commitNext_of_ready (s := s.setContexts (ds ++ [c.takeAnswer b.phys .ok])) (younger := []) rfl hslots'
    (fun d hd => (hds d hd).1) (c := c.takeAnswer b.phys .ok) hstate (Context.takeAnswer_body hbody hout) rfl
  rw [List.append_nil] at hfirst
  have hsecond : ((s.setContexts ds).commitBody { b with writesOut := 0 }).commitNext = none :=
    State.commitNext_of_discards (by rw [State.commitBody_capture]; exact fun d hd => (hds d hd).1)
  show (s.setContexts (s.capture.contexts.map (Context.takeAnswer b.phys .ok))).commitReady = _
  rw [hanswered]
  unfold State.commitReady
  rw [hfirst]
  dsimp only
  have hsame : (s.setContexts (ds ++ [c.takeAnswer b.phys .ok])).setContexts ds = s.setContexts ds := rfl
  rw [hsame, hsecond, Option.getD_none]

/-- An answer that makes the older context ready while the newer one waited commits both in their order. -/
theorem State.captureAnswer_commits_both {s : State} {o c : Context} {bo bc : ContextBody} (hcontexts : s.capture.contexts = [o, c])
    (hslots : o.slot ≠ c.slot) (ho : o.state = .completeWaiting) (hc : c.state = .completeWaiting) (hbo : o.body = some bo) (hbc : c.body = some bc)
    (hphys : bo.phys ≠ bc.phys) (hone : bo.writesOut = 1) (hzero : bc.writesOut = 0) :
    s.captureAnswer bo.phys .ok =
      (((s.setContexts [c]).commitBody { bo with writesOut := 0 }).setContexts []).commitBody bc := by
  have hanswered : s.capture.contexts.map (Context.takeAnswer bo.phys .ok) = [o.takeAnswer bo.phys .ok, c] := by
    rw [hcontexts, List.map_cons, List.map_cons, List.map_nil,
      Context.takeAnswer_of_other (c := c) (fun b hb => by rw [hbc] at hb; cases hb; exact hphys.symm) .ok]
  have hslots' : (([o.takeAnswer bo.phys .ok, c] : List Context).map (·.slot)).Nodup := by
    rw [List.map_cons, List.map_cons, List.map_nil, List.nodup_cons, List.mem_singleton]
    exact ⟨hslots, nodup_one _⟩
  have hfirst := State.commitNext_of_ready (s := s.setContexts [o.takeAnswer bo.phys .ok, c]) (older := []) (younger := [c]) rfl hslots'
    (fun d hd => nomatch hd) (c := o.takeAnswer bo.phys .ok) ho (Context.takeAnswer_body hbo hone) rfl
  have hcapture : ((s.setContexts [c]).commitBody { bo with writesOut := 0 }).capture.contexts = [] ++ c :: [] := by
    rw [State.commitBody_capture]
    rfl
  have hsecond := State.commitNext_of_ready hcapture (by rw [hcapture]; exact nodup_one _) (fun d hd => nomatch hd) hc hbc hzero
  show (s.setContexts (s.capture.contexts.map (Context.takeAnswer bo.phys .ok))).commitReady = _
  rw [hanswered]
  unfold State.commitReady
  rw [hfirst]
  dsimp only
  have hsame : (s.setContexts [o.takeAnswer bo.phys .ok, c]).setContexts ([] ++ [c]) = s.setContexts [c] := rfl
  rw [hsame, hsecond, Option.getD_some]
  rfl

/-- Empty entries have no effect. -/
theorem State.executeEntries_of_empty (s : State) (q : Word) {es : List ControlEntry} (h : ∀ e ∈ es, e.code = 0#8) : s.executeEntries q es = s := by
  unfold State.executeEntries
  induction es with
  | nil => rfl
  | cons e es ih =>
    rw [List.foldl_cons, State.executeEntry, if_pos (h e List.mem_cons_self)]
    exact ih fun x hx => h x (List.mem_cons_of_mem _ hx)

theorem State.present_rest (s : State) (n : Word) (cutOk : Bool) :
    (s.present n cutOk).timeline = s.timeline ∧ ∀ i, ((s.present n cutOk).tap i).active = (s.tap i).active := by
  have hraised (u : State) (quiet : Bool) (e : Event) :
      (u.raiseUnless quiet e).timeline = u.timeline ∧ ∀ i, ((u.raiseUnless quiet e).tap i).active = (u.tap i).active := by
    unfold State.raiseUnless
    split
    · exact ⟨rfl, fun _ => rfl⟩
    · exact ⟨rfl, fun i => by rw [State.tap_raiseAll]; rfl⟩
  unfold State.present
  dsimp only
  exact ⟨(hraised ..).1.trans (hraised ..).1, fun i => ((hraised ..).2 i).trans ((hraised ..).2 i)⟩

/-- A PROGRAM without runs and commands commits by its one entry. -/
theorem State.commitBody_plain {s : State} {b : ContextBody} (hkind : b.header.kind = .program) (hempty : ∀ e ∈ b.header.controls, e.code = 0#8)
    (hpending : s.capture.pendingRun = []) (hlead : b.leadRun = []) (htrailing : b.trailingRun = []) (hactive : ∃ i, (s.tap i).active = true)
    (hroom : s.timeline.entries.length < 4096) :
    (s.commitBody b).timeline =
        { entries := s.timeline.entries ++ [{ b.entry with pi := s.timeline.nextPi }], nextPi := s.timeline.nextPi + 1#32 } ∧
      ∃ i, ((s.commitBody b).tap i).active = true := by
  have hgaps : s.capture.pendingRun ++ b.leadRun = [] := by rw [hpending, hlead]; rfl
  have hdelivered := State.delivered_program hkind hactive (by rw [hgaps]; exact hroom)
  have hcommit : s.commitBody b = (s.delivered b).present (s.delivered b).liveEdge b.header.cutOk := by
    rw [State.commitBody_eq, State.executeEntries_of_empty _ _ hempty, htrailing, State.presented, if_pos hkind]
    rfl
  rw [hcommit]
  obtain ⟨htimeline, hkept⟩ := (s.delivered b).present_rest (s.delivered b).liveEdge b.header.cutOk
  obtain ⟨i, hi⟩ := hactive
  refine ⟨?_, i, ?_⟩
  · rw [htimeline, hdelivered, hgaps, List.length_nil, BitVec.add_zero]
    show Timeline.mk (s.timeline.entries ++ [] ++ _) _ = _
    rw [List.append_nil]
  · rw [hkept, hdelivered]
    show (PerTap.get (s.taps.map _) i : Tap).active = true
    rw [PerTap.get_map]
    exact hi

/-- Settles O38: the answered context commits on the state without it, which delivers its segment before the entries execute. -/
theorem commitsDeliverTheirSegment : Obligations.CommitsDeliverTheirSegment := by
  refine ⟨fun s a m ds c b tag hfind hop huse hdraining htag hok hcontexts hstate hbody hout => ?_,
    fun s a m o c bo bc tag hfind hop huse hdraining htag hok hcontexts hslots ho hc hbo hbc hphys hone hzero => ?_⟩
  · intro pass p gaps gapEntriesOf room unnamed freed
    have hanswers : s.answers a = some m := State.answers_eq_some hfind hdraining fun h => by rw [hop] at h; cases h
    have hopen : s.capture.contexts = ds ++ [c] ∧ (s.capture.contexts.map (·.slot)).Nodup ∧ ∀ d ∈ ds, d.state = .discard ∧ d.body = none := by
      obtain ⟨h, rfl⟩ | ⟨d, h, rfl, hdiscard, hnone, hapart⟩ := hcontexts
      · exact ⟨h, by rw [h]; exact nodup_one _, fun d hd => nomatch hd⟩
      · refine ⟨h, ?_, fun x hx => (List.mem_singleton.mp hx).symm ▸ ⟨hdiscard, hnone⟩⟩
        rw [h, List.map_cons, List.map_cons, List.map_nil, List.nodup_cons, List.mem_singleton]
        exact ⟨hapart, nodup_one _⟩
    obtain ⟨hopen, hnodup, hds⟩ := hopen
    have hu : ((s.returnForwarded m a).lowerOutstanding p).capture = s.capture := congrArg (·.capture) (State.returned_eq s (a := a) p htag s.capture.contexts)
    have hv := State.returned_eq s (a := a) p htag ds
    generalize hb0 : ({ b with writesOut := 0 } : ContextBody) = b0
    have hheader : b0.header = b.header := hb0 ▸ rfl
    have hpass : b0.passes = true ↔ pass := by
      rw [← hb0]
      exact ContextBody.passes_iff _
    have hcommit := State.captureAnswer_commits (s := (s.returnForwarded m a).lowerOutstanding p) (hu ▸ hopen) (hu ▸ hnodup) hds hstate hbody hout
    rw [hb0] at hcommit
    have hexec := exec_captureWriteResponse_of_answers hanswers huse
    rw [hok, hcommit] at hexec
    generalize hveq : ((s.returnForwarded m a).lowerOutstanding p).setContexts ds = v at hv hexec
    have hlinkSame := (Inner.commitBody v b0).link
    have hdelivered := Inner.delivered v b0
    have hears := HearAll.delivered v b0
    have hpresented := hears.trans (.presented (v.delivered b0) b0.header)
    have hgaps : v.capture.pendingRun ++ b0.leadRun = gaps := by rw [hv, ← hb0]
    have hvtap (i : Fin 4) : v.tap i = s.tap i := by rw [hv]; rfl
    refine ⟨_, v.delivered b0, hexec, ?_, ?_, ?_, ?_, ?_, ?_, fun i => ⟨?_, ?_⟩, fun i hi => ?_, fun hkind hfail i => ⟨?_, ?_⟩, fun hkind hp => ?_,
      fun hnot => ?_, fun hkind hroom => ?_, fun hkind hroom e rest hhead hfloor => ?_, fun hkind hun himage g hg => ?_,
      fun hkind hp old g hold hother hun hg => ?_⟩
    · rw [State.commitBody_eq, State.presented, hheader, ← hb0]
    · rw [State.refreshTally_capture, State.commitBody_capture, hv]
    · rw [State.delivered_capture, State.refreshTally_capture, State.commitBody_capture]
    · rw [hdelivered.link, State.refreshTally_link, hlinkSame]
    · rw [hdelivered.startUp, hv]
    · rw [State.delivered_guardStep, hv]
    · rw [(hears.tap i).executed, hvtap]
    · rw [(hears.tap i).report, hvtap]
    · have hexecuted := ((v.delivered b0).presented b0.header).executeEntries_executed b0.header.seq b0.header.controls i
        (by rw [(hpresented.tap i).executed, hvtap]; exact hi)
      rw [(hpresented.tap i).executed, hvtap, hheader] at hexecuted
      rw [State.commitBody_eq, ← hexecuted, ← hheader]
      exact ((HearAll.appendRun _ b0.trailingRun).tap i).executed
    · exact State.delivered_latched (hheader ▸ hkind) (Bool.eq_false_iff.mpr fun h => hfail (hpass.mp h)) i
    · have hlatched := State.delivered_latched (s := v) (hheader ▸ hkind) (Bool.eq_false_iff.mpr fun h => hfail (hpass.mp h)) i
      rw [State.commitBody_eq]
      exact ((HearAll.appendRun _ b0.trailingRun).tap i).latch 6
        (State.executeEntries_latchKept _ b0.header.seq b0.header.controls i 6 (((HearAll.presented _ b0.header).tap i).latch 6 hlatched))
    · obtain ⟨himage, hlmask⟩ := State.delivered_image (s := v) (b := b0) (hheader ▸ hkind) (hpass.mpr hp)
      have hrest := MaskKept.rest v b0
      rw [State.commitBody_eq]
      exact ⟨hrest.image.trans (himage.trans (by rw [← hb0])), hrest.lmask.trans (hlmask.trans (by rw [← hb0]))⟩
    · have hrest := (MaskKept.delivered (s := v) (b := b0) (hnot.imp (fun h => hheader ▸ h) fun h =>
        Bool.eq_false_iff.mpr fun hp => h (hpass.mp hp))).trans (.rest v b0)
      rw [State.commitBody_eq]
      exact ⟨hrest.image.trans (by rw [hv]), hrest.lmask.trans (by rw [hv])⟩
    · obtain ⟨⟨i, hi⟩, hlength⟩ := hroom
      have hdec : decide pass = b0.passes := by rw [Bool.eq_iff_iff, decide_eq_true_iff]; exact hpass.symm
      have htaps : (fun x : Tap => { x with latch := if b0.passes = true then x.latch else x.latch ||| 0x40#32 }) =
          fun x => { x with latch := if pass then x.latch else x.latch ||| 0x40#32 } :=
        funext fun x => congrArg (fun l => { x with latch := l }) (ite_congr_cond hpass rfl rfl)
      have hphys : b0.phys = p := hb0 ▸ rfl
      rw [State.delivered_program (hheader ▸ hkind) ⟨i, (hvtap i).symm ▸ hi⟩ (by rw [hgaps, hv]; exact hlength), hgaps, htaps, hdec,
        State.refreshTally_link, State.refreshTally_capture, hlinkSame, State.commitBody_capture, hv, hphys]
      have hsegs : s.pool.segs.modify p (fun g => { g with state := .live, outstanding := g.outstanding - 1 }) =
          (s.pool.segs.modify p fun g => { g with outstanding := g.outstanding - 1 }).modify p fun g => { g with state := .live } := by
        rw [List.modify_modify_eq]
        rfl
      rw [hsegs]
      subst hb0
      rfl
    · have htimeline := State.delivered_timeline (s := v) (b := b0) (e := e) (rest := rest) (hheader ▸ hkind)
        (hroom.1.imp fun i hi => (hvtap i).symm ▸ hi) (by rw [hgaps, hv]; exact Nat.le_of_lt hroom.2) (by rw [hv]; exact hhead)
        (by rw [State.floor_congr (s := s) (fun i => by rw [hvtap]; exact ⟨rfl, rfl⟩) hroom.1]; exact hfloor)
      rw [htimeline, hgaps, hv]
      rfl
    · have hvp : v.seg? b0.phys = some { g with outstanding := g.outstanding - 1 } := by
        rw [hv, ← hb0]
        exact (List.getElem?_modify_eq ..).trans (congrArg _ hg)
      have hseg := State.delivered_seg? (hheader ▸ hkind) (by rw [hv, ← hb0]; exact hun) (by rw [hv, ← hb0]; exact himage) hvp
      have hbp : b0.phys = p := hb0 ▸ rfl
      rw [hbp, hheader] at hseg
      rw [hseg]
      by_cases hcase : b.header.kind = .maskSource ∧ pass
      · rw [if_pos hcase, if_pos ⟨hcase.1, hpass.mpr hcase.2⟩]
      · rw [if_neg hcase, if_neg fun h => hcase ⟨h.1, hpass.mp h.2⟩]
        rfl
    · have hbp : b0.phys = p := hb0 ▸ rfl
      have hvo : v.seg? old = some g := by
        rw [hv]
        exact (List.getElem?_modify_ne _ _ (Ne.symm hother)).trans hg
      exact State.delivered_old (hheader ▸ hkind) (hpass.mpr hp) (by rw [hv]; exact hold) (hbp.symm ▸ hother) (by rw [hv]; exact hun) hvo
  · intro entryOf
    have hanswers : s.answers a = some m := State.answers_eq_some hfind hdraining fun h => by rw [hop] at h; cases h
    have hu : ((s.returnForwarded m a).lowerOutstanding bo.phys).capture = s.capture :=
      congrArg (·.capture) (State.returned_eq s (a := a) bo.phys htag s.capture.contexts)
    have hv := State.returned_eq s (a := a) bo.phys htag [c]
    have hexec := exec_captureWriteResponse_of_answers hanswers huse
    rw [hok, State.captureAnswer_commits_both (hu ▸ hcontexts) hslots ho hc hbo hbc hphys hone hzero] at hexec
    generalize hveq : ((s.returnForwarded m a).lowerOutstanding bo.phys).setContexts [c] = v at hv hexec
    have hfirst := State.commitBody_capture v { bo with writesOut := 0 }
    refine ⟨_, hexec, ?_, fun hkindo hkindc hempty hpending hleado htrailo hleadc htrailc hactive hroom => ?_⟩
    · rw [State.refreshTally_capture, State.commitBody_capture]
      show { (v.commitBody { bo with writesOut := 0 }).capture with contexts := [], pendingRun := [] } = _
      rw [hfirst, hv]
    · obtain ⟨htimeline, hactive'⟩ := State.commitBody_plain (s := v) (b := { bo with writesOut := 0 }) hkindo
        (fun e he => hempty e (List.mem_append_left _ he)) (by rw [hv]; exact hpending) hleado htrailo (by rw [hv]; exact hactive)
        (by rw [hv]; exact Nat.lt_of_succ_lt hroom)
      have hlength : (v.commitBody { bo with writesOut := 0 }).timeline.entries.length = s.timeline.entries.length + 1 := by
        rw [htimeline, hv]
        exact List.length_append
      obtain ⟨htimeline', -⟩ := State.commitBody_plain (s := (v.commitBody { bo with writesOut := 0 }).setContexts []) (b := bc) hkindc
        (fun e he => hempty e (List.mem_append_right _ he)) (congrArg CaptureUnit.pendingRun hfirst) hleadc htrailc hactive' (hlength ▸ hroom)
      have hall : ((v.commitBody { bo with writesOut := 0 }).setContexts []).timeline = (v.commitBody { bo with writesOut := 0 }).timeline := rfl
      rw [State.refreshTally_timeline, htimeline', hall, htimeline, hv]
      refine ⟨?_, ?_⟩
      · rw [List.append_assoc]
        rfl
      · show s.timeline.nextPi + 1#32 + 1#32 = _
        rw [BitVec.add_assoc]
        rfl

end Sys2Proof.Machine

/-! SUPPORT. The check register, bits reversed, is the remainder of a division by 0x04C11DB7 (R1). -/

namespace Sys2Proof.Machine

theorem reverse_xor (x y : Word) : (x ^^^ y).reverse = x.reverse ^^^ y.reverse := by
  refine BitVec.eq_of_getLsbD_eq fun i _ => ?_
  rw [BitVec.getLsbD_reverse, BitVec.getMsbD_xor, BitVec.getLsbD_xor, BitVec.getLsbD_reverse, BitVec.getLsbD_reverse]

theorem reverse_not (x : Word) : (~~~ x).reverse = ~~~ x.reverse := by
  refine BitVec.eq_of_getLsbD_eq fun i hi => ?_
  rw [BitVec.getLsbD_reverse, BitVec.getMsbD_not, BitVec.getLsbD_not, BitVec.getLsbD_reverse]

theorem reverse_ushiftRight_one (x : Word) : (x >>> 1).reverse = x.reverse <<< 1 := by
  refine BitVec.eq_of_getLsbD_eq fun i hi => ?_
  rw [BitVec.getLsbD_reverse, BitVec.getMsbD_ushiftRight, BitVec.getLsbD_shiftLeft, BitVec.getLsbD_reverse, Bool.and_assoc]

theorem reverse_generator : (0xEDB88320#32 : Word).reverse = 0x04C11DB7#32 := by
  have hbits : ∀ i < 32, (0xEDB88320#32 : Word).getMsbD i = (0x04C11DB7#32 : Word).getLsbD i := by decide
  exact BitVec.eq_of_getLsbD_eq fun i hi => BitVec.getLsbD_reverse.trans (hbits i hi)

theorem reverse_ones : (0xFFFFFFFF#32 : Word).reverse = 0xFFFFFFFF#32 := by
  have hbits : ∀ i < 32, (0xFFFFFFFF#32 : Word).getMsbD i = (0xFFFFFFFF#32 : Word).getLsbD i := by decide
  exact BitVec.eq_of_getLsbD_eq fun i hi => BitVec.getLsbD_reverse.trans (hbits i hi)

/-- One bit of data enters the register at its low end. -/
def crcFeed (c : Word) (b : Bool) : Word := crcBit (c ^^^ if b then 1#32 else 0#32)

/-- One bit of data enters the division (R1). -/
def divideFeed (r : Word) (b : Bool) : Word := (r <<< 1) ^^^ (if r.getLsbD 31 != b then 0x04C11DB7#32 else 0#32)

theorem bit_getLsbD (b : Bool) : (if b then 1#32 else 0#32 : Word).getLsbD 0 = b := by cases b <;> rfl

theorem bit_ushiftRight (b : Bool) : (if b then 1#32 else 0#32 : Word) >>> 1 = 0#32 := by cases b <;> rfl

/-- A register step is linear in the data. -/
theorem crcBit_xor (x y : Word) : crcBit (x ^^^ y) = crcFeed x (y.getLsbD 0) ^^^ (y >>> 1) := by
  have hlow : (x ^^^ if y.getLsbD 0 then 1#32 else 0#32).getLsbD 0 = (x ^^^ y).getLsbD 0 := by
    rw [BitVec.getLsbD_xor, BitVec.getLsbD_xor, bit_getLsbD]
  have hshift : (x ^^^ if y.getLsbD 0 then 1#32 else 0#32) >>> 1 = x >>> 1 := by
    rw [BitVec.ushiftRight_xor_distrib, bit_ushiftRight, BitVec.xor_zero]
  unfold crcFeed crcBit
  rw [hlow, hshift, BitVec.ushiftRight_xor_distrib]
  split
  · rw [BitVec.xor_assoc, BitVec.xor_assoc, BitVec.xor_comm (y >>> 1)]
  · rfl

/-- The register reflected is the remainder. -/
theorem crcFeed_reverse (c : Word) (b : Bool) : (crcFeed c b).reverse = divideFeed c.reverse b := by
  have hlow : (c ^^^ if b then 1#32 else 0#32).getLsbD 0 = (c.reverse.getLsbD 31 != b) := by
    rw [BitVec.getLsbD_xor, bit_getLsbD, BitVec.getLsbD_reverse]
    show (c.getLsbD 0 ^^ b) = (c.getLsbD 0 != b)
    rfl
  have hshift : ((c ^^^ if b then 1#32 else 0#32) >>> 1).reverse = c.reverse <<< 1 := by
    rw [BitVec.ushiftRight_xor_distrib, bit_ushiftRight, BitVec.xor_zero, reverse_ushiftRight_one]
  unfold crcFeed crcBit divideFeed
  rw [hlow]
  split
  · rw [reverse_xor, hshift, reverse_generator]
  · rw [hshift, BitVec.xor_zero]

/-- A byte enters by its bits, the least significant first. -/
theorem crcByte_eq_feeds (c : Word) (b : Byte) : crcByte c b = ((List.range 8).map fun i => b.getLsbD i).foldl crcFeed c := by
  have hbit (i : Nat) (hi : i < 8) : (b.setWidth 32 >>> i : Word).getLsbD 0 = b.getLsbD i := by
    rw [BitVec.getLsbD_ushiftRight, BitVec.getLsbD_setWidth, Nat.add_zero, decide_eq_true (by omega), Bool.true_and]
  have hstep (x : Word) (i : Nat) (hi : i < 8) :
      crcBit (x ^^^ b.setWidth 32 >>> i) = crcFeed x (b.getLsbD i) ^^^ b.setWidth 32 >>> (i + 1) := by
    rw [crcBit_xor, hbit i hi, BitVec.shiftRight_add]
  have hgone : (b.setWidth 32 >>> 8 : Word) = 0#32 := BitVec.eq_of_getLsbD_eq fun i hi => by
    rw [BitVec.getLsbD_ushiftRight, BitVec.getLsbD_setWidth, BitVec.getLsbD_of_ge b _ (by omega), Bool.and_false, BitVec.getLsbD_zero]
  have hzero : (b.setWidth 32 : Word) = b.setWidth 32 >>> 0 := (BitVec.ushiftRight_zero _).symm
  unfold crcByte
  rw [hzero, hstep _ 0 (by decide), hstep _ 1 (by decide), hstep _ 2 (by decide), hstep _ 3 (by decide), hstep _ 4 (by decide),
    hstep _ 5 (by decide), hstep _ 6 (by decide), hstep _ 7 (by decide), hgone, BitVec.xor_zero]
  rfl

theorem foldl_crcFeed_reverse (bits : List Bool) (c : Word) : (bits.foldl crcFeed c).reverse = bits.foldl divideFeed c.reverse := by
  induction bits generalizing c with
  | nil => rfl
  | cons b bits ih => rw [List.foldl_cons, List.foldl_cons, ih, crcFeed_reverse]

/-- Settles O16: bit by bit the reflected register is the remainder. -/
theorem checkWordIsPolynomialDivision : Obligations.CheckWordIsPolynomialDivision := by
  intro bs
  have hrun (c : Word) : crcRun c bs = (bs.flatMap fun b => (List.range 8).map fun i => b.getLsbD i).foldl crcFeed c := by
    unfold crcRun
    rw [List.foldl_flatMap]
    exact congrArg (fun f => bs.foldl f c) (funext fun c => funext fun b => crcByte_eq_feeds c b)
  unfold checkWord crcFinal crcInit
  rw [hrun, reverse_not, foldl_crcFeed_reverse, reverse_ones]
  rfl

end Sys2Proof.Machine

/-! SUPPORT. The READs of a fill plan: legal on the link, and covering the bytes that the plan names (R12 to R14). -/

namespace Sys2Proof.Machine

/-- A READ is legal on the link. -/
def PartRead.Legal (r : PartRead) : Prop := r.base % 64 = 0 ∧ r.length % 64 = 0 ∧ 0 < r.length ∧ r.base % 1024 + r.length ≤ 1024

/-- The READ of a segment part. -/
def SegmentRun.read (g : SegmentRun) : PartRead := ⟨false, g.phys, (hull g.lo g.hi).1, (hull g.lo g.hi).2 - (hull g.lo g.hi).1, g.lo, g.hi⟩

/-- The bytes of the mask image that a run needs. -/
def MaskRun.need (m : MaskRun) : Nat := min (m.hi - m.lo) m.lmask

/-- The bytes that it takes before the image repeats. -/
def MaskRun.before (m : MaskRun) : Nat := min m.need (64 + m.lmask - m.offset m.lo)

/-- The READs of a mask run. -/
def MaskRun.reads (m : MaskRun) : List PartRead :=
  maskReads m.phys (m.offset m.lo) (m.offset m.lo + m.before) ++
    if m.before < m.need then maskReads m.phys 64 (64 + (m.need - m.before)) else []

theorem FillPlan.reads_eq (f : FillPlan) : f.reads = (f.segment.map SegmentRun.read).toList ++ (f.mask.map MaskRun.reads).getD [] := by
  unfold FillPlan.reads
  cases f.segment <;> cases f.mask <;> rfl

theorem FillPlan.mem_reads (f : FillPlan) (r : PartRead) :
    r ∈ f.reads ↔ (∃ g, f.segment = some g ∧ r = g.read) ∨ ∃ m, f.mask = some m ∧ r ∈ m.reads := by
  rw [FillPlan.reads_eq, List.mem_append]
  refine or_congr ?_ ?_
  · rw [Option.mem_toList, Option.map_eq_some_iff]
    exact exists_congr fun g => and_congr_right fun _ => eq_comm
  · cases f.mask with
    | none =>
      refine ⟨fun h => absurd h List.not_mem_nil, fun h => ?_⟩
      obtain ⟨_, h, _⟩ := h
      cases h
    | some m => exact ⟨fun h => ⟨m, rfl, h⟩, fun ⟨_, h, hr⟩ => Option.some.inj h ▸ hr⟩

/-! ### Mask parts (R13) -/

theorem maskReads_length (p lo hi : Nat) : (maskReads p lo hi).length ≤ 2 := by
  unfold maskReads
  dsimp only
  split <;> simp

theorem mem_maskReads {p lo hi : Nat} {r : PartRead} (h : r ∈ maskReads p lo hi) : r.isMask = true ∧ r.phys = p := by
  unfold maskReads at h
  dsimp only at h
  split at h
  · rw [List.mem_singleton] at h
    subst h
    exact ⟨rfl, rfl⟩
  · rw [List.mem_cons, List.mem_singleton] at h
    obtain rfl | rfl := h <;> exact ⟨rfl, rfl⟩

/-- Of at most 1024 bytes, hull by hull, each READ stays within a block of 1024. -/
theorem maskReads_legal {p lo hi : Nat} (hlo : lo < hi) (hshort : hi - lo ≤ 1024) {r : PartRead} (h : r ∈ maskReads p lo hi) : r.Legal := by
  unfold maskReads hull at h
  dsimp only at h
  split at h
  · rw [List.mem_singleton] at h
    subst h
    unfold PartRead.Legal
    dsimp only
    omega
  · rw [List.mem_cons, List.mem_singleton] at h
    obtain rfl | rfl := h
    · unfold PartRead.Legal
      dsimp only
      omega
    · unfold PartRead.Legal
      dsimp only
      omega

theorem maskReads_covers {p lo hi o : Nat} (hlo : lo ≤ o) (hhi : o < hi) : ∃ r ∈ maskReads p lo hi, r.lo ≤ o ∧ o < r.hi := by
  unfold maskReads
  dsimp only
  split
  · exact ⟨_, List.mem_singleton_self _, hlo, hhi⟩
  · by_cases hcut : o < 1024 * ((hull lo hi).1 / 1024 + 1)
    · exact ⟨_, List.mem_cons_self, hlo, hcut⟩
    · exact ⟨_, List.mem_cons_of_mem _ (List.mem_singleton_self _), Nat.le_of_not_lt hcut, hhi⟩

section Mask

variable {m : MaskRun}

theorem MaskRun.offset_lt (h : 0 < m.lmask) : m.offset m.lo < 64 + m.lmask := Nat.add_lt_add_left (Nat.mod_lt _ h) 64

theorem MaskRun.before_pos (hrun : m.lo < m.hi) (h : 0 < m.lmask) : 0 < m.before := by
  have hoffset := MaskRun.offset_lt h
  unfold MaskRun.before MaskRun.need
  omega

theorem MaskRun.reads_length (m : MaskRun) : m.reads.length ≤ 4 := by
  have hfirst := maskReads_length m.phys (m.offset m.lo) (m.offset m.lo + m.before)
  have hsecond := maskReads_length m.phys 64 (64 + (m.need - m.before))
  unfold MaskRun.reads
  rw [List.length_append]
  split
  · omega
  · exact Nat.le_trans (Nat.add_le_add_right hfirst 0) (by decide)

theorem MaskRun.mem_reads {r : PartRead} (hr : r ∈ m.reads) : r.isMask = true ∧ r.phys = m.phys := by
  unfold MaskRun.reads at hr
  obtain hr | hr := List.mem_append.mp hr
  · exact mem_maskReads hr
  · split at hr
    · exact mem_maskReads hr
    · cases hr

theorem MaskRun.reads_legal (hrun : m.lo < m.hi) (hshort : m.hi - m.lo ≤ 1024) (h : 0 < m.lmask) {r : PartRead} (hr : r ∈ m.reads) :
    r.Legal := by
  have hpos := MaskRun.before_pos hrun h
  have hneed : m.need ≤ 1024 := Nat.le_trans (Nat.min_le_left ..) hshort
  have hbefore : m.before ≤ m.need := Nat.min_le_left ..
  unfold MaskRun.reads at hr
  obtain hr | hr := List.mem_append.mp hr
  · exact maskReads_legal (by omega) (by omega) hr
  · split at hr
    · exact maskReads_legal (by omega) (by omega) hr
    · cases hr

/-- The offset in the image of a byte behind the first one of the run: as far behind, or that less LMASK. -/
theorem MaskRun.offset_cases {o : Nat} (hstart : 64 ≤ m.lo) (hlo : m.lo ≤ o) (hnear : o - m.lo < m.lmask) :
    m.offset o = if m.offset m.lo + (o - m.lo) < 64 + m.lmask then m.offset m.lo + (o - m.lo) else m.offset m.lo + (o - m.lo) - m.lmask := by
  have hpos : 0 < m.lmask := by omega
  have hlt := Nat.mod_lt (m.lo - 64) hpos
  have hsum : o - 64 = m.lo - 64 + (o - m.lo) := by omega
  have hmod : (o - 64) % m.lmask = ((m.lo - 64) % m.lmask + (o - m.lo)) % m.lmask := by
    rw [hsum, Nat.add_mod, Nat.mod_eq_of_lt hnear]
  unfold MaskRun.offset
  rw [hmod]
  generalize (m.lo - 64) % m.lmask = x at hlt
  split
  · rw [Nat.mod_eq_of_lt (by omega)]
    omega
  · rw [Nat.mod_eq_sub_mod (by omega), Nat.mod_eq_of_lt (by omega)]
    omega

/-- Every byte of the image that the run repeats is read. -/
theorem MaskRun.reads_cover {o : Nat} (hstart : 64 ≤ m.lo) (h : 0 < m.lmask) (hlo : m.lo ≤ o) (hhi : o < m.hi) :
    ∃ r ∈ m.reads, r.lo ≤ m.offset o ∧ m.offset o < r.hi := by
  have hoffset := MaskRun.offset_lt h
  have hbase : 64 ≤ m.offset m.lo := Nat.le_add_right 64 _
  have hbase' : 64 ≤ m.offset o := Nat.le_add_right 64 _
  have hlt : m.offset o < 64 + m.lmask := Nat.add_lt_add_left (Nat.mod_lt _ h) 64
  have hpart : (m.offset m.lo ≤ m.offset o ∧ m.offset o < m.offset m.lo + m.before) ∨
      (m.before < m.need ∧ m.offset o < 64 + (m.need - m.before)) := by
    by_cases hnear : o - m.lo < m.lmask
    · have hcases := MaskRun.offset_cases hstart hlo hnear
      unfold MaskRun.before MaskRun.need
      split at hcases <;> omega
    · unfold MaskRun.before MaskRun.need
      omega
  unfold MaskRun.reads
  obtain ⟨hlow, hhigh⟩ | ⟨hmore, hhigh⟩ := hpart
  · obtain ⟨r, hr, hcover⟩ := maskReads_covers (p := m.phys) hlow hhigh
    exact ⟨r, List.mem_append_left _ hr, hcover⟩
  · obtain ⟨r, hr, hcover⟩ := maskReads_covers (p := m.phys) hbase' hhigh
    refine ⟨r, List.mem_append_right _ ?_, hcover⟩
    rw [if_pos hmore]
    exact hr

end Mask

/-! ### The bytes of the parts (R14) -/

/-- Where every part that holds the byte gives it the same value, and one does, that is the value. -/
theorem partByte_eq {received : List PartData} {isMask : Bool} {o : Nat} {v : Byte}
    (hsome : ∃ d ∈ received, d.isMask = isMask ∧ d.base ≤ o ∧ o < d.base + d.bytes.length)
    (hall : ∀ d ∈ received, d.isMask = isMask → d.base ≤ o → o < d.base + d.bytes.length → byteOf d.bytes (o - d.base) = v) :
    partByte received isMask o = v := by
  unfold partByte
  split
  · next hnone =>
    obtain ⟨d, hd, hmask, hlow, hhigh⟩ := hsome
    have hfound := List.find?_eq_none.mp hnone d hd
    rw [Bool.and_eq_true, Bool.and_eq_true, beq_iff_eq, decide_eq_true_iff, decide_eq_true_iff] at hfound
    exact absurd ⟨⟨hmask, hlow⟩, hhigh⟩ hfound
  · next d hfound =>
    have hp := List.find?_some hfound
    rw [Bool.and_eq_true, Bool.and_eq_true, beq_iff_eq, decide_eq_true_iff, decide_eq_true_iff] at hp
    obtain ⟨⟨hmask, hlow⟩, hhigh⟩ := hp
    exact hall d (List.mem_of_find?_eq_some hfound) hmask hlow hhigh

/-- The bytes `lo` to `lo + n - 1` of segment `p` of a memory. -/
def segmentBytes (mem : Nat → Nat → Byte) (p lo n : Nat) : List Byte := (List.range n).map fun k => mem p (lo + k)

theorem segmentBytes_length (mem : Nat → Nat → Byte) (p lo n : Nat) : (segmentBytes mem p lo n).length = n := by
  unfold segmentBytes
  rw [List.length_map, List.length_range]

theorem byteOf_segmentBytes (mem : Nat → Nat → Byte) {p lo n o : Nat} (hlo : lo ≤ o) (hhi : o < lo + n) :
    byteOf (segmentBytes mem p lo n) (o - lo) = mem p o := by
  have hlt : o - lo < n := by omega
  unfold byteOf segmentBytes
  rw [List.getD_eq_getElem?_getD, List.getElem?_map, List.getElem?_range hlt, Option.map_some, Option.getD_some, Nat.add_sub_cancel' hlo]

/-- What an answered READ gives of a memory. -/
def PartRead.data (mem : Nat → Nat → Byte) (r : PartRead) : PartData :=
  if r.isMask then ⟨true, r.lo, segmentBytes mem r.phys r.lo (r.hi - r.lo)⟩ else ⟨false, r.base, segmentBytes mem r.phys r.base r.length⟩

theorem PartRead.data_isMask (mem : Nat → Nat → Byte) (r : PartRead) : (r.data mem).isMask = r.isMask := by
  unfold PartRead.data
  cases r.isMask <;> rfl

/-- Its bytes are those of its segment. -/
theorem PartRead.data_byte (mem : Nat → Nat → Byte) {r : PartRead} {o : Nat} (hlo : (r.data mem).base ≤ o)
    (hhi : o < (r.data mem).base + (r.data mem).bytes.length) : byteOf (r.data mem).bytes (o - (r.data mem).base) = mem r.phys o := by
  unfold PartRead.data at hlo hhi ⊢
  split at hlo
  · next hmask =>
    rw [if_pos hmask] at hhi ⊢
    rw [segmentBytes_length] at hhi
    exact byteOf_segmentBytes mem hlo hhi
  · next hmask =>
    rw [if_neg hmask] at hhi ⊢
    rw [segmentBytes_length] at hhi
    exact byteOf_segmentBytes mem hlo hhi

section Answered

variable {f : FillPlan} {mem : Nat → Nat → Byte} {received : List PartData}

/-- The segment's bytes come from its one READ. -/
theorem FillPlan.segment_byte (honly : ∀ d ∈ received, ∃ r ∈ f.reads, d = r.data mem) (hall : ∀ r ∈ f.reads, r.data mem ∈ received)
    {g : SegmentRun} (hg : f.segment = some g) {o : Nat} (hlo : g.lo ≤ o) (hhi : o < g.hi) : partByte received false o = mem g.phys o := by
  have hread : g.read ∈ f.reads := (f.mem_reads _).mpr (.inl ⟨g, hg, rfl⟩)
  have hdata : g.read.data mem = ⟨false, 64 * (g.lo / 64),
      segmentBytes mem g.phys (64 * (g.lo / 64)) (64 * ((g.hi - 1) / 64) + 64 - 64 * (g.lo / 64))⟩ := rfl
  refine partByte_eq ⟨_, hall _ hread, ?_⟩ fun d hd hmask hlow hhigh => ?_
  · rw [hdata, segmentBytes_length]
    exact ⟨rfl, by dsimp only; omega, by dsimp only; omega⟩
  · obtain ⟨r, hr, rfl⟩ := honly d hd
    obtain ⟨g', hg', rfl⟩ | ⟨m, _, hm⟩ := (f.mem_reads r).mp hr
    · rw [hg] at hg'
      cases hg'
      exact PartRead.data_byte mem hlow hhigh
    · rw [PartRead.data_isMask, (MaskRun.mem_reads hm).1] at hmask
      cases hmask

/-- The mask image's bytes come from the READs of the mask run. -/
theorem FillPlan.mask_byte (honly : ∀ d ∈ received, ∃ r ∈ f.reads, d = r.data mem) (hall : ∀ r ∈ f.reads, r.data mem ∈ received)
    {m : MaskRun} (hm : f.mask = some m) (hstart : 64 ≤ m.lo) (hpos : 0 < m.lmask) {o : Nat} (hlo : m.lo ≤ o) (hhi : o < m.hi) :
    partByte received true (m.offset o) = mem m.phys (m.offset o) := by
  obtain ⟨r, hr, hlow, hhigh⟩ := MaskRun.reads_cover hstart hpos hlo hhi
  have hread : r ∈ f.reads := (f.mem_reads _).mpr (.inr ⟨m, hm, hr⟩)
  have hdata : r.data mem = ⟨true, r.lo, segmentBytes mem r.phys r.lo (r.hi - r.lo)⟩ := if_pos (MaskRun.mem_reads hr).1
  refine partByte_eq ⟨_, hall _ hread, ?_⟩ fun d hd hmask hlow' hhigh' => ?_
  · rw [hdata, segmentBytes_length]
    exact ⟨rfl, hlow, by dsimp only; omega⟩
  · obtain ⟨r', hr', rfl⟩ := honly d hd
    obtain ⟨g, _, rfl⟩ | ⟨m', hm', hin⟩ := (f.mem_reads r').mp hr'
    · rw [PartRead.data_isMask] at hmask
      cases hmask
    · rw [hm] at hm'
      cases hm'
      exact (PartRead.data_byte mem hlow' hhigh').trans (by rw [(MaskRun.mem_reads hin).2])

end Answered

/-- What a byte's source says about its plan. -/
theorem FillPlan.run_of_source {f : FillPlan} {n : Nat} :
    (∀ p k, f.source n = .segment p k → ∃ g, f.segment = some g ∧ g.phys = p ∧ n = k ∧ g.lo ≤ n ∧ n < g.hi) ∧
      ∀ p k, f.source n = .mask p k → ∃ m, f.mask = some m ∧ m.phys = p ∧ m.offset n = k ∧ m.lo ≤ n ∧ n < m.hi := by
  by_cases hlow : n < 64
  · rw [FillPlan.source_of_low hlow]
    by_cases hheader : f.header = none
    · rw [if_pos hheader]
      exact ⟨fun _ _ h => (nomatch h), fun _ _ h => (nomatch h)⟩
    · rw [if_neg hheader]
      exact ⟨fun _ _ h => (nomatch h), fun _ _ h => (nomatch h)⟩
  · rw [FillPlan.source_of_high (Nat.le_of_not_lt hlow)]
    split
    · next r hr =>
      obtain ⟨hsegment, hin⟩ := (Option.filter_eq_some_iff ..).mp hr
      obtain ⟨hlo, hhi⟩ := of_decide_eq_true hin
      refine ⟨fun p k h => ?_, fun _ _ h => (nomatch h)⟩
      obtain ⟨hphys, hk⟩ := Source.segment.inj h
      exact ⟨r, hsegment, hphys, hk, hlo, hhi⟩
    · next m hnone hm =>
      obtain ⟨hmask, hin⟩ := (Option.filter_eq_some_iff ..).mp hm
      obtain ⟨hlo, hhi⟩ := of_decide_eq_true hin
      refine ⟨fun _ _ h => (nomatch h), fun p k h => ?_⟩
      obtain ⟨hphys, hk⟩ := Source.mask.inj h
      exact ⟨m, hmask, hphys, hk, hlo, hhi⟩
    · exact ⟨fun _ _ h => (nomatch h), fun _ _ h => (nomatch h)⟩

/-- Settles O48: the segment's hull and at most four mask hulls are legal, and every named byte stands in a part. -/
theorem splitReadsReturnTheNamedBytes : Obligations.SplitReadsReturnTheNamedBytes := by
  refine fun f => ⟨fun hoffset hlength hblock hsegment hmask => ⟨?_, fun r hr => ?_⟩,
    fun mem received _ hmask => ?_⟩
  · rw [FillPlan.reads_eq, List.length_append]
    have hone : (f.segment.map SegmentRun.read).toList.length ≤ 1 := by cases f.segment <;> simp
    have hfour : ((f.mask.map MaskRun.reads).getD []).length ≤ 4 := by
      cases f.mask with
      | none => exact Nat.zero_le _
      | some m => exact m.reads_length
    omega
  · obtain ⟨g, hg, rfl⟩ | ⟨m, hm, hin⟩ := (f.mem_reads r).mp hr
    · obtain ⟨hlow, hrun, hhigh⟩ := hsegment g hg
      unfold SegmentRun.read hull
      dsimp only
      omega
    · obtain ⟨hlow, hrun, hhigh, _, hpos⟩ := hmask m hm
      exact MaskRun.reads_legal hrun (by omega) hpos hin
  · intro bytes part honly hall n _ _
    have honly' : ∀ d ∈ received, ∃ r ∈ f.reads, d = r.data mem := honly
    have hall' : ∀ r ∈ f.reads, r.data mem ∈ received := hall
    obtain ⟨hseg, hmsk⟩ := f.run_of_source (n := n)
    unfold FillPlan.byteAt
    cases hsource : f.source n with
    | header k => rfl
    | zero => rfl
    | segment p k =>
      obtain ⟨g, hg, rfl, rfl, hlo, hhi⟩ := hseg p k hsource
      exact FillPlan.segment_byte honly' hall' hg hlo hhi
    | mask p k =>
      obtain ⟨m, hm, rfl, rfl, hlo, hhi⟩ := hmsk p k hsource
      obtain ⟨hstart, _, hpos⟩ := hmask m hm
      exact FillPlan.mask_byte honly' hall' hm hstart hpos hlo hhi

end Sys2Proof.Machine

/-! SUPPORT. Answers to the pattern run and the verdict on a segment (R57, R58). -/

namespace Sys2Proof.Machine

/-! ### The next segment of the range -/

section Take

variable (s : State) (cursor stop : Nat)

/-- Moving the cursor up leaves the rest of the state, and the segments below the cursor. -/
theorem State.takeTestable_rest :
    (s.takeTestable cursor stop).link = s.link ∧ (s.takeTestable cursor stop).capture = s.capture ∧
      (s.takeTestable cursor stop).timeline = s.timeline ∧ (s.takeTestable cursor stop).quarantine = s.quarantine ∧
      (s.takeTestable cursor stop).pool.patternFailures = s.pool.patternFailures ∧
      ∀ p, p < cursor → (s.takeTestable cursor stop).seg? p = s.seg? p := by
  unfold State.takeTestable
  split
  · next q hq =>
    refine ⟨rfl, rfl, rfl, rfl, rfl, fun p hp => List.getElem?_modify_ne _ _ fun hqp => ?_⟩
    obtain ⟨i, -, hi⟩ := Option.map_eq_some_iff.mp hq
    omega
  · exact ⟨rfl, rfl, rfl, rfl, rfl, fun _ _ => rfl⟩

theorem State.takeTestable_pattern_of_first {p : Nat} {g : Segment} (hlow : cursor ≤ p) (hhigh : p < stop) (hg : s.seg? p = some g)
    (hfree : g.state = .free ∧ g.outstanding = 0)
    (hfirst : ∀ p' g', cursor ≤ p' → p' < p → s.seg? p' = some g' → ¬ (g'.state = .free ∧ g'.outstanding = 0)) :
    (s.takeTestable cursor stop).pool.pattern = some (.start p stop) := by
  rw [State.takeTestable_of_some (State.nextTestable_eq_some hlow hhigh hg ((Segment.allocatable_iff g).mpr hfree) fun p' g' hl hh hg' =>
    Bool.eq_false_iff.mpr fun h => hfirst p' g' hl hh hg' ((Segment.allocatable_iff g').mp h))]
  rfl

theorem State.takeTestable_pattern_of_none
    (h : ∀ p g, cursor ≤ p → p < stop → s.seg? p = some g → ¬ (g.state = .free ∧ g.outstanding = 0)) :
    (s.takeTestable cursor stop).pool.pattern = none ∧ ∀ i, ((s.takeTestable cursor stop).tap i).latch.getLsbD 26 = true := by
  rw [State.takeTestable_of_none (State.nextTestable_eq_none fun p g hl hh hg =>
    Bool.eq_false_iff.mpr fun hfree => h p g hl hh hg ((Segment.allocatable_iff g).mp hfree))]
  refine ⟨rfl, fun i => ?_⟩
  rw [State.tap_raiseAll]
  exact Tap.raise_latched _ .patternDone

end Take

/-! ### The verdict (R58) -/

/-- The segment of the run is judged; the cursor has not moved. -/
def State.judged (s : State) (r : PatternRun) : State :=
  if r.failed then
    let s1 := (s.modifySeg r.cursor fun g => { g with faults := s.store.config.faultThreshold }).retire r.cursor
    { s1 with pool := { s1.pool with patternFailures := bump Config.countMax s1.pool.patternFailures } }
  else s.freeSeg r.cursor

theorem State.verdict_eq (s : State) (r : PatternRun) : s.verdict r = (s.judged r).takeTestable (r.cursor + 1) r.stop := by
  unfold State.verdict State.judged
  split <;> rfl

section Judged

variable {s : State} {r : PatternRun} {g : Segment}

theorem State.judged_of_failed (hfailed : r.failed = true) (hg : s.seg? r.cursor = some g) :
    (s.judged r).seg? r.cursor = some { g with faults := s.store.config.faultThreshold, state := .retired } ∧
      (s.judged r).pool.patternFailures = min (s.pool.patternFailures + 1) 255 ∧ ∀ i, ((s.judged r).tap i).latch.getLsbD 30 = true := by
  unfold State.judged
  rw [if_pos hfailed]
  refine ⟨?_, ?_, fun i => State.retire_latched _ _ i⟩
  · show (State.retire _ _).seg? r.cursor = _
    rw [State.modifySeg_eq _ hg, State.retire_rest, State.modifySeg_eq _ (State.seg?_setSeg_same _ hg)]
    exact State.seg?_setSeg_same _ (State.seg?_setSeg_same _ hg)
  · show bump Config.countMax (State.retire _ _).pool.patternFailures = _
    rw [State.retire_rest]
    rfl

theorem State.judged_of_passed (hpassed : r.failed = false) (hg : s.seg? r.cursor = some g) :
    (s.judged r).seg? r.cursor = some g.freed ∧ (s.judged r).pool.patternFailures = s.pool.patternFailures := by
  unfold State.judged
  rw [if_neg (Bool.eq_false_iff.mp hpassed)]
  exact ⟨State.freeSeg_seg?_same hg, by rw [(Interior.freeSeg s r.cursor).pool]⟩

theorem State.judged_rest (s : State) (r : PatternRun) :
    (s.judged r).link = s.link ∧ (s.judged r).capture = s.capture ∧ (s.judged r).timeline = s.timeline ∧
      (s.judged r).quarantine = s.quarantine ∧ ∀ p, p ≠ r.cursor → (s.judged r).seg? p = s.seg? p := by
  unfold State.judged
  split
  · refine ⟨?_, ?_, ?_, ?_, fun p hp => ?_⟩
    · show (State.retire _ _).link = _
      rw [State.retire_rest]
      rfl
    · show (State.retire _ _).capture = _
      rw [State.retire_rest]
      rfl
    · show (State.retire _ _).timeline = _
      rw [State.retire_rest]
      rfl
    · show (State.retire _ _).quarantine = _
      rw [State.retire_rest]
      rfl
    · show (State.retire _ _).seg? p = _
      rw [State.retire_rest]
      exact (List.getElem?_modify_ne _ _ hp.symm).trans (List.getElem?_modify_ne _ _ hp.symm)
  · have h := Interior.freeSeg s r.cursor
    exact ⟨h.link, h.capture, State.freeSeg_timeline .., State.freeSeg_quarantine .., fun p hp => State.freeSeg_seg?_other s hp⟩

theorem State.judged_unnamed {p : Nat} (r : PatternRun) (h : s.Unnamed p) : (s.judged r).Unnamed p := by
  obtain ⟨_, _, htimeline, hquarantine, _⟩ := s.judged_rest r
  unfold State.Unnamed
  rw [htimeline, hquarantine]
  exact h

end Judged

/-- The settled verdict: what it judged stands, and the run has moved on. -/
theorem State.verdict_settled {s : State} {r : PatternRun} (hunnamed : s.Unnamed r.cursor) :
    (s.verdict r).settle.link = s.link ∧ (s.verdict r).settle.capture = s.capture ∧
      (s.verdict r).settle.pool.patternFailures = (s.judged r).pool.patternFailures ∧
      (s.verdict r).settle.seg? r.cursor = (s.judged r).seg? r.cursor ∧
      (s.verdict r).settle.pool.pattern = ((s.judged r).takeTestable (r.cursor + 1) r.stop).pool.pattern ∧
      HearAll ((s.judged r).takeTestable (r.cursor + 1) r.stop) (s.verdict r).settle := by
  obtain ⟨hlink, hcapture, _, _, _⟩ := s.judged_rest r
  obtain ⟨hlink', hcapture', htimeline', hquarantine', hfailures', hbelow⟩ := (s.judged r).takeTestable_rest (r.cursor + 1) r.stop
  have hinterior := Interior.settle ((s.judged r).takeTestable (r.cursor + 1) r.stop)
  have hstill : ((s.judged r).takeTestable (r.cursor + 1) r.stop).Unnamed r.cursor := by
    unfold State.Unnamed
    rw [htimeline', hquarantine']
    exact State.judged_unnamed r hunnamed
  rw [State.verdict_eq]
  exact ⟨hinterior.link.trans (hlink'.trans hlink), hinterior.capture.trans (hcapture'.trans hcapture), by rw [hinterior.pool]; exact hfailures',
    (State.settle_seg? hstill).trans (hbelow _ (Nat.lt_succ_self _)), by rw [hinterior.pool], .settle _⟩

/-! ### The answer (R57) -/

theorem exec_patternResponse_of_answers {s : State} {a : LinkResponse} {m : MRequest} {r : PatternRun} {g : Geometry}
    (hanswers : s.answers a = some m) (hpattern : m.use.ofPattern = true) (hr : s.pool.pattern = some r) (hg : s.link.geometry = some g) :
    exec (.patternResponse a) s = .next (s.patternAnswer g r m a).refreshTally := by
  have hexec : exec (.patternResponse a) s = execPatternResponse a s := rfl
  rw [hexec, execPatternResponse, hanswers]
  dsimp only
  rw [if_pos hpattern, hr, hg]

/-- `s` once the answer of a pattern request on segment `p` is in. -/
def State.patternTaken (s : State) (m : MRequest) (p : Nat) (r : PatternRun) : State :=
  { s with
    link := { s.link with outstanding := s.link.outstanding.filter fun x => x.tag != m.tag }
    pool :=
      { s.pool with
        pattern := some r
        segs := s.pool.segs.modify p fun q => { q with outstanding := q.outstanding - 1 } } }

theorem State.patternAnswer_eq (s : State) (g : Geometry) (r : PatternRun) {m : MRequest} (a : LinkResponse) {p : Nat}
    (hsegment : m.use.segment? = some p) :
    s.patternAnswer g r m a =
      if (r.takeAnswer m a).decided g then ((s.patternTaken m p (r.takeAnswer m a)).verdict (r.takeAnswer m a)).settle
      else s.patternTaken m p (r.takeAnswer m a) := by
  unfold State.patternAnswer State.lowerFor
  rw [hsegment]
  rfl

theorem PatternRun.decided_iff (r : PatternRun) (g : Geometry) :
    r.decided g = true ↔ r.writesAnswered = r.writesIssued ∧ r.readsAnswered = r.readsIssued ∧
      (r.failed = true ∨ r.readsAnswered = g.segSize / 1024) := by
  unfold PatternRun.decided
  rw [Bool.and_eq_true, Bool.and_eq_true, Bool.or_eq_true, beq_iff_eq, beq_iff_eq, beq_iff_eq, and_assoc]

/-- Settles O52: an answer either leaves the run waiting or lets the segment be judged, after which the cursor moves and the floor is tested. -/
theorem patternAnswersDecideTheSegment : Obligations.PatternAnswersDecideTheSegment := by
  intro s a m r g sp hfind hdraining hr hg hsp hkept hcase htimeline hrecords differs failed r1 decided link
  have hfits : m.op = .read → a.data.length = m.length := fun hop => by
    obtain ⟨hwrite, _⟩ | ⟨_, hlength, _⟩ := hcase
    · rw [hop] at hwrite
      cases hwrite
    · exact hlength
  have huse : m.use.ofPattern = true ∧ m.use.segment? = some r.cursor := by
    obtain ⟨_, huse⟩ | ⟨_, _, base, huse⟩ := hcase <;> rw [huse] <;> exact ⟨rfl, rfl⟩
  have htaken : r.takeAnswer m a = r1 := by
    obtain ⟨hop, huse⟩ | ⟨hop, _, base, huse⟩ := hcase
    · simp [PatternRun.takeAnswer, r1, failed, differs, huse, hop]
    · simp [PatternRun.takeAnswer, r1, failed, differs, huse, hop]
  have hexec := exec_patternResponse_of_answers (State.answers_eq_some hfind hdraining hfits) huse.1 hr hg
  rw [State.patternAnswer_eq s g r a huse.2, htaken] at hexec
  have hdecided : r1.decided g = true ↔ decided := r1.decided_iff g
  refine ⟨fun hnot => ?_, fun hyes => ?_⟩
  · rw [if_neg fun h => hnot (hdecided.mp h)] at hexec
    exact hexec
  · rw [if_pos (hdecided.mpr hyes)] at hexec
    have hcursor : (s.patternTaken m r.cursor r1).seg? r1.cursor = some { sp with outstanding := sp.outstanding - 1 } :=
      (List.getElem?_modify_eq ..).trans (congrArg _ hsp)
    obtain ⟨hlink, hcapture, hfailures, hseg, hpattern, hears⟩ := State.verdict_settled (s := s.patternTaken m r.cursor r1) (r := r1) ⟨htimeline, hrecords⟩
    obtain ⟨_, _, _, _, hother⟩ := (s.patternTaken m r.cursor r1).judged_rest r1
    have hsegs (p : Nat) (hp : r.cursor < p) : ((s.patternTaken m r.cursor r1).judged r1).seg? p = s.seg? p :=
      (hother p (Nat.ne_of_gt hp)).trans (List.getElem?_modify_ne _ _ (Nat.ne_of_lt hp))
    refine ⟨_, hexec, hlink, hcapture, fun hfailed => ?_, fun hpassed => ?_, fun p q hp hstop hq hfree hout hfirst => ?_, fun hnone => ?_⟩
    · obtain ⟨hretired, hcount, hlatched⟩ := State.judged_of_failed (r := r1) hfailed hcursor
      exact ⟨hfailures.trans hcount, fun i => (((HearAll.takeTestable _ (r1.cursor + 1) r1.stop).trans hears).tap i).latch 30 (hlatched i),
        _, hseg.trans hretired, rfl, rfl⟩
    · obtain ⟨hfreed, hcount⟩ := State.judged_of_passed (r := r1) hpassed hcursor
      refine ⟨hfailures.trans hcount, _, hseg.trans hfreed, ?_, rfl, rfl⟩
      show (if sp.retirePending then SegState.retired else .free) = .free
      rw [hkept]
      rfl
    · exact hpattern.trans (State.takeTestable_pattern_of_first _ _ _ hp hstop ((hsegs p hp).trans hq) ⟨hfree, hout⟩
        fun p' q' hl hh hq' => hfirst p' q' hl hh ((hsegs p' hl).symm.trans hq'))
    · obtain ⟨hended, hlatched⟩ := State.takeTestable_pattern_of_none ((s.patternTaken m r.cursor r1).judged r1) (r1.cursor + 1) r1.stop
        fun p q hl hh hq => hnone p q hl hh ((hsegs p hl).symm.trans hq)
      exact ⟨hpattern.trans hended, fun i => (hears.tap i).latch 26 (hlatched i)⟩

end Sys2Proof.Machine

/-! SUPPORT. Answers of the parts of a read: the read's entry, the segment, and the readback checks of a tap's bindings (R14, R125 to R127). -/

namespace Sys2Proof.Machine

/-! ### Counting a fault (R49) -/

/-- A tap but for its target delay, its clamp flag and its latch, which keeps its events. -/
structure TapClamped (x y : Tap) : Prop where
  tap : y = { x with dt := y.dt, clampFlag := y.clampFlag, latch := y.latch }
  latch : LatchKept x y

theorem TapClamped.refl (x : Tap) : TapClamped x x := ⟨rfl, .refl x⟩

theorem TapClamped.trans {x y z : Tap} (h : TapClamped x y) (k : TapClamped y z) : TapClamped x z := by
  obtain ⟨hy, hlatch⟩ := h
  obtain ⟨hz, hlatch'⟩ := k
  refine ⟨?_, hlatch.trans hlatch'⟩
  rw [hy] at hz
  exact hz

theorem State.countFault_tap (s : State) (p : Nat) (i : Fin 4) : TapClamped (s.tap i) ((s.countFault p).tap i) := by
  cases hg : s.seg? p with
  | none =>
    have hnone : s.countFault p = s := by
      unfold State.countFault
      rw [hg]
    rw [hnone]
    exact .refl _
  | some g =>
    cases hcounted : g.counted with
    | true =>
      rw [State.countFault_of_counted hg hcounted]
      exact .refl _
    | false =>
      rw [State.countFault_of_uncounted hg hcounted]
      split
      · exact ⟨State.retire_tap _ p i, State.retire_latchKept (s.setSeg p (g.faulted s.store.config.faultThreshold)) p i⟩
      · exact .refl _

theorem State.faultOn_tap (s : State) (p : Nat) (status : LinkStatus) (i : Fin 4) : TapClamped (s.tap i) ((s.faultOn p status).tap i) := by
  unfold State.faultOn
  split
  · exact (s.countFault_tap p i).trans ⟨(Eased.settle _).tap i, (Eased.settle _).latch i⟩
  · exact .refl _

theorem State.faultOn_record {s : State} {p : Nat} {g : Segment} (h : s.seg? p = some g) :
    ∃ g', (s.faultOn p .fault).seg? p = some g' ∧ g'.counted = true ∧ g'.outstanding = g.outstanding ∧
      g'.faults = if g.counted then g.faults else min (g.faults + 1) 7 := by
  obtain ⟨g1, hg1, hcounted, hout, hfaults⟩ := State.countFault_record h
  obtain ⟨g2, hg2, hcore⟩ := (Rehomes.settle (Q := fun _ => False) (s.countFault p)).seg_of hg1
  obtain ⟨hfaults', _, hcounted', _, hout'⟩ := Segment.of_core_eq hcore
  exact ⟨g2, hg2, hcounted'.trans hcounted, hout'.trans hout, hfaults'.trans hfaults⟩

/-! ### The entry of the read (R14) -/

theorem InFlight.takePart_of_last {f : InFlight} {plan : FillPlan} (part : PartData) (status : LinkStatus) (hplan : f.plan = some plan)
    (hparts : f.parts = 1) :
    f.takePart part status =
      { f with
        parts := 0
        faultSeen := f.faultSeen || status == .fault
        received := f.received ++ [part]
        phase := .ready
        reply := some
          (if f.faultSeen || status == .fault then ⟨.fault, zeroData f.req⟩ else ⟨.ok, plan.compose (f.received ++ [part])⟩) } := by
  unfold InFlight.takePart InFlight.answer
  dsimp only
  rw [hparts, if_pos (Nat.sub_self 1), hplan]
  dsimp only
  split <;> rfl

theorem InFlight.takePart_of_more {f : InFlight} (part : PartData) (status : LinkStatus) (hparts : 1 < f.parts) :
    f.takePart part status =
      { f with parts := f.parts - 1, faultSeen := f.faultSeen || status == .fault, received := f.received ++ [part] } := by
  unfold InFlight.takePart
  dsimp only
  rw [if_neg (by omega)]

theorem State.takePart_eq (s : State) (m : MRequest) (a : LinkResponse) (tag : Fin 64) (seg : Nat) (part : PartData) :
    s.takePart m a tag seg part =
      { s with
        link :=
          { s.link with
            outstanding := s.link.outstanding.filter fun x => x.tag != m.tag
            inflight := s.link.inflight.map fun x => if x.req.tag == tag then x.takePart part a.status else x }
        pool := { s.pool with segs := s.pool.segs.modify seg fun q => { q with outstanding := q.outstanding - 1 } } } := rfl

theorem State.entry_takePart (s : State) (m : MRequest) (a : LinkResponse) (tag : Fin 64) (seg : Nat) (part : PartData) (u : Fin 64) :
    (s.takePart m a tag seg part).entry u = (s.entry u).map fun x => if u = tag then x.takePart part a.status else x := by
  have hreq (x : InFlight) : (if x.req.tag == tag then x.takePart part a.status else x).req = x.req := by
    split
    · exact InFlight.takePart_req ..
    · rfl
  rw [State.takePart_eq]
  unfold State.entry
  dsimp only
  rw [find?_map_self fun x => by rw [hreq]]
  cases hfind : s.link.inflight.find? (fun f => f.req.tag == u) with
  | none => rfl
  | some x =>
    have htag : x.req.tag = u := beq_iff_eq.mp (List.find?_some (p := fun f : InFlight => f.req.tag == u) hfind)
    rw [Option.map_some, Option.map_some, htag]
    by_cases hu : u = tag
    · rw [if_pos hu, if_pos (beq_iff_eq.mpr hu)]
    · rw [if_neg hu, if_neg (mt beq_iff_eq.mp hu)]

/-! ### The readback checks (R125 to R127) -/

/-- The binding takes the next data of a read under `tag`. -/
def SlotBinding.Awaits (sb : SlotBinding) (tag : Fin 64) : Prop :=
  sb.binding.readback.state = .expecting ∧ ∃ c ∈ sb.binding.readback.chunks, c.tag = tag ∧ c.bytes = none

theorem SlotBinding.awaits_iff (sb : SlotBinding) (tag : Fin 64) :
    (sb.binding.readback.state = .expecting ∧ sb.binding.readback.awaits tag = true) ↔ sb.Awaits tag := by
  unfold Readback.awaits SlotBinding.Awaits
  rw [List.any_eq_true]
  refine and_congr_right fun _ => exists_congr fun c => and_congr_right fun _ => ?_
  rw [Bool.and_eq_true, beq_iff_eq, Option.isNone_iff_eq_none]

section Answered

variable {sb : SlotBinding} {tag : Fin 64} (base : Nat) (data : List Byte)

theorem SlotBinding.answered_of_idle (status : LinkStatus) (h : ¬ sb.Awaits tag) : sb.answered tag base status data = (sb, false) := by
  unfold SlotBinding.answered
  rw [if_neg (mt (sb.awaits_iff tag).mp h)]

theorem SlotBinding.answered_of_fault (h : sb.Awaits tag) :
    sb.answered tag base .fault data =
      ({ sb with binding := { sb.binding with readback := { state := .broken, next := 0, running := 0#32, chunks := [] } } }, false) := by
  unfold SlotBinding.answered
  rw [if_pos ((sb.awaits_iff tag).mpr h)]
  rfl

theorem takeChunks_of_filled (running : Word) {cs : List ReadbackChunk} {datas : List (List Byte)} (h : cs.map (·.bytes) = datas.map some) :
    takeChunks running cs = (crcRun running datas.flatten, []) := by
  induction cs generalizing running datas with
  | nil =>
    rw [List.map_nil] at h
    rw [List.map_eq_nil_iff.mp h.symm]
    rfl
  | cons c cs ih =>
    cases datas with
    | nil => cases h
    | cons d datas =>
      obtain ⟨hbytes, hrest⟩ := List.cons.inj h
      unfold takeChunks
      rw [show c.bytes = some d from hbytes]
      dsimp only
      rw [ih _ hrest, List.flatten_cons]
      unfold crcRun
      rw [List.foldl_append]

/-- Once the data of every continuing read is in, the word runs over it, and the check is COMPLETE when the payload is in. -/
theorem SlotBinding.answered_of_filled {datas : List (List Byte)} (h : sb.Awaits tag)
    (hfilled : (sb.binding.readback.chunks.map (fillChunk tag base data)).map (·.bytes) = datas.map some) :
    let word := crcRun sb.binding.readback.running datas.flatten
    let complete := sb.binding.readback.next = 64 + sb.binding.la + sb.binding.lv
    sb.answered tag base .ok data =
      ({ sb with binding := { sb.binding with readback :=
          { state := if complete then .complete else .expecting, next := sb.binding.readback.next, running := word, chunks := [] } } },
        decide (complete ∧ ~~~ word ≠ sb.binding.check)) := by
  intro word complete
  have hstate := h.1
  unfold SlotBinding.answered Binding.takeData
  rw [if_pos ((sb.awaits_iff tag).mpr h)]
  dsimp only
  rw [takeChunks_of_filled _ hfilled]
  by_cases hcomplete : complete
  · rw [if_pos ⟨hcomplete, rfl⟩, if_pos hcomplete]
    refine Prod.ext rfl ?_
    show (crcFinal word != sb.binding.check) = _
    rw [Bool.eq_iff_iff, bne_iff_ne, decide_eq_true_iff]
    exact (and_iff_right hcomplete).symm
  · rw [if_neg fun hc => hcomplete hc.1, if_neg hcomplete, hstate, decide_eq_false fun hc => hcomplete hc.1]

end Answered

/-- The binding that stands on the previous or the current slot. -/
def Tap.standing (x : Tap) (previous : Bool) : Option SlotBinding := if previous then x.previous else x.current

section Segment

variable (x : Tap) (tag : Fin 64) (base : Nat) (status : LinkStatus) (data : List Byte)

/-- An answer finds a fault: a mismatch in one of the bindings, or its own status. -/
def Tap.readbackFails : Bool :=
  (x.current.map (·.answered tag base status data)).any (·.2) || (x.previous.map (·.answered tag base status data)).any (·.2) ||
    status == .fault

theorem Tap.segmentAnswered_latching :
    x.segmentAnswered tag base status data =
      { x with
        current := x.current.map fun sb => (sb.answered tag base status data).1
        previous := x.previous.map fun sb => (sb.answered tag base status data).1
        latch := x.latch ||| if x.readbackFails tag base status data then 0x20#32 else 0#32 } := by
  have hmap (o : Option SlotBinding) :
      (o.map (·.answered tag base status data)).map (·.1) = o.map fun sb => (sb.answered tag base status data).1 := Option.map_map ..
  unfold Tap.segmentAnswered
  dsimp only
  rw [hmap, hmap]
  by_cases hfails : x.readbackFails tag base status data = true
  · rw [hfails, if_pos rfl]
    exact if_pos hfails
  · rw [if_neg hfails, BitVec.or_zero]
    exact if_neg hfails

theorem Tap.standing_segmentAnswered (previous : Bool) :
    (x.segmentAnswered tag base status data).standing previous =
      (x.standing previous).map fun sb => (sb.answered tag base status data).1 := by
  rw [Tap.segmentAnswered_latching]
  cases previous <;> rfl

theorem Tap.readbackFails_eq (previous : Bool) :
    x.readbackFails tag base status data =
      (((x.standing previous).map (·.answered tag base status data)).any (·.2) ||
        ((x.standing !previous).map (·.answered tag base status data)).any (·.2) || status == .fault) := by
  cases previous
  · rfl
  · exact congrArg (· || _) (Bool.or_comm ..)

end Segment

theorem answered_idle {o : Option SlotBinding} {tag : Fin 64} (base : Nat) (status : LinkStatus) (data : List Byte)
    (h : ∀ sb, o = some sb → ¬ sb.Awaits tag) :
    (o.map fun sb => (sb.answered tag base status data).1) = o ∧ (o.map (·.answered tag base status data)).any (·.2) = false := by
  cases o with
  | none => exact ⟨rfl, rfl⟩
  | some sb =>
    rw [Option.map_some, Option.map_some, SlotBinding.answered_of_idle base data status (h sb rfl)]
    exact ⟨rfl, rfl⟩

end Sys2Proof.Machine

/-! SUPPORT. The steps that take a part's answer (R14, R49, R123, R126, R127). -/

namespace Sys2Proof.Machine

/-- `v` is `s` once the answer `a` of a part is in: its read took the part, and the tap whose segment part it is took the data. -/
structure PartTaken (s v : State) (m : MRequest) (a : LinkResponse) (tag : Fin 64) (seg : Nat) (part : PartData) (tap : Option (Fin 4)) :
    Prop where
  rest : v = { s.takePart m a tag seg part with taps := v.taps }
  others : ∀ i, tap ≠ some i → v.tap i = s.tap i
  own : ∀ i, tap = some i → ∃ base, m.use = .tapSegment tag i seg base ∧ v.tap i = (s.tap i).segmentAnswered tag base a.status a.data

section Taken

variable {s : State} {m : MRequest} {a : LinkResponse} {tag : Fin 64} {seg base lo hi : Nat} {i : Fin 4}

theorem exec_tapSegmentPartResponse_of_answers (hanswers : s.answers a = some m) (huse : m.use = .tapSegment tag i seg base) :
    ∃ v, exec (.tapSegmentPartResponse a) s = .next (v.faultOn seg a.status).refreshTally ∧
      PartTaken s v m a tag seg ⟨false, base, a.data⟩ (some i) := by
  have hexec : exec (.tapSegmentPartResponse a) s = execTapSegmentPartResponse a s := rfl
  refine ⟨(s.takePart m a tag seg ⟨false, base, a.data⟩).modifyTap i fun x => x.segmentAnswered tag base a.status a.data, ?_,
    rfl, fun j hj => ?_, fun j hj => ⟨base, ?_, ?_⟩⟩
  · rw [hexec, execTapSegmentPartResponse, hanswers]
    dsimp only
    rw [huse]
  · unfold State.modifyTap
    rw [State.tap_setTap, if_neg fun h => hj (congrArg some h.symm)]
    rfl
  · cases hj
    exact huse
  · cases hj
    unfold State.modifyTap
    rw [State.tap_setTap, if_pos rfl]
    rfl

theorem exec_maskPartResponse_of_answers (hanswers : s.answers a = some m) (huse : m.use = .maskPart tag seg base lo hi) :
    exec (.maskPartResponse a) s =
      .next ((s.takePart m a tag seg ⟨true, lo, (a.data.drop (lo - base)).take (hi - lo)⟩).faultOn seg a.status).refreshTally := by
  have hexec : exec (.maskPartResponse a) s = execMaskPartResponse a s := rfl
  rw [hexec, execMaskPartResponse, hanswers]
  dsimp only
  rw [huse]
  rfl

theorem exec_reviewPartResponse_of_answers (hanswers : s.answers a = some m) (huse : m.use = .reviewPart tag seg base) :
    exec (.reviewPartResponse a) s = .next ((s.takePart m a tag seg ⟨false, base, a.data⟩).faultOn seg a.status).refreshTally := by
  have hexec : exec (.reviewPartResponse a) s = execReviewPartResponse a s := rfl
  rw [hexec, execReviewPartResponse, hanswers]
  dsimp only
  rw [huse]

theorem PartTaken.of_takePart (part : PartData) : PartTaken s (s.takePart m a tag seg part) m a tag seg part none :=
  ⟨rfl, fun _ _ => rfl, fun _ h => nomatch h⟩

end Taken

section Facts

variable {s v : State} {m : MRequest} {a : LinkResponse} {tag : Fin 64} {seg : Nat} {part : PartData} {tap : Option (Fin 4)}

theorem PartTaken.tap_form (h : PartTaken s v m a tag seg part tap) (i : Fin 4) :
    v.tap i = { s.tap i with current := (v.tap i).current, previous := (v.tap i).previous, latch := (v.tap i).latch } := by
  by_cases hi : tap = some i
  · obtain ⟨base, _, hown⟩ := h.own i hi
    rw [hown, Tap.segmentAnswered_latching]
  · rw [h.others i hi]

theorem PartTaken.fault_latched (h : PartTaken s v m a tag seg part tap) {i : Fin 4} (hi : tap = some i) (hfault : a.status = .fault) :
    (v.tap i).latch.getLsbD 5 = true := by
  obtain ⟨base, _, hown⟩ := h.own i hi
  have hfails : (s.tap i).readbackFails tag base a.status a.data = true := by
    unfold Tap.readbackFails
    rw [hfault]
    exact Bool.or_true _
  rw [hown, Tap.segmentAnswered_latching, if_pos hfails, BitVec.getLsbD_or]
  exact Bool.or_true _

theorem PartTaken.link (h : PartTaken s v m a tag seg part tap) : v.link = (s.takePart m a tag seg part).link := by rw [h.rest]

theorem PartTaken.entry (h : PartTaken s v m a tag seg part tap) (u : Fin 64) :
    v.entry u = (s.entry u).map fun x => if u = tag then x.takePart part a.status else x := by
  unfold State.entry
  rw [h.link]
  exact State.entry_takePart s m a tag seg part u

/-- The tap's state once the faulting segment, if any, was dealt with. -/
theorem faultOn_standing (v : State) (seg : Nat) (status : LinkStatus) (i : Fin 4) (previous : Bool) :
    ((v.faultOn seg status).tap i).standing previous = (v.tap i).standing previous := by
  rw [(v.faultOn_tap seg status i).tap]
  cases previous <;> rfl

end Facts

theorem fillChunk_bytes (tag : Fin 64) (base : Nat) (data : List Byte) (c : ReadbackChunk) :
    (fillChunk tag base data c).bytes =
      if c.tag = tag ∧ c.bytes = none then some ((data.drop (c.lo - base)).take (c.hi - c.lo)) else c.bytes := by
  unfold fillChunk
  split <;> rfl

/-- An answer without a fault that no check awaits leaves the tap as it is. -/
theorem Tap.segmentAnswered_of_idle {x : Tap} {tag : Fin 64} (base : Nat) (data : List Byte) (previous : Bool)
    (h : ∀ sb, x.standing previous = some sb ∨ x.standing (!previous) = some sb → ¬ sb.Awaits tag) : x.segmentAnswered tag base .ok data = x := by
  have hcurrent : ∀ sb, x.current = some sb → ¬ sb.Awaits tag := fun sb hsb => h sb (by
    cases previous
    · exact .inl hsb
    · exact .inr hsb)
  have hprevious : ∀ sb, x.previous = some sb → ¬ sb.Awaits tag := fun sb hsb => h sb (by
    cases previous
    · exact .inr hsb
    · exact .inl hsb)
  obtain ⟨hcur, hcurfine⟩ := answered_idle base .ok data hcurrent
  obtain ⟨hprev, hprevfine⟩ := answered_idle base .ok data hprevious
  have hfine : x.readbackFails tag base .ok data = false := by
    unfold Tap.readbackFails
    rw [hcurfine, hprevfine]
    rfl
  rw [Tap.segmentAnswered_latching, hcur, hprev, hfine]
  show { x with latch := x.latch ||| 0#32 } = x
  rw [BitVec.or_zero]

/-- The latch after an answer to the one binding that awaits it. -/
theorem Tap.segmentAnswered_latch {x : Tap} {tag : Fin 64} (base : Nat) (data : List Byte) {previous : Bool} {sb : SlotBinding}
    (hsb : x.standing previous = some sb) (hother : ∀ sb', x.standing (!previous) = some sb' → ¬ sb'.Awaits tag) :
    (x.segmentAnswered tag base .ok data).latch = x.latch ||| if (sb.answered tag base .ok data).2 then 0x20#32 else 0#32 := by
  have hfails : x.readbackFails tag base .ok data = (sb.answered tag base .ok data).2 := by
    rw [Tap.readbackFails_eq x tag base .ok data previous, hsb, (answered_idle base .ok data hother).2, Bool.or_false]
    exact Bool.or_false _
  rw [Tap.segmentAnswered_latching, hfails]

theorem InFlight.takePart_counts {f : InFlight} {plan : FillPlan} (part : PartData) (status : LinkStatus) (hplan : f.plan = some plan)
    (hparts : 0 < f.parts) :
    (f.takePart part status).parts = f.parts - 1 ∧ (f.takePart part status).faultSeen = (f.faultSeen || status == .fault) ∧
      (f.takePart part status).received = f.received ++ [part] := by
  by_cases hone : f.parts = 1
  · rw [InFlight.takePart_of_last part status hplan hone, hone]
    exact ⟨rfl, rfl, rfl⟩
  · rw [InFlight.takePart_of_more part status (by omega)]
    exact ⟨rfl, rfl, rfl⟩

/-- Settles O50: the read takes the part, the tap's bindings its data, and a FAULT counts on the segment. -/
theorem partAnswersComposeTheResponse : Obligations.PartAnswersComposeTheResponse := by
  intro s a m tag f plan seg part tap cmd hfind hdraining hop hlength hentry hplan hparts hcase faulted
  have hanswers : s.answers a = some m := State.answers_eq_some hfind hdraining fun _ => hlength
  have htaken : ∃ v, exec cmd s = .next (v.faultOn seg a.status).refreshTally ∧ PartTaken s v m a tag seg part tap := by
    obtain ⟨i, base, huse, rfl, rfl, rfl⟩ | ⟨base, lo, hi, huse, rfl, rfl, rfl⟩ | ⟨base, huse, rfl, rfl, rfl⟩ := hcase
    · exact exec_tapSegmentPartResponse_of_answers hanswers huse
    · exact ⟨_, exec_maskPartResponse_of_answers hanswers huse, .of_takePart _⟩
    · exact ⟨_, exec_reviewPartResponse_of_answers hanswers huse, .of_takePart _⟩
  obtain ⟨v, hexec, hv⟩ := htaken
  have hinterior := Interior.faultOn v seg a.status
  have hlink : (v.faultOn seg a.status).link = (s.takePart m a tag seg part).link := hinterior.link.trans hv.link
  have hentries (u : Fin 64) : (v.faultOn seg a.status).entry u = (s.entry u).map fun x => if u = tag then x.takePart part a.status else x := by
    rw [← hv.entry u]
    unfold State.entry
    rw [hinterior.link]
  have hpool : v.pool = { s.pool with segs := s.pool.segs.modify seg fun q => { q with outstanding := q.outstanding - 1 } } := by rw [hv.rest]; rfl
  refine ⟨(v.faultOn seg a.status).refreshTally, f.takePart part a.status, hexec, ?_, ?_, ?_, ?_, InFlight.takePart_req .., fun hone => ?_,
    fun hmore => ?_, fun u hu => ?_, ?_, ?_, ?_, ?_, ?_, fun hok => ?_, fun i base hi huse previous => ?_, fun hfault => ⟨fun i hi => ?_, fun q hq => ?_⟩⟩
  · refine (hentries tag).trans ?_
    rw [hentry, Option.map_some, if_pos rfl]
  · exact (InFlight.takePart_counts part a.status hplan hparts).1
  · exact (InFlight.takePart_counts part a.status hplan hparts).2.1
  · exact (InFlight.takePart_counts part a.status hplan hparts).2.2
  · rw [InFlight.takePart_of_last part a.status hplan hone]
    exact ⟨rfl, rfl⟩
  · rw [InFlight.takePart_of_more part a.status hmore]
    exact ⟨rfl, rfl⟩
  · refine (hentries u).trans ?_
    simp only [if_neg hu]
    exact Option.map_id'
  · rw [State.refreshTally_link, hlink]
    rfl
  · rw [State.refreshTally_link, hlink]
    rfl
  · rw [State.refreshTally_link, hlink]
    rfl
  · rw [State.refreshTally_capture, hinterior.capture, hv.rest]
    rfl
  · rw [State.refreshTally_guardStep, hinterior.guardStep, hv.rest]
    rfl
  · rw [hok]
    show v.pool = _ ∧ v.timeline = _ ∧ v.edits = _ ∧ v.quarantine = _ ∧ (∀ u, tap ≠ some u → v.tap u = _) ∧ ∀ i, v.tap i = _
    refine ⟨hpool, ?_, ?_, ?_, hv.others, hv.tap_form⟩
    · rw [hv.rest]
      rfl
    · rw [hv.rest]
      rfl
    · rw [hv.rest]
      rfl
  · intro served other awaits
    obtain ⟨base', huse', hown⟩ := hv.own i hi
    have hbase : base' = base := by
      rw [huse] at huse'
      cases huse'
      rfl
    rw [hbase] at hown
    have hserved : served ((v.faultOn seg a.status).refreshTally.tap i) = (served (s.tap i)).map fun sb => (sb.answered tag base a.status a.data).1 := by
      refine (faultOn_standing v seg a.status i previous).trans ?_
      rw [hown]
      exact Tap.standing_segmentAnswered ..
    have hotherDef : other (s.tap i) = (s.tap i).standing !previous := by cases previous <;> rfl
    have hkept (hok : a.status = .ok) : (v.faultOn seg a.status).refreshTally.tap i = (s.tap i).segmentAnswered tag base .ok a.data := by
      rw [hok] at hown ⊢
      exact hown
    refine ⟨fun hidle => ?_, fun hidle hok => ?_, fun sb hsb hawaits => ?_⟩
    · rw [hserved]
      exact (answered_idle base a.status a.data hidle).1
    · rw [hkept hok]
      exact Tap.segmentAnswered_of_idle base a.data previous fun sb h => hidle sb (h.imp_right fun h => hotherDef.trans h)
    · intro b put filled
      refine ⟨fun hfault => ?_, fun hok datas hfilled => ?_⟩
      · rw [hserved, hsb, hfault, Option.map_some, SlotBinding.answered_of_fault base a.data hawaits]
      · intro word complete
        have hchunks : (b.readback.chunks.map (fillChunk tag base a.data)).map (·.bytes) = datas.map some := by
          rw [← hfilled, List.map_map]
          exact List.map_congr_left fun c _ => fillChunk_bytes tag base a.data c
        have hanswered := SlotBinding.answered_of_filled base a.data hawaits hchunks
        refine ⟨?_, fun hidle => ?_⟩
        · rw [hserved, hsb, hok, Option.map_some, hanswered]
        · rw [hkept hok, Tap.segmentAnswered_latch base a.data hsb fun sb' h => hidle sb' (hotherDef.trans h), hanswered]
          exact congrArg _ (ite_congr_cond decide_eq_true_iff rfl rfl)
  · exact (v.faultOn_tap seg a.status i).latch 5 (hv.fault_latched hi hfault)
  · have hlowered : v.seg? seg = some { q with outstanding := q.outstanding - 1 } := by
      unfold State.seg?
      rw [hpool]
      exact (List.getElem?_modify_eq ..).trans (congrArg _ hq)
    rw [hfault]
    exact State.faultOn_record hlowered

end Sys2Proof.Machine

/-! SUPPORT. What the end of the load leaves (R129, R143, R182). -/

namespace Sys2Proof.Machine

/-- Two steps that agree on the states that a fold meets give the same fold. -/
theorem foldl_congr_of {α β : Type} {P : β → Prop} {f g : β → α → β} (h : ∀ b a, P b → f b a = g b a ∧ P (g b a)) (l : List α) {b : β} (hb : P b) :
    l.foldl f b = l.foldl g b := by
  induction l generalizing b with
  | nil => rfl
  | cons a l ih =>
    obtain ⟨heq, hkept⟩ := h b a hb
    rw [List.foldl_cons, List.foldl_cons, heq]
    exact ih hkept

theorem foldl_tapIds_setControl (F : TapSettings → TapSettings) (G : TapSettings → Tap → Tap) (s : State) :
    tapIds.foldl (fun s t => s.setControl t (F (s.settings t)) (G (s.settings t) (s.tap t))) s =
      s.withControls (.of fun i => F (s.settings i)) (.of fun i => G (s.settings i) (s.tap i)) := by
  rw [foldl_setControl F G (by decide)]
  simp only [mem_tapIds, if_true]

/-- The delays of the four taps, brought to Dmax. -/
theorem State.takeDelays_eq (s : State) :
    tapIds.foldl State.takeDelay s =
      s.withControls (.of fun i => { s.settings i with de := min (s.settings i).de s.dmax })
        (.of fun i => { s.tap i with dt := min (s.settings i).de s.dmax }) := by
  rw [foldl_congr_of (P := fun u => u.dmax = s.dmax)
    (g := fun u t => u.setControl t { u.settings t with de := min (u.settings t).de s.dmax } { u.tap t with dt := min (u.settings t).de s.dmax })
    (fun u t hu => ⟨?_, hu⟩) tapIds rfl]
  · exact foldl_tapIds_setControl (fun c => { c with de := min c.de s.dmax }) (fun c x => { x with dt := min c.de s.dmax }) s
  · rw [← hu]
    rfl

theorem State.dropReferences_of_bare {s : State} {t : Fin 4} (h : (s.tap t).bare = s.tap t) : s.dropReferences t = s := by
  have hcurrent : (s.tap t).current = none := by rw [← h]; rfl
  have hprevious : (s.tap t).previous = none := by rw [← h]; rfl
  have hrepeat : (s.tap t).repeatSource = none := by rw [← h]; rfl
  unfold State.dropReferences
  dsimp only
  rw [hcurrent, hprevious, hrepeat]
  exact (congrArg (s.setTap t) h).trans (s.setTap_self t)

/-- A tap that starts by its settings: turned on at the edge when it is enabled. -/
def Tap.started (edge : Word) (c : TapSettings) (x : Tap) : Tap := if c.enabled then x.on c.policy edge c else x

/-- A tap without references starts at the live edge. -/
theorem State.startTap_eq {s : State} {t : Fin 4} (h : (s.tap t).bare = s.tap t) :
    s.startTap t = s.setControl t (s.settings t) ((s.tap t).started s.liveEdge (s.settings t)) := by
  rw [State.setControl_settings]
  unfold State.startTap Tap.started
  split
  · unfold State.tapOn
    rw [State.dropReferences_of_bare h]
    rfl
  · exact (s.setTap_self t).symm

/-- The four taps have started. -/
theorem State.startTaps_eq {s : State} (h : ∀ t, (s.tap t).bare = s.tap t) :
    tapIds.foldl State.startTap s = s.withControls s.store.config.taps (.of fun i => (s.tap i).started s.liveEdge (s.settings i)) := by
  rw [foldl_congr_of (P := fun u => u.liveEdge = s.liveEdge ∧ ∀ t, (u.tap t).bare = u.tap t)
    (g := fun u t => u.setControl t (u.settings t) ((u.tap t).started s.liveEdge (u.settings t))) (fun u t hu => ?_) tapIds ⟨rfl, h⟩]
  · exact foldl_tapIds_setControl (fun c => c) (fun c x => x.started s.liveEdge c) s
  · obtain ⟨hedge, hbare⟩ := hu
    refine ⟨hedge ▸ State.startTap_eq (hbare t), hedge, fun j => ?_⟩
    rw [State.setControl_tap_get]
    split
    · unfold Tap.started
      split
      · rw [← hbare t]
        rfl
      · exact hbare t
    · exact hbare j

theorem Tap.started_powerOn (c : TapSettings) (d : Nat) :
    Tap.started 0xFFFFFFFF#32 { c with de := min c.de d } { Tap.powerOn with dt := min c.de d } = loadedTap c d false := by
  unfold Tap.started loadedTap
  obtain ⟨enabled, policy, _, _, _, _⟩ := c
  cases enabled
  · rfl
  · cases policy <;> rfl

/-- Before the load ends no tap holds a reference, and the timeline is empty. -/
theorem State.tapsLoaded_eq {s : State} (hempty : s.timeline = .empty) (htaps : ∀ i, s.tap i = .powerOn) :
    s.tapsLoaded =
      s.withControls (.of fun i => { s.settings i with de := min (s.settings i).de s.dmax })
        (.of fun i => loadedTap (s.settings i) s.dmax false) := by
  have hedge : s.liveEdge = 0xFFFFFFFF#32 := by
    unfold State.liveEdge
    rw [hempty]
    rfl
  unfold State.tapsLoaded
  rw [State.takeDelays_eq, State.startTaps_eq]
  · refine congrArg (s.withControls _) (congrArg PerTap.of (funext fun i => ?_))
    rw [State.settings_withControls, State.tap_withControls, htaps]
    show Tap.started s.liveEdge _ _ = _
    rw [hedge]
    exact Tap.started_powerOn ..
  · intro i
    rw [State.tap_withControls, htaps]
    rfl

/-! ### The end of the load (R181, R182) -/

/-- `s` in another phase of start-up. -/
def State.inPhase (s : State) (p : StartPhase) : State := { s with startUp := { s.startUp with phase := p } }

/-- What the end of the load leaves of a state in which the timeline is empty and every tap is as at power-on. -/
def State.loaded (s : State) (c : WorkingConfig) (hard : List Nat) (invalid : Bool) : State :=
  State.refreshTally { s with
    startUp := { s.startUp with phase := .running }
    link := { s.link with geometry := some c.geometry }
    pool := { s.pool with segs := poolOf c.geometry.n hard }
    store :=
      { s.store with
        config := { c with taps := .of fun i => { c.taps.get i with de := min (c.taps.get i).de (s.takeConfig c hard).dmax } }
        pendingGeometry := c.geometry
        keptHard := hard
        invalid := invalid }
    taps := .of fun i => loadedTap (c.taps.get i) (s.takeConfig c hard).dmax invalid
    quarantine := { s.quarantine with lock := if c.lockAtStart then .locked else .unlocked }
    panel := s.panel.begin }

theorem loadedTap_raise (w : TapSettings) (d : Nat) : (loadedTap w d false).raise .storeInvalid = loadedTap w d true := by
  have hlatch : 0#32 ||| 1#32 <<< Event.storeInvalid.bit = 0x00800000#32 := by decide
  exact congrArg (fun l => { loadedTap w d true with latch := l }) hlatch

/-- STORE_INVALID in every tap. -/
theorem loadedTaps_raise (f : Fin 4 → TapSettings) (d : Nat) :
    (PerTap.of fun i => loadedTap (f i) d false).map (·.raise .storeInvalid) = .of fun i => loadedTap (f i) d true :=
  congrArg PerTap.of (funext fun i => loadedTap_raise (f i) d)

theorem State.finishLoad_eq {s : State} (p : StartPhase) (c : WorkingConfig) (hard : List Nat) (invalid : Bool)
    (hempty : s.timeline = .empty) (htaps : ∀ i, s.tap i = .powerOn) : (s.inPhase p).finishLoad c hard invalid = s.loaded c hard invalid := by
  have hloaded := State.tapsLoaded_eq (s := (s.inPhase p).takeConfig c hard) hempty htaps
  unfold State.finishLoad
  rw [show tapIds.foldl State.startTap _ = _ from hloaded]
  cases invalid
  · rfl
  · unfold State.loaded
    rw [← loadedTaps_raise]
    rfl

theorem poolOf_getElem? {n p : Nat} (hard : List Nat) (hp : p < n) :
    (poolOf n hard)[p]? = some (Segment.powerOn (if p ∈ hard then .retired else .free)) := by
  unfold poolOf
  rw [List.getElem?_map, List.getElem?_range hp, Option.map_some]
  simp only [List.contains_iff_mem]

theorem State.loaded_loadedAs {s : State} (c : WorkingConfig) (hard : List Nat) (invalid : Bool) (hrecords : s.quarantine.records = []) :
    State.LoadedAs s (s.loaded c hard invalid) c hard invalid where
  startUp := rfl
  link := rfl
  pool := rfl
  segCount := by
    show (poolOf c.geometry.n hard).length = _
    unfold poolOf
    rw [List.length_map, List.length_range]
  segs := fun p hp => poolOf_getElem? hard hp
  store := rfl
  settings := fun i => PerTap.get_of ..
  taps := fun i => PerTap.get_of ..
  quarantine := by
    rw [← hrecords]
    rfl
  panel := rfl
  capture := rfl
  timeline := rfl
  edits := rfl
  guardStep := rfl
  pending := rfl

end Sys2Proof.Machine

/-! SUPPORT. The start-up commands (R181, R182, R185). -/

namespace Sys2Proof.Machine

section Load

variable {s : State}

/-- The end of the load on a state that is as at power-on. -/
theorem State.finishLoad_of_quiet (hquiet : s.quietBeforeLoad) (hphase : s.startUp.phase ≠ .running) (p : StartPhase) (straps : Straps)
    (held : List Byte) (c : WorkingConfig) (hard : List Nat) (invalid : Bool) :
    let s1 : State := { s with startUp := { s.startUp with straps := straps }, store := { s.store with contents := held } }
    State.LoadedAs s1 ((s1.inPhase p).finishLoad c hard invalid) c hard invalid := by
  intro s1
  have htap (i : Fin 4) : s1.tap i = .powerOn := State.tap_of_quiet hquiet hphase i
  obtain ⟨-, -, -, -, -, -, hempty, -, -, hrecords, -⟩ := hquiet hphase
  rw [State.finishLoad_eq (s := s1) p c hard invalid hempty htap]
  exact s1.loaded_loadedAs c hard invalid hrecords

theorem exec_storeLoadStart_of_resetHeld (straps : Straps) (hphase : s.startUp.phase = .resetHeld) :
    exec (.storeLoadStart straps) s =
      if straps.storeEn then .next (State.inPhase { s with startUp := { s.startUp with straps := straps } } .loading)
      else .next ((State.inPhase { s with startUp := { s.startUp with straps := straps } } .loading).finishLoad (defaultConfig straps.apsel) [] false) := by
  have hexec : exec (.storeLoadStart straps) s = execStoreLoadStart straps s := rfl
  rw [hexec, execStoreLoadStart, hphase]
  rfl

theorem exec_storeLoadEnd_of_loading {reply : StoreReply} (hphase : s.startUp.phase = .loading) (hwf : reply.wf = true) :
    exec (.storeLoadEnd reply) s =
      .next ((s.storeAnswers reply).endLoad (if reply = .noAck then none else parseRecord (s.storeAnswers reply).store.contents)) := by
  have hexec : exec (.storeLoadEnd reply) s = execStoreLoadEnd reply s := rfl
  rw [hexec, execStoreLoadEnd, hphase]
  dsimp only
  rw [if_pos hwf]

/-- The answer of the store leaves the contents it holds. -/
theorem State.storeAnswers_eq {reply : StoreReply} {held : List Byte}
    (h : (reply = .stored ∨ reply = .noAck) ∧ held = s.store.contents ∨ reply = .holding held) :
    s.storeAnswers reply = { s with store := { s.store with contents := held } } := by
  obtain ⟨rfl | rfl, rfl⟩ | rfl := h <;> rfl

end Load

/-- Settles O19: each way to end the load finishes it on a state as at power-on. -/
theorem storeLoadEndsAsTheRecordSays : Obligations.StoreLoadEndsAsTheRecordSays := by
  refine ⟨fun s straps hquiet hphase => ⟨fun hen => ?_, fun hen => ?_⟩, fun s hquiet => ⟨fun hphase reply held hwf hheld => ?_, fun hphase => ?_, fun hphase => ?_⟩⟩
  · rw [exec_storeLoadStart_of_resetHeld straps hphase, if_pos hen]
    rfl
  · rw [exec_storeLoadStart_of_resetHeld straps hphase, if_neg (Bool.eq_false_iff.mp hen)]
    exact ⟨_, rfl, State.finishLoad_of_quiet hquiet (by rw [hphase]; decide) .loading straps s.store.contents _ _ _⟩
  · have hrunning : s.startUp.phase ≠ .running := by rw [hphase]; decide
    have hloaded := State.finishLoad_of_quiet hquiet hrunning s.startUp.phase s.startUp.straps held
    rw [exec_storeLoadEnd_of_loading hphase hwf, State.storeAnswers_eq hheld]
    refine ⟨_, rfl, fun c hard hack hparse => ?_, fun hnone => ?_⟩
    · rw [if_neg hack, hparse]
      exact hloaded c hard false
    · have hrecord : (if reply = .noAck then none else parseRecord held) = none := by
        obtain h | h := hnone
        · exact if_pos h
        · rw [h, ite_self]
      rw [hrecord]
      exact hloaded (defaultConfig s.startUp.straps.apsel) [] true
  · have hexec : exec .tporExpiry s = execTporExpiry s := rfl
    rw [hexec, execTporExpiry, hphase]
    exact ⟨_, rfl, State.finishLoad_of_quiet hquiet (by rw [hphase]; decide) s.startUp.phase s.startUp.straps s.store.contents _ _ _⟩
  · have hexec : exec .tporExpiry s = execTporExpiry s := rfl
    rw [hexec, execTporExpiry, hphase]

end Sys2Proof.Machine

/-! SUPPORT. Little-endian fields, and fields of a layout that is a list of chunks (Table 61). -/

namespace Sys2Proof.Machine

theorem toLE_length (n v : Nat) : (toLE n v).length = n := by
  induction n generalizing v with
  | zero => rfl
  | succ n ih => exact congrArg (· + 1) (ih _)

theorem fromLE_toLE (n v : Nat) : fromLE (toLE n v) = v % 256 ^ n := by
  induction n generalizing v with
  | zero => exact (Nat.mod_one v).symm
  | succ n ih =>
    show (BitVec.ofNat 8 v).toNat + 256 * fromLE (toLE n (v / 256)) = _
    have hsplit : v % 256 ^ (n + 1) = v % 256 + 256 * (v / 256 % 256 ^ n) := by rw [Nat.pow_succ', Nat.mod_mul]
    rw [ih, BitVec.toNat_ofNat, hsplit]

theorem fromLE_lt (bs : List Byte) : fromLE bs < 256 ^ bs.length := by
  induction bs with
  | nil => exact Nat.one_pos
  | cons b bs ih =>
    have hb := b.isLt
    rw [List.length_cons, Nat.pow_succ']
    show b.toNat + 256 * fromLE bs < _
    omega

theorem field_lt (bs : List Byte) (off n : Nat) : field bs off n < 256 ^ n :=
  Nat.lt_of_lt_of_le (fromLE_lt _) (Nat.pow_le_pow_right (by decide) (List.length_take_le ..))

/-- A field of a slice of a layout. -/
theorem field_drop_take (bs : List Byte) (base len off n : Nat) (h : off + n ≤ len) :
    field ((bs.drop base).take len) off n = field bs (base + off) n := by
  unfold field
  rw [List.drop_take, List.take_take, List.drop_drop, Nat.min_eq_left (by omega)]

theorem byteOf_eq (bs : List Byte) (off : Nat) : byteOf bs off = BitVec.ofNat 8 (field bs off 1) := by
  rw [field_one, BitVec.ofNat_toNat, BitVec.setWidth_eq]

theorem byteOf_getLsbD (bs : List Byte) (off : Nat) (bit : Nat) : (byteOf bs off).getLsbD bit = (field bs off 1).testBit bit := by
  rw [field_one]
  rfl

/-! ### Chunks -/

/-- A chunk of a layout, at the sum of the lengths before it. -/
theorem drop_take_flatten {α : Type} {L : List (List α)} {i off : Nat} {c : List α} (hc : L[i]? = some c)
    (hoff : ((L.map List.length).take i).sum = off) (R : List (List α)) : ((L ++ R).flatten.drop off).take c.length = c := by
  induction L generalizing i off with
  | nil => cases hc
  | cons d L ih =>
    cases i with
    | zero =>
      cases hc
      rw [← hoff]
      exact List.take_left
    | succ i =>
      rw [List.map_cons, List.take_succ_cons, List.sum_cons] at hoff
      rw [← hoff, List.cons_append, List.flatten_cons, ← List.drop_drop, List.drop_left]
      exact ih hc rfl

theorem field_chunk {L : List (List Byte)} {i off n v : Nat} (hc : L[i]? = some (toLE n v)) (hoff : ((L.map List.length).take i).sum = off)
    (R : List (List Byte)) : field (L ++ R).flatten off n = v % 256 ^ n := by
  have h := drop_take_flatten hc hoff R
  rw [toLE_length] at h
  unfold field
  rw [h, fromLE_toLE]

theorem slice_chunk {L : List (List Byte)} {i off n : Nat} {c : List Byte} (hc : L[i]? = some c) (hoff : ((L.map List.length).take i).sum = off)
    (hn : c.length = n) (R : List (List Byte)) : ((L ++ R).flatten.drop off).take n = c := hn ▸ drop_take_flatten hc hoff R

/-! ### The record of a tap (Table 61, Note 1) -/

/-- The chunks of a tap's twelve bytes. -/
def tapChunks (c : TapSettings) : List (List Byte) :=
  [toLE 1 (weigh c.enabled 0 + weigh (c.policy == .wait) 1), zeros 1, toLE 2 c.de, toLE 2 c.p, toLE 2 c.k, toLE 1 c.g, zeros 3]

theorem tapRecord_eq (c : TapSettings) : tapRecord c = (tapChunks c ++ []).flatten := by
  unfold tapRecord tapChunks
  simp only [List.flatten_cons, List.flatten_nil, List.append_nil, List.append_assoc]

theorem tapRecord_length (c : TapSettings) : (tapRecord c).length = 12 := rfl

/-- Two flags in one byte. -/
theorem weigh_getLsbD (a b : Bool) :
    (BitVec.ofNat 8 (weigh a 0 + weigh b 1)).getLsbD 0 = a ∧ (BitVec.ofNat 8 (weigh a 0 + weigh b 1)).getLsbD 1 = b := by
  cases a <;> cases b <;> decide

theorem field_tapRecord {c : TapSettings} {i off n v : Nat} (hc : (tapChunks c)[i]? = some (toLE n v))
    (hoff : (([1, 1, 2, 2, 2, 1, 3] : List Nat).take i).sum = off) : field (tapRecord c) off n = v % 256 ^ n := by
  have hlengths : (tapChunks c).map List.length = [1, 1, 2, 2, 2, 1, 3] := rfl
  rw [tapRecord_eq]
  exact field_chunk hc (hlengths ▸ hoff) []

/-- A tap's settings in their ranges read back. -/
theorem parseTapRecord_tapRecord {c : TapSettings} (h : c.inRange) : parseTapRecord (tapRecord c) = c := by
  obtain ⟨hde, hp, hp', hk, hg⟩ := h
  have hflags : byteOf (tapRecord c) 0 = BitVec.ofNat 8 (weigh c.enabled 0 + weigh (c.policy == .wait) 1) := rfl
  have hfde : field (tapRecord c) 2 2 = c.de := (field_tapRecord (i := 2) rfl rfl).trans (Nat.mod_eq_of_lt (by omega))
  have hfp : field (tapRecord c) 4 2 = c.p := (field_tapRecord (i := 3) rfl rfl).trans (Nat.mod_eq_of_lt (by omega))
  have hfk : field (tapRecord c) 6 2 = c.k := (field_tapRecord (i := 4) rfl rfl).trans (Nat.mod_eq_of_lt (by omega))
  have hfg : field (tapRecord c) 8 1 = c.g := (field_tapRecord (i := 5) rfl rfl).trans (Nat.mod_eq_of_lt (by omega))
  have hclamp : clampTo 2 4095 c.p = c.p := by unfold clampTo; omega
  unfold parseTapRecord
  rw [hfde, hfp, hfk, hfg, hflags, hclamp]
  dsimp only
  rw [Nat.min_eq_left hk]
  obtain ⟨henabled, hpolicy⟩ := weigh_getLsbD c.enabled (c.policy == .wait)
  rw [henabled, hpolicy]
  obtain ⟨enabled, policy, de, p, k, g⟩ := c
  cases policy <;> rfl

/-! ### The record (R180, R183) -/

/-- The chunks of the record before the hard list. -/
def recordHead (g : Geometry) (c : WorkingConfig) (hard : List Nat) : List (List Byte) :=
  [recordMark, toLE 1 1, toLE 1 g.sCode.val, toLE 2 g.n, toLE 2 g.q, toLE 5 g.apertureBase.toNat, toLE 5 g.backingBase.toNat,
    toLE 1 (weigh (c.checkPolicy == .repeatSource) 0 + weigh c.lockAtStart 1), toLE 1 c.faultThreshold, toLE 1 c.stallLimit, zeros 1,
    toLE 2 c.dumpLength, toLE 1 c.maskLead, toLE 1 c.snapReach, toLE 2 c.maskLimit, toLE 1 (c.panelTaps.toNat + 16 * c.tallyTap.val), zeros 1,
    tapRecord c.taps.t0, tapRecord c.taps.t1, tapRecord c.taps.t2, tapRecord c.taps.t3, toLE 1 hard.length, zeros 3]

/-- The chunks after the hard list, but for the check word. -/
def recordTail (hard : List Nat) : List (List Byte) := [zeros (128 - 2 * hard.length), zeros 40]

theorem recordBody_eq (g : Geometry) (c : WorkingConfig) (hard : List Nat) :
    recordBody g c hard = (recordHead g c hard ++ (hard.map (toLE 2) ++ recordTail hard)).flatten := by
  unfold recordBody recordHead recordTail
  simp only [List.flatten_cons, List.flatten_nil, List.flatten_append, List.append_nil, List.append_assoc, List.flatMap_def, List.cons_append,
    List.nil_append]

theorem recordHead_lengths (g : Geometry) (c : WorkingConfig) (hard : List Nat) :
    (recordHead g c hard).map List.length = [4, 1, 1, 2, 2, 5, 5, 1, 1, 1, 1, 2, 1, 1, 2, 1, 1, 12, 12, 12, 12, 1, 3] := rfl

theorem recordBody_length {g : Geometry} {c : WorkingConfig} {hard : List Nat} (h : hard.length ≤ 64) : (recordBody g c hard).length = 252 := by
  have hhard : (hard.map (toLE 2)).map List.length = List.replicate hard.length 2 := by
    rw [List.map_map]
    exact List.map_eq_replicate_iff.mpr fun p _ => toLE_length 2 p
  have hsum : (List.replicate hard.length 2).sum = hard.length * 2 := by simp
  rw [recordBody_eq, List.length_flatten, List.map_append, List.map_append, List.sum_append, List.sum_append, recordHead_lengths, hhard, hsum]
  unfold recordTail zeros
  simp only [List.map_cons, List.map_nil, List.length_replicate, List.sum_cons, List.sum_nil]
  omega

theorem recordBody_append (g : Geometry) (c : WorkingConfig) (hard : List Nat) (w : List Byte) :
    recordBody g c hard ++ w = (recordHead g c hard ++ (hard.map (toLE 2) ++ recordTail hard ++ [w])).flatten := by
  rw [recordBody_eq]
  simp only [List.flatten_append, List.flatten_cons, List.flatten_nil, List.append_nil, List.append_assoc]

/-- A field before the hard list. -/
theorem field_buildRecord {g : Geometry} {c : WorkingConfig} {hard : List Nat} {i off n v : Nat} (hc : (recordHead g c hard)[i]? = some (toLE n v))
    (hoff : (([4, 1, 1, 2, 2, 5, 5, 1, 1, 1, 1, 2, 1, 1, 2, 1, 1, 12, 12, 12, 12, 1, 3] : List Nat).take i).sum = off) :
    field (buildRecord g c hard) off n = v % 256 ^ n := by
  unfold buildRecord
  dsimp only
  rw [recordBody_append]
  exact field_chunk hc (recordHead_lengths g c hard ▸ hoff) _

/-- Bytes before the hard list. -/
theorem slice_buildRecord {g : Geometry} {c : WorkingConfig} {hard : List Nat} {i off n : Nat} {bs : List Byte}
    (hc : (recordHead g c hard)[i]? = some bs)
    (hoff : (([4, 1, 1, 2, 2, 5, 5, 1, 1, 1, 1, 2, 1, 1, 2, 1, 1, 12, 12, 12, 12, 1, 3] : List Nat).take i).sum = off) (hn : bs.length = n) :
    ((buildRecord g c hard).drop off).take n = bs := by
  unfold buildRecord
  dsimp only
  rw [recordBody_append]
  exact slice_chunk hc (recordHead_lengths g c hard ▸ hoff) hn _

/-- An entry of the hard list. -/
theorem field_hard {g : Geometry} {c : WorkingConfig} {hard : List Nat} {k : Nat} (hk : k < hard.length) :
    field (buildRecord g c hard) (84 + 2 * k) 2 = hard[k] % 65536 := by
  have hlengths : (recordHead g c hard ++ hard.map (toLE 2)).map List.length =
      (recordHead g c hard).map List.length ++ List.replicate hard.length 2 := by
    rw [List.map_append, List.map_map]
    exact congrArg _ (List.map_eq_replicate_iff.mpr fun p _ => toLE_length 2 p)
  have hoff : (((recordHead g c hard ++ hard.map (toLE 2)).map List.length).take (23 + k)).sum = 84 + 2 * k := by
    have htake : (List.replicate hard.length 2).take k = List.replicate k 2 := by rw [List.take_replicate, Nat.min_eq_left (Nat.le_of_lt hk)]
    rw [hlengths, recordHead_lengths, List.take_append, List.take_of_length_le (by simp), List.sum_append]
    show 84 + ((List.replicate hard.length 2).take (23 + k - 23)).sum = _
    rw [Nat.add_sub_cancel_left, htake]
    simp [Nat.mul_comm]
  have hc : (recordHead g c hard ++ hard.map (toLE 2))[23 + k]? = some (toLE 2 hard[k]) := by
    have hlength : (recordHead g c hard).length = 23 := rfl
    rw [List.getElem?_append_right (by omega), hlength, Nat.add_sub_cancel_left, List.getElem?_map, List.getElem?_eq_getElem hk]
    rfl
  unfold buildRecord
  dsimp only
  rw [recordBody_append, List.append_assoc (hard.map (toLE 2)), ← List.append_assoc]
  exact field_chunk hc hoff _

end Sys2Proof.Machine

/-! SUPPORT. What a record built by a store write gives back, and which records are invalid (R181, R183). -/

namespace Sys2Proof.Machine

/-! ### A record that was built -/

theorem buildRecord_length {g : Geometry} {c : WorkingConfig} {hard : List Nat} (h : hard.length ≤ 64) : (buildRecord g c hard).length = 256 := by
  unfold buildRecord
  dsimp only
  rw [List.length_append, recordBody_length h, toLE_length]

theorem Geometry.consistent_iff (g : Geometry) :
    g.consistent = true ↔ 64 ≤ g.n ∧ g.n ≤ 4096 ∧ g.q ≤ 256 ∧ g.q ≤ g.n / 4 ∧ g.apertureBase.toNat % 2 ^ 26 = 0 ∧
      g.backingBase.toNat % 2 ^ 16 = 0 ∧ g.backingBase.toNat + g.backingSpan ≤ 2 ^ 40 ∧
        rangesMeet g.backingBase.toNat g.backingSpan g.apertureBase.toNat g.apertureSpan = false := by
  unfold Geometry.consistent
  simp only [Bool.and_eq_true, decide_eq_true_iff, beq_iff_eq, Bool.not_eq_true', and_assoc]

theorem recordValid_iff (bs : List Byte) :
    recordValid bs = true ↔ bs.length = 256 ∧ bs.take 4 = recordMark ∧ field bs 4 1 = 1 ∧
      field bs 252 4 = (checkWord (bs.take 252)).toNat ∧ field bs 5 1 ≤ 3 ∧ (parseGeometry bs).consistent = true := by
  unfold recordValid
  simp only [Bool.and_eq_true, decide_eq_true_iff, beq_iff_eq, and_assoc]
  rfl

section Built

variable {g : Geometry} {c : WorkingConfig} {hard : List Nat}

theorem buildRecord_check (h : hard.length ≤ 64) :
    field (buildRecord g c hard) 252 4 = (checkWord ((buildRecord g c hard).take 252)).toNat := by
  have hbody := recordBody_length (g := g) (c := c) h
  have hfield : field (buildRecord g c hard) 252 4 = (checkWord (recordBody g c hard)).toNat := by
    unfold field buildRecord
    dsimp only
    rw [← hbody, List.drop_left, List.take_of_length_le (Nat.le_of_eq (toLE_length ..)), fromLE_toLE]
    exact Nat.mod_eq_of_lt (BitVec.isLt _)
  have htake : (buildRecord g c hard).take 252 = recordBody g c hard := by
    unfold buildRecord
    dsimp only
    rw [← hbody]
    exact List.take_left
  rw [hfield, htake]

theorem parseGeometry_buildRecord (hn : g.n ≤ 4096) (hq : g.q ≤ 256) : parseGeometry (buildRecord g c hard) = g := by
  have haperture : field (buildRecord g c hard) 10 5 = g.apertureBase.toNat :=
    (field_buildRecord (i := 5) rfl rfl).trans (Nat.mod_eq_of_lt (BitVec.isLt _))
  have hbacking : field (buildRecord g c hard) 15 5 = g.backingBase.toNat :=
    (field_buildRecord (i := 6) rfl rfl).trans (Nat.mod_eq_of_lt (BitVec.isLt _))
  have hcode : field (buildRecord g c hard) 5 1 = g.sCode.val :=
    (field_buildRecord (i := 2) rfl rfl).trans (Nat.mod_eq_of_lt (Nat.lt_trans g.sCode.isLt (by decide)))
  have hsize : field (buildRecord g c hard) 6 2 = g.n := (field_buildRecord (i := 3) rfl rfl).trans (Nat.mod_eq_of_lt (by omega))
  have hcap : field (buildRecord g c hard) 8 2 = g.q := (field_buildRecord (i := 4) rfl rfl).trans (Nat.mod_eq_of_lt (by omega))
  unfold parseGeometry
  rw [haperture, hbacking, hcode, hsize, hcap, BitVec.ofNat_toNat, BitVec.setWidth_eq, BitVec.ofNat_toNat, BitVec.setWidth_eq, Fin.ofNat_val_eq_self]

theorem parseHardList_buildRecord (h : hard.length ≤ 64) (hp : ∀ p ∈ hard, p < 65536) : parseHardList (buildRecord g c hard) = hard := by
  have hcount : field (buildRecord g c hard) 80 1 = hard.length := (field_buildRecord (i := 21) rfl rfl).trans (Nat.mod_eq_of_lt (by omega))
  unfold parseHardList
  rw [hcount, show min hard.length Config.hardListMax = hard.length from Nat.min_eq_left h]
  refine List.ext_getElem (by rw [List.length_map, List.length_range]) fun k hk hk' => ?_
  rw [List.getElem_map, List.getElem_range, field_hard hk']
  exact Nat.mod_eq_of_lt (hp _ (List.getElem_mem hk'))

theorem parseConfig_buildRecord (hg : g.n ≤ 4096 ∧ g.q ≤ 256) (hc : c.inRange) : parseConfig (buildRecord g c hard) = { c with geometry := g } := by
  obtain ⟨htaps, hdump, hdump', hlead, hlead', hlimit, hlimit', hsnap, hfault, hfault', hstall, hstall'⟩ := hc
  have hclamp {lo hi v : Nat} (hl : lo ≤ v) (hh : v ≤ hi) : clampTo lo hi v = v := by unfold clampTo; omega
  have hpanel := c.panelTaps.isLt
  have htally := c.tallyTap.isLt
  have hflags : byteOf (buildRecord g c hard) 20 = BitVec.ofNat 8 (weigh (c.checkPolicy == .repeatSource) 0 + weigh c.lockAtStart 1) := by
    have hfield : field (buildRecord g c hard) 20 1 = (weigh (c.checkPolicy == .repeatSource) 0 + weigh c.lockAtStart 1) % 256 ^ 1 :=
      field_buildRecord (i := 7) rfl rfl
    rw [byteOf_eq, hfield]
    exact BitVec.eq_of_toNat_eq (by rw [BitVec.toNat_ofNat, BitVec.toNat_ofNat]; exact Nat.mod_mod ..)
  have hmasks : field (buildRecord g c hard) 30 1 = c.panelTaps.toNat + 16 * c.tallyTap.val :=
    (field_buildRecord (i := 15) rfl rfl).trans (Nat.mod_eq_of_lt (by omega))
  have hpanels : (byteOf (buildRecord g c hard) 30).setWidth 4 = c.panelTaps := by
    rw [byteOf_eq, hmasks]
    refine BitVec.eq_of_toNat_eq ?_
    rw [BitVec.toNat_setWidth, BitVec.toNat_ofNat]
    omega
  have htallies : Fin.ofNat 4 (field (buildRecord g c hard) 30 1 / 16) = c.tallyTap := by
    rw [hmasks]
    refine Fin.ext ?_
    show (c.panelTaps.toNat + 16 * c.tallyTap.val) / 16 % 4 = _
    omega
  have hfaults : field (buildRecord g c hard) 21 1 = c.faultThreshold :=
    (field_buildRecord (i := 8) rfl rfl).trans (Nat.mod_eq_of_lt (by omega))
  have hstalls : field (buildRecord g c hard) 22 1 = c.stallLimit := (field_buildRecord (i := 9) rfl rfl).trans (Nat.mod_eq_of_lt (by omega))
  have hdumps : field (buildRecord g c hard) 24 2 = c.dumpLength := (field_buildRecord (i := 11) rfl rfl).trans (Nat.mod_eq_of_lt (by omega))
  have hleads : field (buildRecord g c hard) 26 1 = c.maskLead := (field_buildRecord (i := 12) rfl rfl).trans (Nat.mod_eq_of_lt (by omega))
  have hsnaps : field (buildRecord g c hard) 27 1 = c.snapReach := (field_buildRecord (i := 13) rfl rfl).trans (Nat.mod_eq_of_lt (by omega))
  have hlimits : field (buildRecord g c hard) 28 2 = c.maskLimit := (field_buildRecord (i := 14) rfl rfl).trans (Nat.mod_eq_of_lt (by omega))
  have h0 : parseTapRecord (((buildRecord g c hard).drop 32).take 12) = c.taps.t0 :=
    (congrArg parseTapRecord (slice_buildRecord (i := 17) rfl rfl (tapRecord_length _))).trans (parseTapRecord_tapRecord (htaps 0))
  have h1 : parseTapRecord (((buildRecord g c hard).drop 44).take 12) = c.taps.t1 :=
    (congrArg parseTapRecord (slice_buildRecord (i := 18) rfl rfl (tapRecord_length _))).trans (parseTapRecord_tapRecord (htaps 1))
  have h2 : parseTapRecord (((buildRecord g c hard).drop 56).take 12) = c.taps.t2 :=
    (congrArg parseTapRecord (slice_buildRecord (i := 19) rfl rfl (tapRecord_length _))).trans (parseTapRecord_tapRecord (htaps 2))
  have h3 : parseTapRecord (((buildRecord g c hard).drop 68).take 12) = c.taps.t3 :=
    (congrArg parseTapRecord (slice_buildRecord (i := 20) rfl rfl (tapRecord_length _))).trans (parseTapRecord_tapRecord (htaps 3))
  obtain ⟨hcheck, hlock⟩ := weigh_getLsbD (c.checkPolicy == .repeatSource) c.lockAtStart
  have hpolicy : (if (c.checkPolicy == .repeatSource) = true then CheckPolicy.repeatSource else .serve) = c.checkPolicy := by
    cases c.checkPolicy <;> rfl
  unfold parseConfig
  rw [parseGeometry_buildRecord hg.1 hg.2, hflags, hcheck, hlock, hpolicy, hpanels, htallies, hfaults, hstalls, hdumps, hleads, hsnaps, hlimits,
    h0, h1, h2, h3, hclamp hdump hdump', hclamp hlead hlead', hclamp hlimit hlimit', hclamp hfault hfault',
    hclamp hstall hstall']

/-- The record that a store write builds reads back. -/
theorem parseRecord_buildRecord (hg : g.consistent = true) (hc : c.inRange) (hlength : hard.length ≤ 64) (hp : ∀ p ∈ hard, p < 65536) :
    parseRecord (buildRecord g c hard) = some ({ c with geometry := g }, hard) := by
  obtain ⟨_, hn, hq, _⟩ := g.consistent_iff.mp hg
  have hcode : field (buildRecord g c hard) 5 1 = g.sCode.val :=
    (field_buildRecord (i := 2) rfl rfl).trans (Nat.mod_eq_of_lt (Nat.lt_trans g.sCode.isLt (by decide)))
  have hmark : ((buildRecord g c hard).drop 0).take 4 = recordMark := slice_buildRecord (i := 0) rfl rfl rfl
  have hversion : field (buildRecord g c hard) 4 1 = 1 % 256 ^ 1 := field_buildRecord (i := 1) rfl rfl
  have hvalid : recordValid (buildRecord g c hard) = true :=
    (recordValid_iff _).mpr ⟨buildRecord_length hlength, hmark, hversion, buildRecord_check hlength, by rw [hcode]; exact Nat.le_of_lt_succ g.sCode.isLt, by rw [parseGeometry_buildRecord hn hq]; exact hg⟩
  unfold parseRecord
  rw [if_pos hvalid, parseConfig_buildRecord ⟨hn, hq⟩ hc, parseHardList_buildRecord hlength hp]

end Built

/-! ### Records that are invalid (R181) -/

theorem parseRecord_eq_none_iff (bs : List Byte) : parseRecord bs = none ↔ recordValid bs = false := by
  unfold parseRecord
  cases recordValid bs <;> simp

/-- The geometry of a record whose S code is in its range. -/
theorem parseGeometry_values {bs : List Byte} (h : field bs 5 1 ≤ 3) :
    (parseGeometry bs).apertureBase.toNat = field bs 10 5 ∧ (parseGeometry bs).backingBase.toNat = field bs 15 5 ∧
      (parseGeometry bs).sCode.val = field bs 5 1 :=
  ⟨Nat.mod_eq_of_lt (field_lt bs 10 5), Nat.mod_eq_of_lt (field_lt bs 15 5), Nat.mod_eq_of_lt (Nat.lt_succ_of_le h)⟩

theorem clampTo_max_min (lo hi v : Nat) : clampTo lo hi v = max lo (min hi v) := by
  unfold clampTo
  rw [Nat.min_comm]

theorem field_one_lt (bs : List Byte) (off : Nat) : field bs off 1 < 256 := field_lt bs off 1

/-- A tap's settings as a record gives them. -/
theorem parseTapRecord_slice (bs : List Byte) (off : Nat) :
    parseTapRecord ((bs.drop off).take 12) =
      { enabled := (field bs off 1).testBit 0
        policy := if (field bs off 1).testBit 1 then .wait else .build
        de := field bs (off + 2) 2
        p := max 2 (min 4095 (field bs (off + 4) 2))
        k := min (field bs (off + 6) 2) (max 2 (min 4095 (field bs (off + 4) 2)) / 2)
        g := field bs (off + 8) 1 } := by
  unfold parseTapRecord
  dsimp only
  rw [byteOf_getLsbD, byteOf_getLsbD, field_drop_take bs off 12 0 1 (by decide), field_drop_take bs off 12 2 2 (by decide),
    field_drop_take bs off 12 4 2 (by decide), field_drop_take bs off 12 6 2 (by decide), field_drop_take bs off 12 8 1 (by decide),
    clampTo_max_min, Nat.add_zero]

/-- Settles O15: the chunks of the record give back the fields, and the conditions of validity are those of R181. -/
theorem storeRecordReadsBack : Obligations.StoreRecordReadsBack := by
  refine ⟨fun g c hard hg hc hlength hp => ⟨buildRecord_length hlength, parseRecord_buildRecord hg hc hlength hp⟩, fun bs hbs => ?_⟩
  intro size n q aperture backing flag
  refine ⟨?_, fun c hard hparse => ?_⟩
  · rw [parseRecord_eq_none_iff, ← Bool.not_eq_true, recordValid_iff]
    by_cases hcode : field bs 5 1 ≤ 3
    · obtain ⟨haperture, hbacking, hs⟩ := parseGeometry_values hcode
      have hspan : (parseGeometry bs).backingSpan = n * size := congrArg (fun s => n * (16384 * 2 ^ s)) hs
      have haspan : (parseGeometry bs).apertureSpan = 296 * size := congrArg (fun s => 296 * (16384 * 2 ^ s)) hs
      have hsize : 0 < size := Nat.mul_pos (by decide) (Nat.two_pow_pos _)
      rw [Geometry.consistent_iff, haperture, hbacking, hspan, haspan]
      have hmeet : rangesMeet backing (n * size) aperture (296 * size) = false ↔
          ¬ ∃ a, backing ≤ a ∧ a < backing + n * size ∧ aperture ≤ a ∧ a < aperture + 296 * size := by
        rw [← Bool.not_eq_true, rangesMeet_iff]
        simp only [and_assoc]
      have hpos (h : 64 ≤ n) : 0 < n * size := Nat.mul_pos (by omega) hsize
      have hn : (parseGeometry bs).n = n := rfl
      have hq : (parseGeometry bs).q = q := rfl
      rw [hn, hq]
      refine ⟨fun hinvalid => ?_, fun hbad hvalid => ?_⟩
      · refine Classical.byContradiction fun hnot => ?_
        simp only [not_or, Classical.not_not] at hnot
        obtain ⟨hmark, hversion, hcheck, _, hlow, hhigh, hcap, hquarter, ha, hb, htop, hoverlap⟩ := hnot
        have hspos := hpos (by omega)
        exact hinvalid ⟨hbs, hmark, hversion, hcheck, hcode, by omega, by omega, by omega, by omega, ha, hb, by omega, hmeet.mpr hoverlap⟩
      · obtain ⟨_, hmark, hversion, hcheck, _, hlow, hhigh, hcap, hquarter, ha, hb, htop, hoverlap⟩ := hvalid
        have hspos := hpos hlow
        obtain h | h | h | h | h | h | h | h | h | h | h | h := hbad
        · exact h hmark
        · exact h hversion
        · exact h hcheck
        · omega
        · omega
        · omega
        · omega
        · omega
        · exact h ha
        · exact h hb
        · omega
        · exact hmeet.mp hoverlap h
    · exact ⟨fun _ => .inr (.inr (.inr (.inl (Nat.lt_of_not_le hcode)))), fun _ h => hcode h.2.2.2.2.1⟩
  · unfold parseRecord at hparse
    split at hparse
    · next hvalid =>
      cases hparse
      obtain ⟨_, _, _, _, hcode, _⟩ := (recordValid_iff bs).mp hvalid
      obtain ⟨haperture, hbacking, hs⟩ := parseGeometry_values hcode
      have hstall := field_one_lt bs 22
      refine ⟨haperture, hbacking, hs, rfl, rfl, ?_, byteOf_getLsbD bs 20 1, clampTo_max_min .., ?_, clampTo_max_min .., clampTo_max_min .., rfl,
        clampTo_max_min .., fun i => ?_, rfl, fun i => ?_, rfl⟩
      · show (if (byteOf bs 20).getLsbD 0 then _ else _) = _
        rw [byteOf_getLsbD]
      · show clampTo 1 255 (field bs 22 1) = _
        unfold clampTo
        omega
      · show ((byteOf bs 30).setWidth 4).getLsbD i.val = _
        rw [BitVec.getLsbD_setWidth, decide_eq_true i.isLt, Bool.true_and]
        exact byteOf_getLsbD bs 30 i.val
      · match i with
        | 0 => exact parseTapRecord_slice bs 32
        | 1 => exact parseTapRecord_slice bs 44
        | 2 => exact parseTapRecord_slice bs 56
        | 3 => exact parseTapRecord_slice bs 68
    · cases hparse

end Sys2Proof.Machine

/-! SUPPORT. Who owns a segment (Table 21): the law of ownership, one segment at a time, and how freeing, quarantining and departing hand a
segment on. -/

namespace Sys2Proof.Machine

/-! ### One segment and its owner -/

/-- The states in which a part of the machine names the segment. -/
def SegState.hasOwner (k : SegState) : Bool :=
  match k with
  | .free | .held | .retired => false
  | .filling | .live | .maskImage | .quarantined | .testing => true

/-- A segment's departure record is there exactly while it is HELD, when it is pinned, and is its own. -/
def Segment.RecordFits (g : Segment) (p : Nat) : Prop :=
  (g.state = .held ↔ g.departure ≠ none) ∧ (g.state = .held → 0 < g.pins) ∧ ∀ r, g.departure = some r → r.phys = p

/-- Segment `p` is named once by the owner that its state says, and by no other. -/
def State.Placed (s : State) (p : Nat) : Prop :=
  (∀ k, (s.named k).count p = if (s.seg? p).any (fun g => decide (g.state = k ∧ k.hasOwner = true)) = true then 1 else 0) ∧
    ∀ g, s.seg? p = some g → g.RecordFits p

/-- Segment `p` is in the pool, and no part of the machine names it. -/
def State.Loose (s : State) (p : Nat) : Prop := (∀ k, (s.named k).count p = 0) ∧ ∃ g, s.seg? p = some g

/-- Nothing names a segment of `X`, and every other one has its owner. -/
def State.Owned (X : List Nat) (s : State) : Prop := ∀ p, (p ∈ X → s.Loose p) ∧ (p ∉ X → s.Placed p)

theorem State.named_of_ownerless {s : State} {k : SegState} (h : k.hasOwner = false) : s.named k = [] := by
  cases k with
  | free | held | retired => rfl
  | filling | live | maskImage | quarantined | testing => cases h

theorem State.hasOwner_of_mem {s : State} {k : SegState} {p : Nat} (h : p ∈ s.named k) : k.hasOwner = true :=
  Bool.of_not_eq_false fun hown => by rw [State.named_of_ownerless hown] at h; cases h

theorem any_owner_iff (a : Option Segment) (k : SegState) :
    a.any (fun g => decide (g.state = k ∧ k.hasOwner = true)) = true ↔ ∃ g, a = some g ∧ g.state = k ∧ k.hasOwner = true := by
  cases a with
  | none => simp
  | some g => simp

theorem State.placed_iff (s : State) (p : Nat) :
    s.Placed p ↔
      (∀ k, (s.named k).count p ≤ 1 ∧ (p ∈ s.named k → ∃ g, s.seg? p = some g ∧ g.state = k)) ∧
        ∀ g, s.seg? p = some g → (g.state = .free ∨ g.state = .retired ∨ g.state = .held ∨ p ∈ s.named g.state) ∧ g.RecordFits p := by
  have hfree (g : Segment) : (g.state = .free ∨ g.state = .retired ∨ g.state = .held) ↔ g.state.hasOwner = false := by
    cases g.state <;> simp [SegState.hasOwner]
  constructor
  · rintro ⟨hcount, hrecord⟩
    refine ⟨fun k => ⟨?_, fun hp => ?_⟩, fun g hg => ⟨?_, hrecord g hg⟩⟩
    · rw [hcount k]
      split <;> simp
    · have hpos := List.count_pos_iff.mpr hp
      rw [hcount k] at hpos
      split at hpos
      · next h =>
        obtain ⟨g, hg, hk, -⟩ := (any_owner_iff ..).mp h
        exact ⟨g, hg, hk⟩
      · cases hpos
    · have h := hcount g.state
      rw [hg, Option.any_some] at h
      cases hown : g.state.hasOwner with
      | false =>
        obtain hstate | hstate | hstate := (hfree g).mpr hown
        · exact .inl hstate
        · exact .inr (.inl hstate)
        · exact .inr (.inr (.inl hstate))
      | true =>
        rw [hown, if_pos (by simp)] at h
        exact .inr (.inr (.inr (List.count_pos_iff.mp (by omega))))
  · rintro ⟨hnamed, hseg⟩
    refine ⟨fun k => ?_, fun g hg => (hseg g hg).2⟩
    split
    · next h =>
      obtain ⟨g, hg, rfl, hown⟩ := (any_owner_iff ..).mp h
      have hmem : p ∈ s.named g.state := by
        have hnot : ¬ (g.state = .free ∨ g.state = .retired ∨ g.state = .held) := by rw [hfree, hown]; decide
        obtain hstate | hstate | hstate | hmem := (hseg g hg).1
        · exact absurd (.inl hstate) hnot
        · exact absurd (.inr (.inl hstate)) hnot
        · exact absurd (.inr (.inr hstate)) hnot
        · exact hmem
      have := List.count_pos_iff.mpr hmem
      have := (hnamed g.state).1
      omega
    · next h =>
      refine List.count_eq_zero.mpr fun hp => h ?_
      obtain ⟨g, hg, rfl⟩ := (hnamed k).2 hp
      exact (any_owner_iff ..).mpr ⟨g, hg, rfl, State.hasOwner_of_mem hp⟩

/-- The law of ownership, one segment at a time. -/
theorem State.segmentsOwned_iff (s : State) : s.segmentsOwned ↔ s.Owned [] := by
  constructor
  · rintro ⟨hnamed, hseg⟩ p
    refine ⟨fun h => (nomatch h), fun _ => (s.placed_iff p).mpr ⟨fun k => ?_, fun g hg => ?_⟩⟩
    · obtain ⟨hnodup, hstate⟩ := hnamed k
      exact ⟨nodup_iff_count.mp hnodup p, hstate p⟩
    · obtain ⟨howner, hheld⟩ := hseg p g hg
      exact ⟨howner, hheld⟩
  · intro h
    have hplaced (p : Nat) := (s.placed_iff p).mp ((h p).2 List.not_mem_nil)
    exact ⟨fun k => ⟨nodup_iff_count.mpr fun p => ((hplaced p).1 k).1, fun p hp => ((hplaced p).1 k).2 hp⟩,
      fun p g hg => (hplaced p).2 g hg⟩

theorem State.Owned.loose {X : List Nat} {s : State} (h : s.Owned X) {p : Nat} (hp : p ∈ X) : s.Loose p := (h p).1 hp

theorem State.Owned.placed {X : List Nat} {s : State} (h : s.Owned X) {p : Nat} (hp : p ∉ X) : s.Placed p := (h p).2 hp

theorem State.Loose.not_mem {s : State} {p : Nat} (h : s.Loose p) (k : SegState) : p ∉ s.named k := List.count_eq_zero.mp (h.1 k)

/-- A segment in no owner's state is named by nobody. -/
theorem State.Placed.loose {s : State} {p : Nat} {g : Segment} (h : s.Placed p) (hg : s.seg? p = some g) (hstate : g.state.hasOwner = false) :
    s.Loose p := by
  refine ⟨fun k => ?_, g, hg⟩
  rw [h.1 k, if_neg]
  rintro hk
  obtain ⟨g', hg', rfl, hown⟩ := (any_owner_iff ..).mp hk
  cases hg.symm.trans hg'
  rw [hstate] at hown
  cases hown

theorem State.Placed.seg_of_mem {s : State} {p : Nat} {k : SegState} (h : s.Placed p) (hp : p ∈ s.named k) :
    ∃ g, s.seg? p = some g ∧ g.state = k :=
  (((s.placed_iff p).mp h).1 k).2 hp

theorem State.Owned.seg_of_mem {X : List Nat} {s : State} (h : s.Owned X) {p : Nat} {k : SegState} (hp : p ∈ s.named k) :
    p ∉ X ∧ ∃ g, s.seg? p = some g ∧ g.state = k := by
  have hX : p ∉ X := fun hX => (h.loose hX).not_mem k hp
  exact ⟨hX, (h.placed hX).seg_of_mem hp⟩

/-! ### What leaves ownership as it is -/

/-- A record change that no owner notices. -/
structure Segment.Stays (g g' : Segment) : Prop where
  state : g'.state = g.state
  departure : g'.departure = g.departure
  pins : g.state = .held → 0 < g.pins → 0 < g'.pins

theorem Segment.Stays.refl (g : Segment) : g.Stays g := ⟨rfl, rfl, fun _ h => h⟩

theorem Segment.Stays.trans {g g' g'' : Segment} (h : g.Stays g') (k : g'.Stays g'') : g.Stays g'' :=
  ⟨k.state.trans h.state, k.departure.trans h.departure, fun hg hp => k.pins (h.state.trans hg) (h.pins hg hp)⟩

theorem Segment.Stays.recordFits {g g' : Segment} {p : Nat} (h : g.Stays g') (hg : g.RecordFits p) : g'.RecordFits p := by
  obtain ⟨hheld, hpins, hphys⟩ := hg
  refine ⟨?_, ?_, ?_⟩
  · rw [h.state, h.departure]; exact hheld
  · rw [h.state]; exact fun hs => h.pins hs (hpins hs)
  · rw [h.departure]; exact hphys

/-- Segment `p` has the same record, but for what no owner notices, and is named as often. -/
structure State.StaysAt (s t : State) (p : Nat) : Prop where
  count : ∀ k, (t.named k).count p = (s.named k).count p
  seg : Option.Rel Segment.Stays (s.seg? p) (t.seg? p)

theorem State.StaysAt.loose {s t : State} {p : Nat} (h : s.StaysAt t p) (hs : s.Loose p) : t.Loose p := by
  obtain ⟨hcount, g, hg⟩ := hs
  have hseg := h.seg
  rw [hg] at hseg
  generalize ht : t.seg? p = b at hseg
  cases hseg with
  | some _ => exact ⟨fun k => (h.count k).trans (hcount k), _, ht⟩

theorem State.StaysAt.placed {s t : State} {p : Nat} (h : s.StaysAt t p) (hs : s.Placed p) : t.Placed p := by
  obtain ⟨hcount, hseg⟩ := h
  obtain ⟨hnamed, hrecord⟩ := hs
  refine ⟨fun k => ?_, fun g' hg' => ?_⟩
  · rw [hcount, hnamed]
    generalize s.seg? p = a at hseg
    generalize t.seg? p = b at hseg
    cases hseg with
    | none => rfl
    | some h => rw [Option.any_some, Option.any_some, h.state]
  · rw [hg'] at hseg
    generalize hg : s.seg? p = a at hseg
    cases hseg with
    | some h => exact h.recordFits (hrecord _ hg)

/-- From `s` to `t` no segment changes owner. -/
structure KeepsOwners (s t : State) : Prop where
  stays : ∀ p, s.StaysAt t p

theorem KeepsOwners.owned {s t : State} (h : KeepsOwners s t) {X : List Nat} (hs : s.Owned X) : t.Owned X := fun p =>
  ⟨fun hp => (h.stays p).loose (hs.loose hp), fun hp => (h.stays p).placed (hs.placed hp)⟩

theorem option_rel_stays_refl (a : Option Segment) : Option.Rel Segment.Stays a a := by
  cases a with
  | none => exact .none
  | some g => exact .some (.refl g)

theorem KeepsOwners.refl (s : State) : KeepsOwners s s := ⟨fun _ => ⟨fun _ => rfl, option_rel_stays_refl _⟩⟩

theorem State.StaysAt.trans {s t u : State} {p : Nat} (h : s.StaysAt t p) (k : t.StaysAt u p) : s.StaysAt u p := by
  refine ⟨fun j => (k.count j).trans (h.count j), ?_⟩
  have h1 := h.seg
  have h2 := k.seg
  generalize s.seg? p = a at h1
  generalize t.seg? p = b at h1 h2
  generalize u.seg? p = c at h2
  cases h1 with
  | none => cases h2; exact .none
  | some h1 => cases h2 with | some h2 => exact .some (h1.trans h2)

theorem KeepsOwners.trans {s t u : State} (h : KeepsOwners s t) (k : KeepsOwners t u) : KeepsOwners s u :=
  ⟨fun p => (h.stays p).trans (k.stays p)⟩

theorem KeepsOwners.ite {s t u : State} {c : Prop} [Decidable c] (h : KeepsOwners s t) (k : KeepsOwners s u) :
    KeepsOwners s (if c then t else u) := by split <;> assumption

theorem KeepsOwners.foldl {α : Type} {f : State → α → State} (h : ∀ s x, KeepsOwners s (f s x)) (l : List α) (s : State) :
    KeepsOwners s (l.foldl f s) := by
  induction l generalizing s with
  | nil => exact .refl s
  | cons x l ih => exact (h s x).trans (ih _)

/-- The owners' lists and the segment records stand as they were. -/
theorem KeepsOwners.of_eq {s t : State} (hnamed : ∀ k, t.named k = s.named k) (hsegs : t.pool.segs = s.pool.segs) : KeepsOwners s t := by
  refine ⟨fun p => ⟨fun k => by rw [hnamed], ?_⟩⟩
  have hseg : t.seg? p = s.seg? p := by unfold State.seg?; rw [hsegs]
  rw [hseg]
  exact option_rel_stays_refl _

/-- What names a segment stands as it was. -/
theorem State.named_congr {s t : State} (hcontexts : t.capture.contexts = s.capture.contexts) (hentries : t.timeline.entries = s.timeline.entries)
    (hrecords : t.quarantine.records = s.quarantine.records) (himage : t.pool.maskImage = s.pool.maskImage)
    (hpattern : t.pool.pattern = s.pool.pattern) (k : SegState) : t.named k = s.named k := by
  unfold State.named
  rw [hcontexts, hentries, hrecords, himage, hpattern]

theorem KeepsOwners.raiseAll (s : State) (e : Event) : KeepsOwners s (s.raiseAll e) := .of_eq (fun _ => rfl) rfl

theorem KeepsOwners.raiseUnless (s : State) (quiet : Bool) (e : Event) : KeepsOwners s (s.raiseUnless quiet e) := .ite (.refl s) (.raiseAll s e)

theorem KeepsOwners.modifySeg (s : State) (p : Nat) {f : Segment → Segment} (hf : ∀ g, Segment.Stays g (f g)) : KeepsOwners s (s.modifySeg p f) := by
  refine ⟨fun q => ⟨fun _ => rfl, ?_⟩⟩
  rw [State.seg_modifySeg]
  split
  · cases s.seg? q with
    | none => exact .none
    | some g => exact .some (hf g)
  · exact option_rel_stays_refl _

/-! ### One segment changes its owner -/

theorem State.StaysAt.of_eq {s t : State} {p : Nat} (hcount : ∀ k, (t.named k).count p = (s.named k).count p) (hseg : t.seg? p = s.seg? p) :
    s.StaysAt t p := ⟨hcount, by rw [hseg]; exact option_rel_stays_refl _⟩

/-- A loose segment is placed; the others stay. -/
theorem State.Owned.place {X : List Nat} {p : Nat} {s t : State} (h : s.Owned (p :: X)) (hp : p ∉ X) (hother : ∀ q, q ≠ p → s.StaysAt t q)
    (hplaced : t.Placed p) : t.Owned X := by
  intro q
  by_cases hq : q = p
  · subst hq
    exact ⟨fun hX => absurd hX hp, fun _ => hplaced⟩
  · refine ⟨fun hX => (hother q hq).loose (h.loose (List.mem_cons_of_mem _ hX)), fun hX => (hother q hq).placed (h.placed ?_)⟩
    rw [List.mem_cons, not_or]
    exact ⟨hq, hX⟩

/-- A segment's owner lets it go; the others stay. -/
theorem State.Owned.loosen {X : List Nat} {p : Nat} {s t : State} (h : s.Owned X) (hother : ∀ q, q ≠ p → s.StaysAt t q) (hloose : t.Loose p) :
    t.Owned (p :: X) := by
  intro q
  by_cases hq : q = p
  · subst hq
    exact ⟨fun _ => hloose, fun hX => absurd List.mem_cons_self hX⟩
  · refine ⟨fun hX => (hother q hq).loose (h.loose ((List.mem_cons.mp hX).resolve_left hq)), fun hX => (hother q hq).placed (h.placed ?_)⟩
    exact fun hq' => hX (List.mem_cons_of_mem _ hq')

/-- A segment that no owner's state holds and no record waits in. -/
theorem State.Placed.of_ownerless {s : State} {p : Nat} {g : Segment} (hg : s.seg? p = some g) (hloose : ∀ k, (s.named k).count p = 0)
    (hstate : g.state = .free ∨ g.state = .retired) (hdeparture : g.departure = none) : s.Placed p := by
  have hheld : g.state ≠ .held := by obtain h | h := hstate <;> rw [h] <;> decide
  have hown : g.state.hasOwner = false := by obtain h | h := hstate <;> rw [h] <;> rfl
  refine ⟨fun k => ?_, fun g' hg' => ?_⟩
  · rw [hloose k, hg, Option.any_some, if_neg]
    rw [decide_eq_true_eq]
    rintro ⟨rfl, h⟩
    rw [hown] at h
    cases h
  · cases hg.symm.trans hg'
    refine ⟨?_, fun h => absurd h hheld, fun r hr => ?_⟩
    · rw [hdeparture]; simp [hheld]
    · rw [hdeparture] at hr; cases hr

/-- A segment that its new owner names. -/
theorem State.Placed.of_named {s : State} {p : Nat} {g : Segment} {k : SegState} (hg : s.seg? p = some g) (hstate : g.state = k)
    (hown : k.hasOwner = true) (hdeparture : g.departure = none) (hcount : (s.named k).count p = 1)
    (hother : ∀ j, j ≠ k → (s.named j).count p = 0) : s.Placed p := by
  have hheld : g.state ≠ .held := by rintro h; rw [hstate.symm.trans h] at hown; cases hown
  refine ⟨fun j => ?_, fun g' hg' => ?_⟩
  · by_cases hj : j = k
    · rw [hj, hcount, hg, Option.any_some, if_pos (by simp [hstate, hown])]
    · rw [hother j hj, hg, Option.any_some, if_neg (by rw [hstate]; simp [Ne.symm hj])]
  · cases hg.symm.trans hg'
    refine ⟨?_, fun h => absurd h hheld, fun r hr => ?_⟩
    · rw [hdeparture]; simp [hheld]
    · rw [hdeparture] at hr; cases hr

/-- A HELD segment. -/
theorem State.Placed.of_held {s : State} {p : Nat} {g : Segment} {r : SegmentRecord} (hg : s.seg? p = some g)
    (hloose : ∀ k, (s.named k).count p = 0) (hstate : g.state = .held) (hdeparture : g.departure = some r) (hphys : r.phys = p) (hpins : 0 < g.pins) : s.Placed p := by
  refine ⟨fun k => ?_, fun g' hg' => ?_⟩
  · rw [hloose k, hg, Option.any_some, if_neg]
    rw [decide_eq_true_eq]
    rintro ⟨rfl, h⟩
    rw [hstate] at h
    cases h
  · cases hg.symm.trans hg'
    exact ⟨⟨fun _ => by rw [hdeparture]; simp, fun _ => hstate⟩, fun _ => hpins, fun r' hr' => by
      rw [hdeparture] at hr'; cases hr'; exact hphys⟩

/-! ### Freeing and quarantining -/

theorem State.freeSeg_named (s : State) (p : Nat) (k : SegState) : (s.freeSeg p).named k = s.named k := by
  cases h : s.seg? p with
  | none => rw [State.freeSeg_of_none h]
  | some g =>
    rw [State.freeSeg_rest h]
    rfl

/-- A rule frees a segment that nothing names (R46). -/
theorem State.Owned.freeSeg {X : List Nat} {s : State} {p : Nat} (h : s.Owned (p :: X)) (hp : p ∉ X) : (s.freeSeg p).Owned X := by
  obtain ⟨hcount, g, hg⟩ := h.loose List.mem_cons_self
  refine h.place hp (fun q hq => .of_eq (fun k => by rw [State.freeSeg_named]) (State.freeSeg_seg?_other s hq))
    (.of_ownerless (State.freeSeg_seg?_same hg) (fun k => by rw [State.freeSeg_named]; exact hcount k) ?_ rfl)
  dsimp only
  cases g.retirePending
  · exact .inl rfl
  · exact .inr rfl

/-- A segment named in an owner's list is named there once, and nowhere else. -/
theorem State.Owned.count_of_mem {X : List Nat} {s : State} (h : s.Owned X) {p : Nat} {k : SegState} (hp : p ∈ s.named k) (j : SegState) :
    (s.named j).count p = if j = k then 1 else 0 := by
  obtain ⟨hX, g, hg, hstate⟩ := h.seg_of_mem hp
  have hown := State.hasOwner_of_mem hp
  rw [(h.placed hX).1 j, hg, Option.any_some, hstate]
  by_cases hj : j = k
  · rw [if_pos hj, if_pos (by simp [hj, hown])]
  · rw [if_neg hj, if_neg (by simp [Ne.symm hj])]

/-- An owner lets go of one segment that it names. -/
theorem State.Owned.unname {X : List Nat} {s t : State} {p : Nat} {k : SegState} (h : s.Owned X) (hnamed : (s.named k).Perm (p :: t.named k))
    (hrest : ∀ j, j ≠ k → t.named j = s.named j) (hsegs : t.pool.segs = s.pool.segs) :
    (p ∉ X ∧ ∃ g, s.seg? p = some g ∧ g.state = k) ∧ t.Owned (p :: X) := by
  have hmem : p ∈ s.named k := hnamed.mem_iff.mpr List.mem_cons_self
  have hcount := h.count_of_mem hmem
  have hseg (q : Nat) : t.seg? q = s.seg? q := by unfold State.seg?; rw [hsegs]
  obtain ⟨hX, g, hg, hstate⟩ := h.seg_of_mem hmem
  refine ⟨⟨hX, g, hg, hstate⟩, h.loosen (fun q hq => .of_eq (fun j => ?_) (hseg q)) ⟨fun j => ?_, g, (hseg p).trans hg⟩⟩
  · by_cases hj : j = k
    · rw [hj, hnamed.count_eq, List.count_cons, if_neg (by simpa using Ne.symm hq), Nat.add_zero]
    · rw [hrest j hj]
  · by_cases hj : j = k
    · have := hcount k
      rw [hnamed.count_eq, List.count_cons_self, if_pos rfl] at this
      rw [hj]
      exact Nat.succ.inj this
    · rw [hrest j hj, hcount j, if_neg hj]

/-- An owner takes a segment that nothing names. -/
theorem State.Owned.name {X : List Nat} {s t : State} {p : Nat} {k : SegState} {g : Segment} (h : s.Owned (p :: X)) (hp : p ∉ X)
    (hnamed : (t.named k).Perm (p :: s.named k)) (hrest : ∀ j, j ≠ k → t.named j = s.named j) (hown : k.hasOwner = true)
    (hg : t.seg? p = some g) (hstate : g.state = k) (hdeparture : g.departure = none) (hother : ∀ q, q ≠ p → t.seg? q = s.seg? q) :
    t.Owned X := by
  obtain ⟨hloose, -⟩ := h.loose List.mem_cons_self
  refine h.place hp (fun q hq => .of_eq (fun j => ?_) (hother q hq)) (.of_named hg hstate hown hdeparture ?_ fun j hj => ?_)
  · by_cases hj : j = k
    · rw [hj, hnamed.count_eq, List.count_cons, if_neg (by simpa using Ne.symm hq), Nat.add_zero]
    · rw [hrest j hj]
  · rw [hnamed.count_eq, List.count_cons_self, hloose]
  · rw [hrest j hj]
    exact hloose j

theorem State.named_withRecords (s : State) (rs : List SegmentRecord) {k : SegState} (hk : k ≠ .quarantined) :
    State.named { s with quarantine := { s.quarantine with records := rs } } k = s.named k := by
  cases k with
  | quarantined => exact absurd rfl hk
  | free | filling | live | held | maskImage | testing | retired => rfl

theorem State.named_withTimeline (s : State) (tl : Timeline) {k : SegState} (hk : k ≠ .live) :
    State.named { s with timeline := tl } k = s.named k := by
  cases k with
  | live => exact absurd rfl hk
  | free | filling | quarantined | held | maskImage | testing | retired => rfl

/-- The quarantine takes a segment that nothing names (R145). -/
theorem State.Owned.takeRecord {X : List Nat} {s : State} {r : SegmentRecord} (h : s.Owned (r.phys :: X)) (hp : r.phys ∉ X) :
    (s.takeRecord r).Owned X := by
  obtain ⟨-, g, hg⟩ := h.loose List.mem_cons_self
  refine h.name (k := .quarantined) (g := { g with state := .quarantined, departure := none }) hp ?_
    (fun j hj => s.named_withRecords _ hj) rfl ?_ rfl rfl fun q hq => ?_
  · show ((s.quarantine.records ++ [r]).map (·.phys)).Perm (r.phys :: s.quarantine.records.map (·.phys))
    rw [List.map_append]
    exact List.perm_append_singleton ..
  · unfold State.takeRecord
    rw [State.seg_modifySeg, if_pos rfl]
    exact congrArg (Option.map _) hg
  · unfold State.takeRecord
    rw [State.seg_modifySeg, if_neg (Ne.symm hq)]
    rfl

/-- The oldest record leaves the quarantine. -/
theorem State.Owned.dropOldest {X : List Nat} {s : State} {old : SegmentRecord} {rest : List SegmentRecord} (h : s.Owned X)
    (hrecords : s.quarantine.records = old :: rest) :
    (old.phys ∉ X ∧ ∃ g, s.seg? old.phys = some g ∧ g.state = .quarantined) ∧
      State.Owned (old.phys :: X) { s with quarantine := { s.quarantine with records := rest } } := by
  refine h.unname (k := .quarantined) ?_ (fun j hj => s.named_withRecords _ hj) rfl
  show (s.quarantine.records.map _).Perm _
  rw [hrecords]
  exact .refl _

/-- A segment that nothing names is offered to the quarantine (R146). -/
theorem State.Owned.offer {X : List Nat} {s : State} {r : SegmentRecord} (quiet : Bool) (h : s.Owned (r.phys :: X)) (hp : r.phys ∉ X) :
    (State.offer quiet s r).Owned X := by
  unfold State.offer
  split
  · exact h.freeSeg hp
  split
  · exact h.takeRecord hp
  split
  · next old rest _ hrecords =>
    obtain ⟨⟨hX, -⟩, hdropped⟩ := h.dropOldest hrecords
    exact (((KeepsOwners.raiseUnless _ quiet .quarOverwrite).owned hdropped).freeSeg hX).takeRecord hp
  · exact ((KeepsOwners.raiseUnless s quiet .quarOverflow).owned h).freeSeg hp

/-! ### Departing (Table 27) -/

/-- The head leaves the timeline. -/
theorem State.Owned.dropHead {X : List Nat} {s : State} {e : TimelineEntry} {rest : List TimelineEntry} (h : s.Owned X)
    (hentries : s.timeline.entries = e :: rest) :
    (e.phys = none → State.Owned X { s with timeline := { s.timeline with entries := rest } }) ∧
      ∀ p, e.phys = some p → (p ∉ X ∧ ∃ g, s.seg? p = some g ∧ g.state = .live) ∧
        State.Owned (p :: X) { s with timeline := { s.timeline with entries := rest } } := by
  constructor
  · intro hphys
    refine KeepsOwners.owned (s := s) (t := { s with timeline := { s.timeline with entries := rest } }) (.of_eq (fun k => ?_) rfl) h
    by_cases hk : k = .live
    · subst hk
      show _ = List.filterMap (·.phys) s.timeline.entries
      rw [hentries, List.filterMap_cons_none hphys]
      rfl
    · exact s.named_withTimeline _ hk
  · intro p hphys
    refine h.unname (k := .live) ?_ (fun j hj => s.named_withTimeline _ hj) rfl
    show (List.filterMap (·.phys) s.timeline.entries).Perm _
    rw [hentries, List.filterMap_cons_some hphys]
    exact .refl _

/-- What a departing entry named is handed on. -/
theorem State.Owned.handOn {X : List Nat} {s : State} {e : TimelineEntry} (hnone : e.phys = none → s.Owned X)
    (hsome : ∀ p, e.phys = some p → p ∉ X ∧ s.Owned (p :: X)) : (s.handOn e).Owned X := by
  unfold State.handOn
  split
  · next h => exact hnone h
  · next p hphys =>
    obtain ⟨hX, h⟩ := hsome p hphys
    obtain ⟨hcount, g0, hg0⟩ := h.loose List.mem_cons_self
    split
    · next hg => cases hg0.symm.trans hg
    · next g hg =>
      split
      · next hpins =>
        refine h.place hX (fun q hq => .of_eq (fun _ => rfl) ?_) (.of_held (g := { g with state := .held, departure := some (e.record p) })
          ?_ hcount rfl rfl rfl hpins)
        · rw [State.seg_modifySeg, if_neg (Ne.symm hq)]
        · rw [State.seg_modifySeg, if_pos rfl, hg]
          rfl
      split
      · exact h.freeSeg hX
      · exact State.Owned.offer (r := e.record p) false h hX

theorem State.Owned.departHead {X : List Nat} {s : State} (h : s.Owned X) : s.departHead.Owned X := by
  unfold State.departHead
  split
  · exact h
  · next e rest hentries =>
    obtain ⟨hnone, hsome⟩ := h.dropHead hentries
    exact .handOn hnone fun p hp => by
      obtain ⟨⟨hX, -⟩, howned⟩ := hsome p hp
      exact ⟨hX, howned⟩

theorem State.Owned.departDue {X : List Nat} (n : Nat) {s : State} (h : s.Owned X) : (State.departDue n s).Owned X := by
  induction n generalizing s with
  | zero => exact h
  | succ n ih =>
    unfold State.departDue
    split
    · exact h
    split
    · exact ih h.departHead
    · exact h

theorem KeepsOwners.withEdits (s : State) (es : List Edit) : KeepsOwners s { s with edits := es } := .of_eq (fun _ => rfl) rfl

theorem KeepsOwners.pruneSpent (s : State) : KeepsOwners s s.pruneSpent := .withEdits s _

theorem State.Owned.settle {X : List Nat} {s : State} (h : s.Owned X) : s.settle.Owned X :=
  (KeepsOwners.pruneSpent _).owned (h.departDue _)

end Sys2Proof.Machine

/-! SUPPORT. Program indexes as steps back from the live edge: serial comparisons within half the range (Conventions, Serial comparison) and
the order of a timeline's entries (R62). -/

namespace Sys2Proof.Machine

/-- How many steps `a` lies behind `x`. -/
def stepsBack (x a : Word) : Nat := (x - a).toNat

theorem serialLt_iff_stepsBack {x a b : Word} (ha : stepsBack x a < 2147483648) (hb : stepsBack x b < 2147483648) :
    serialLt a b = true ↔ stepsBack x b < stepsBack x a := by
  unfold stepsBack at *
  unfold serialLt serialDiff
  rw [decide_eq_true_eq, BitVec.toInt_eq_toNat_cond]
  have hsub : (a - b).toNat = ((x - b).toNat + (4294967296 - (x - a).toNat)) % 4294967296 := by bv_omega
  rw [hsub]
  split <;> omega

theorem serialLe_iff_stepsBack {x a b : Word} (ha : stepsBack x a < 2147483648) (hb : stepsBack x b < 2147483648) :
    serialLe a b = true ↔ stepsBack x b ≤ stepsBack x a := by
  unfold stepsBack at *
  unfold serialLe serialDiff
  rw [decide_eq_true_eq, BitVec.toInt_eq_toNat_cond]
  have hsub : (a - b).toNat = ((x - b).toNat + (4294967296 - (x - a).toNat)) % 4294967296 := by bv_omega
  rw [hsub]
  split <;> omega

/-- A PI that `n` steps take to the live edge. -/
theorem stepsBack_sub {x : Word} {n : Nat} (h : n < 4294967296) : stepsBack x (x - BitVec.ofNat 32 n) = n := by
  unfold stepsBack
  bv_omega

/-! ### The timeline's entries -/

section
variable {s : State} (h : s.timelineOrdered)
include h

theorem State.timelineOrdered.length_le : s.timeline.entries.length ≤ 4096 := h.1

theorem State.timelineOrdered.stepsBack {i : Nat} {e : TimelineEntry} (he : s.timeline.entries[i]? = some e) :
    stepsBack s.liveEdge e.pi = s.timeline.entries.length - 1 - i := by
  obtain ⟨hlength, hpi⟩ := h
  obtain ⟨hi, -⟩ := List.getElem?_eq_some_iff.mp he
  rw [hpi i e he]
  unfold Machine.stepsBack State.liveEdge
  bv_omega

theorem State.timelineOrdered.stepsBack_head {e : TimelineEntry} {rest : List TimelineEntry} (he : s.timeline.entries = e :: rest) :
    Machine.stepsBack s.liveEdge e.pi = rest.length := by
  rw [h.stepsBack (i := 0) (by rw [he]; rfl), he]
  rfl

theorem State.timelineOrdered.stepsBack_lt {e : TimelineEntry} (he : e ∈ s.timeline.entries) :
    Machine.stepsBack s.liveEdge e.pi < s.timeline.entries.length := by
  obtain ⟨i, hi⟩ := List.getElem?_of_mem he
  obtain ⟨hlt, -⟩ := List.getElem?_eq_some_iff.mp hi
  rw [h.stepsBack hi]
  omega

/-- Later entries lie nearer to the live edge. -/
theorem State.timelineOrdered.pairwise :
    s.timeline.entries.Pairwise fun a b => Machine.stepsBack s.liveEdge b.pi < Machine.stepsBack s.liveEdge a.pi := by
  rw [List.pairwise_iff_getElem]
  intro i j hi hj hij
  rw [h.stepsBack (List.getElem?_eq_getElem hi), h.stepsBack (List.getElem?_eq_getElem hj)]
  omega

theorem State.timelineOrdered.of_drop {s' : State} {n : Nat} (hentries : s'.timeline.entries = s.timeline.entries.drop n)
    (hnext : s'.timeline.nextPi = s.timeline.nextPi) : s'.timelineOrdered := by
  obtain ⟨hlength, hpi⟩ := h
  unfold State.timelineOrdered
  rw [hentries, hnext, List.length_drop]
  refine ⟨by omega, fun i e he => ?_⟩
  rw [List.getElem?_drop] at he
  obtain ⟨hi, -⟩ := List.getElem?_eq_some_iff.mp he
  rw [hpi _ e he]
  congr 2
  omega

theorem State.timelineOrdered.dropHead {e : TimelineEntry} {rest : List TimelineEntry} (he : s.timeline.entries = e :: rest) :
    State.timelineOrdered { s with timeline := { s.timeline with entries := rest } } :=
  h.of_drop (n := 1) (by rw [he]; rfl) rfl

end

theorem State.timelineOrdered.congr {s t : State} (h : s.timelineOrdered) (htimeline : t.timeline = s.timeline) : t.timelineOrdered := by
  unfold State.timelineOrdered
  rw [htimeline]
  exact h

/-- What is dropped from the front of a list while a predicate holds that later elements do not regain is what the predicate selects. -/
theorem filter_not_eq_dropWhile {α : Type} {p : α → Bool} {l : List α} (h : l.Pairwise fun a b => p b = true → p a = true) :
    l.filter (fun a => !p a) = l.dropWhile p := by
  induction l with
  | nil => rfl
  | cons a l ih =>
    obtain ⟨ha, hl⟩ := List.pairwise_cons.mp h
    cases hp : p a with
    | true => rw [List.filter_cons_of_neg (by simp [hp]), List.dropWhile_cons_of_pos hp, ih hl]
    | false =>
      rw [List.dropWhile_cons_of_neg (by simp [hp]), List.filter_eq_self]
      intro b hb
      rcases List.mem_cons.mp hb with rfl | hb
      · simp [hp]
      · cases hpb : p b with
        | false => rfl
        | true => exact absurd (ha b hb hpb) (by simp [hp])

end Sys2Proof.Machine

/-! SUPPORT. How a departing entry's segment, and a HELD one that loses its last pin, are handed on (R48, Table 27), and what the floor test
departs (R69 to R71). -/

namespace Sys2Proof.Machine

/-! ### Handing on (R48, Table 27, R146) -/

theorem State.takeRecord_eq {s : State} {r : SegmentRecord} {g : Segment} (hg : s.seg? r.phys = some g) :
    s.takeRecord r =
      { s with
        quarantine := { s.quarantine with records := s.quarantine.records ++ [r] }
        pool := { s.pool with segs := s.pool.segs.set r.phys { g with state := .quarantined, departure := none } } } :=
  State.modifySeg_eq (s := { s with quarantine := { s.quarantine with records := s.quarantine.records ++ [r] } }) _ hg

theorem State.offer_handedAs {s : State} {p : Nat} {g : Segment} {r : SegmentRecord} (hg : s.seg? p = some g) (hphys : r.phys = p)
    (hwithheld : r.withheld ≠ 0#4) : s.handedAs (State.offer false s r) p g r := by
  subst hphys
  refine ⟨fun h => ?_, fun _ hroom => ?_, fun _ hcap hfull => ⟨fun hlock => ?_, fun hlock old rest go hrecords hne hold => ?_⟩⟩
  · have hcap := h.resolve_left hwithheld
    unfold State.offer
    rw [if_pos hcap]
    exact State.freeSeg_freedAs hg
  · have hcap : ¬ s.quarCap = 0 := by omega
    unfold State.offer
    rw [if_neg hcap, if_pos hroom]
    exact State.takeRecord_eq hg
  · have hcap' : ¬ s.quarCap = 0 := by omega
    unfold State.offer
    rw [if_neg hcap', if_neg (Nat.not_lt.mpr hfull)]
    split
    · next hunlocked _ => exact absurd hunlocked hlock
    · exact State.freeSeg_freedAs hg
  · have hcap' : ¬ s.quarCap = 0 := by omega
    have hoffer : State.offer false s r =
        ((({ s with quarantine := { s.quarantine with records := rest } } : State).raiseAll .quarOverwrite).freeSeg old.phys).takeRecord r := by
      unfold State.offer
      rw [if_neg hcap', if_neg (Nat.not_lt.mpr hfull)]
      split
      · next hrecords' => cases hrecords.symm.trans hrecords'; rfl
      · next hnot => exact absurd hrecords (hnot _ _ hlock)
    refine ⟨_, State.freeSeg_freedAs (s := ({ s with quarantine := { s.quarantine with records := rest } }).raiseAll .quarOverwrite) hold, ?_⟩
    have hkept : State.seg? (State.freeSeg (({ s with quarantine := { s.quarantine with records := rest } } : State).raiseAll .quarOverwrite)
        old.phys) r.phys = some g := (State.freeSeg_seg?_other _ (Ne.symm hne)).trans hg
    have hrest : (State.freeSeg (({ s with quarantine := { s.quarantine with records := rest } } : State).raiseAll .quarOverwrite)
        old.phys).quarantine.records = rest := by rw [State.freeSeg_quarantine]; rfl
    rw [hoffer, State.takeRecord_eq hkept, hrest]

theorem State.freeSeg_handedAs {s : State} {p : Nat} {g : Segment} {r : SegmentRecord} (hg : s.seg? p = some g)
    (hwithheld : r.withheld = 0#4) : s.handedAs (s.freeSeg p) p g r :=
  ⟨fun _ => State.freeSeg_freedAs hg, fun h => absurd hwithheld h, fun h => absurd hwithheld h⟩

theorem State.departHead_eq {s : State} {e : TimelineEntry} {rest : List TimelineEntry} (h : s.timeline.entries = e :: rest) :
    s.departHead = State.handOn { s with timeline := { s.timeline with entries := rest } } e := by
  unfold State.departHead
  rw [h]

theorem State.handOn_of_none {s : State} {e : TimelineEntry} (h : e.phys = none) : s.handOn e = s := by
  unfold State.handOn
  rw [h]

theorem State.handOn_of_pinned {s : State} {e : TimelineEntry} {p : Nat} {g : Segment} (h : e.phys = some p) (hg : s.seg? p = some g)
    (hpins : 0 < g.pins) : s.handOn e = s.setSeg p { g with state := .held, departure := some (e.record p) } := by
  unfold State.handOn
  rw [h]
  dsimp only
  rw [hg]
  dsimp only
  rw [if_pos hpins, State.modifySeg_eq _ hg]

theorem State.handOn_handedAs {s : State} {e : TimelineEntry} {p : Nat} {g : Segment} (h : e.phys = some p) (hg : s.seg? p = some g)
    (hpins : g.pins = 0) : s.handedAs (s.handOn e) p g (e.record p) := by
  have hnot : ¬ 0 < g.pins := by omega
  unfold State.handOn
  rw [h]
  dsimp only
  rw [hg]
  dsimp only
  rw [if_neg hnot]
  split
  · next hwithheld => exact State.freeSeg_handedAs hg hwithheld
  · next hwithheld => exact State.offer_handedAs hg rfl hwithheld

theorem State.handOver_handedAs {s : State} {p : Nat} {g : Segment} {r : SegmentRecord} (hg : s.seg? p = some g) (hphys : r.phys = p) :
    s.handedAs (s.handOver p (some r)) p g r := by
  unfold State.handOver
  dsimp only
  split
  · next hwithheld => exact State.freeSeg_handedAs hg hwithheld
  · next hwithheld => exact State.offer_handedAs hg hphys hwithheld

theorem State.unpin_eq {s : State} {p : Nat} {g : Segment} (hg : s.seg? p = some g) :
    s.unpin p =
      if g.state = .held ∧ g.pins ≤ 1 then (s.setSeg p { g with pins := g.pins - 1 }).handOver p g.departure
      else s.setSeg p { g with pins := g.pins - 1 } := by
  unfold State.unpin
  rw [hg]
  dsimp only
  rw [State.modifySeg_eq _ hg]

/-! ### What the floor test departs (R69 to R71) -/

theorem State.handOn_timeline (s : State) (e : TimelineEntry) : (s.handOn e).timeline = s.timeline := (Frees.handOn s e).timeline

theorem State.departHead_timeline {s : State} {e : TimelineEntry} {rest : List TimelineEntry} (h : s.timeline.entries = e :: rest) :
    s.departHead.timeline = { s.timeline with entries := rest } := by
  rw [State.departHead_eq h, State.handOn_timeline]

theorem Eased.bounds {s t : State} (h : Eased s t) (i : Fin 4) : (t.tap i).active = (s.tap i).active ∧ (t.tap i).bound = (s.tap i).bound := by
  rw [h.tap i]
  exact ⟨rfl, rfl⟩

theorem State.departDue_succ {n : Nat} {s : State} {e : TimelineEntry} {rest : List TimelineEntry} (h : s.timeline.entries = e :: rest) :
    State.departDue (n + 1) s = if serialLt e.pi s.floor then State.departDue n s.departHead else s := by
  have hhead : s.head? = some e.pi := by unfold State.head?; rw [h]; rfl
  rw [State.departDue, hhead]

theorem State.departDue_of_empty {n : Nat} {s : State} (h : s.timeline.entries = []) : State.departDue n s = s := by
  have hhead : s.head? = none := by unfold State.head?; rw [h]; rfl
  cases n with
  | zero => rfl
  | succ n => rw [State.departDue, hhead]

theorem State.departDue_nextPi (n : Nat) (s : State) : (State.departDue n s).timeline.nextPi = s.timeline.nextPi := by
  induction n generalizing s with
  | zero => rfl
  | succ n ih =>
    cases hentries : s.timeline.entries with
    | nil => rw [State.departDue_of_empty hentries]
    | cons e rest =>
      rw [State.departDue_succ hentries]
      split
      · rw [ih, State.departHead_timeline hentries]
      · rfl

/-- With an active tap the floor stands, and every entry below it departs, head first, up to the first that is not below. -/
theorem State.departDue_entries (n : Nat) {s : State} (hactive : ∃ i, (s.tap i).active = true) (hn : s.timeline.entries.length ≤ n) :
    (State.departDue n s).timeline.entries = s.timeline.entries.dropWhile fun e => serialLt e.pi s.floor := by
  induction n generalizing s with
  | zero =>
    have hempty := List.eq_nil_of_length_eq_zero (Nat.le_zero.mp hn)
    rw [State.departDue_of_empty hempty, hempty]
    rfl
  | succ n ih =>
    cases hentries : s.timeline.entries with
    | nil =>
      rw [State.departDue_of_empty hentries, hentries]
      rfl
    | cons e rest =>
      rw [State.departDue_succ hentries]
      split
      · next hdue =>
        have hbounds := (Eased.departHead s).bounds
        have hactive' : ∃ i, (s.departHead.tap i).active = true := by
          obtain ⟨i, hi⟩ := hactive
          exact ⟨i, (hbounds i).1.trans hi⟩
        have hrest : s.departHead.timeline.entries = rest := by rw [State.departHead_timeline hentries]
        rw [hentries, List.length_cons] at hn
        rw [ih hactive' (hrest ▸ Nat.le_of_succ_le_succ hn), hrest, State.floor_congr hbounds hactive]
        exact (List.dropWhile_cons_of_pos (p := fun e : TimelineEntry => serialLt e.pi s.floor) hdue).symm
      · next hdue =>
        rw [hentries]
        exact (List.dropWhile_cons_of_neg (p := fun e : TimelineEntry => serialLt e.pi s.floor) hdue).symm

/-- Serial minimum, within half the range: the one farther back. -/
theorem stepsBack_serialMin {x a b : Word} (ha : stepsBack x a < 2147483648) (hb : stepsBack x b < 2147483648) :
    stepsBack x (serialMin a b) = max (stepsBack x a) (stepsBack x b) := by
  unfold serialMin
  have := serialLt_iff_stepsBack hb ha
  split
  · next h => have := this.mp h; omega
  · next h => have := (not_congr this).mp h; omega

/-- The lowest of some bounds lies as far back as the farthest of them. -/
theorem foldl_serialMin_stepsBack {x : Word} {f : Fin 4 → Word} (l : List (Fin 4)) {b : Word} (hb : stepsBack x b < 2147483648)
    (hl : ∀ i ∈ l, stepsBack x (f i) < 2147483648) (n : Nat) :
    n ≤ stepsBack x (l.foldl (fun b u => serialMin b (f u)) b) ↔ n ≤ stepsBack x b ∨ ∃ i ∈ l, n ≤ stepsBack x (f i) := by
  induction l generalizing b with
  | nil => simp
  | cons i l ih =>
    have hi := hl i List.mem_cons_self
    have hmin := stepsBack_serialMin hb hi
    have hle : n ≤ max (stepsBack x b) (stepsBack x (f i)) ↔ n ≤ stepsBack x b ∨ n ≤ stepsBack x (f i) := by omega
    rw [List.foldl_cons, ih (by rw [hmin]; omega) fun j hj => hl j (List.mem_cons_of_mem _ hj), hmin, hle]
    simp [or_assoc]

/-- While some tap is active, the floor lies as far back as the lowest active bound. -/
theorem State.le_stepsBack_floor {s : State} {x : Word} (hbounds : ∀ i, (s.tap i).active = true → stepsBack x (s.tap i).bound < 2147483648)
    (hactive : ∃ i, (s.tap i).active = true) (n : Nat) :
    n ≤ stepsBack x s.floor ↔ ∃ i, (s.tap i).active = true ∧ n ≤ stepsBack x (s.tap i).bound := by
  have hmem (i : Fin 4) := State.mem_activeTaps s i
  have hany : (∃ i ∈ s.activeTaps, n ≤ stepsBack x (s.tap i).bound) ↔ ∃ i, (s.tap i).active = true ∧ n ≤ stepsBack x (s.tap i).bound :=
    exists_congr fun i => and_congr_left fun _ => hmem i
  rw [← hany]
  unfold State.floor State.lowestBound
  cases hlist : s.activeTaps with
  | nil =>
    obtain ⟨i, hi⟩ := hactive
    have := (hmem i).mpr hi
    rw [hlist] at this
    cases this
  | cons j rest =>
    have hbound (i : Fin 4) (hi : i ∈ j :: rest) := hbounds i ((hmem i).mp (hlist ▸ hi))
    rw [foldl_serialMin_stepsBack (f := fun u => (s.tap u).bound) rest (hbound j List.mem_cons_self) fun i hi => hbound i (List.mem_cons_of_mem _ hi)]
    simp

end Sys2Proof.Machine

/-! SUPPORT. The floor test with no tap active (R69, R71), which entries and edits leave (R72, R101), and a forced departure (R73, R74). -/

namespace Sys2Proof.Machine

/-! ### Dmax while entries depart -/

/-- RETIRED segments stay so, so the effective pool does not grow. -/
theorem State.nEff_le_of_retired {s t : State} (hlength : t.pool.segs.length = s.pool.segs.length)
    (h : ∀ p g, s.seg? p = some g → g.state = .retired → ∃ g', t.seg? p = some g' ∧ g'.state = .retired) : t.nEff ≤ s.nEff := by
  unfold State.nEff
  unfold State.seg? at h
  generalize s.pool.segs = l at hlength h
  generalize t.pool.segs = m at hlength h
  induction l generalizing m with
  | nil =>
    cases List.eq_nil_of_length_eq_zero hlength
    exact Nat.le_refl _
  | cons g l ih =>
    cases m with
    | nil => cases hlength
    | cons g' m =>
      have hrest := ih m (Nat.succ.inj hlength) fun p => h (p + 1)
      have hfirst : g.state = .retired → g'.state = .retired := fun hg => by
        obtain ⟨x, hx, hretired⟩ := h 0 g rfl hg
        cases hx
        exact hretired
      rw [List.filter_cons, List.filter_cons]
      split
      · next hg' =>
        have hg : (g.state != .retired) = true := by
          rw [bne_iff_ne] at hg' ⊢
          exact fun hg => hg' (hfirst hg)
        rw [if_pos hg]
        exact Nat.succ_le_succ hrest
      · split
        · exact Nat.le_succ_of_le hrest
        · exact hrest

theorem Rehomes.length {Q : Nat → Prop} {s t : State} (h : Rehomes Q s t) : t.pool.segs.length = s.pool.segs.length := by
  have hle {l m : List Segment} (hcore : ∀ p : Nat, (m[p]?).map Segment.core = (l[p]?).map Segment.core) : m.length ≤ l.length := by
    refine Classical.byContradiction fun hlt => ?_
    have := hcore l.length
    rw [List.getElem?_eq_none (Nat.le_refl _), List.getElem?_eq_getElem (Nat.lt_of_not_le hlt)] at this
    cases this
  exact Nat.le_antisymm (hle h.core) (hle fun p => (h.core p).symm)

theorem State.Owned.unnamed {s : State} (h : s.Owned []) {p : Nat} {g : Segment} (hg : s.seg? p = some g)
    (hstate : g.state ≠ .live ∧ g.state ≠ .quarantined) : s.Unnamed p := by
  obtain ⟨hlive, hquarantined⟩ := hstate
  have hnot {k : SegState} (hk : g.state ≠ k) (hp : p ∈ s.named k) : False := by
    obtain ⟨-, g', hg', hstate⟩ := h.seg_of_mem hp
    cases hg.symm.trans hg'
    exact hk hstate
  exact ⟨fun e he hphys => hnot hlive (List.mem_filterMap.mpr ⟨e, he, hphys⟩), fun r hr hphys =>
    hnot hquarantined (List.mem_map.mpr ⟨r, hr, hphys⟩)⟩

theorem State.Owned.dmax_departDue {s : State} (h : s.Owned []) (n : Nat) : (State.departDue n s).dmax ≤ s.dmax := by
  have hrehomes := Rehomes.departDue (Q := fun _ => False) n s
  have hnEff : (State.departDue n s).nEff ≤ s.nEff := State.nEff_le_of_retired hrehomes.length fun p g hg hretired => by
    have hunnamed := h.unnamed hg (by rw [hretired]; decide)
    obtain ⟨-, hseg⟩ := hrehomes.spared p not_false hunnamed
    exact ⟨g, hseg.trans hg, hretired⟩
  unfold State.dmax
  rw [(Interior.departDue n s).quarCap]
  omega

theorem State.dmax_le (s : State) : s.dmax ≤ s.pool.segs.length := by
  have : s.nEff ≤ s.pool.segs.length := List.length_filter_le ..
  unfold State.dmax
  omega

/-! ### The floor test with no tap active -/

theorem State.floor_of_idle {s : State} (h : ∀ i, (s.tap i).active = false) : s.floor = s.idleFloor := by
  have hnone : s.activeTaps = [] := List.filter_eq_nil_iff.mpr fun i _ => by rw [h i]; decide
  unfold State.floor State.lowestBound
  rw [hnone]

theorem State.departDue_idle (n : Nat) {s : State} (howned : s.Owned []) (hordered : s.timelineOrdered) (hsegs : s.pool.segs.length ≤ 4096)
    (hidle : ∀ i, (s.tap i).active = false) (hn : s.timeline.entries.length ≤ n) :
    (State.departDue n s).timeline.entries =
      s.timeline.entries.drop (s.timeline.entries.length - ((State.departDue n s).dmax + 1)) := by
  induction n generalizing s with
  | zero =>
    have hempty := List.eq_nil_of_length_eq_zero (Nat.le_zero.mp hn)
    rw [State.departDue_of_empty hempty, hempty, List.drop_nil]
  | succ n ih =>
    cases hentries : s.timeline.entries with
    | nil =>
      rw [State.departDue_of_empty hentries, hentries, List.drop_nil]
    | cons e rest =>
      have hback := hordered.stepsBack_head hentries
      have hlength := hordered.length_le
      have hdmax := s.dmax_le
      rw [hentries, List.length_cons] at hlength
      have hfloor : stepsBack s.liveEdge s.floor = s.dmax := by
        rw [State.floor_of_idle hidle]
        exact stepsBack_sub (by omega)
      have hdue : serialLt e.pi s.floor = true ↔ s.dmax < rest.length := by
        rw [serialLt_iff_stepsBack (x := s.liveEdge) (by omega) (by omega), hfloor, hback]
      rw [State.departDue_succ hentries]
      split
      · next h =>
        have hlt := hdue.mp h
        have hrest : s.departHead.timeline.entries = rest := by rw [State.departHead_timeline hentries]
        have hordered' : s.departHead.timelineOrdered :=
          hordered.of_drop (n := 1) (by rw [hrest, hentries]; rfl) (by rw [State.departHead_timeline hentries])
        have hone : State.departDue 1 s = s.departHead := by rw [State.departDue_succ hentries, if_pos h]; rfl
        have hle : (State.departDue n s.departHead).dmax ≤ s.dmax :=
          Nat.le_trans (howned.departHead.dmax_departDue n) (hone ▸ howned.dmax_departDue 1)
        rw [hentries, List.length_cons] at hn
        rw [ih howned.departHead hordered' (Nat.le_trans (Nat.le_of_eq (Interior.departHead s).segCount) hsegs)
          (fun i => ((Eased.departHead s).bounds i).1.trans (hidle i)) (hrest ▸ Nat.le_of_succ_le_succ hn), hrest]
        have hshift : (e :: rest).length - ((State.departDue n s.departHead).dmax + 1) =
            (rest.length - ((State.departDue n s.departHead).dmax + 1)) + 1 := by
          rw [List.length_cons]
          omega
        rw [hshift, List.drop_succ_cons]
      · next h =>
        have hge := (not_congr hdue).mp h
        have hzero : (e :: rest).length - (s.dmax + 1) = 0 := by
          rw [List.length_cons]
          omega
        rw [hzero, hentries]
        rfl

/-! ### The floor test -/

theorem State.settle_timeline_eq (s : State) : s.settle.timeline = (State.departDue s.timeline.entries.length s).timeline := rfl

theorem State.settle_of_active {s : State} (hordered : s.timelineOrdered) (hbounds : s.boundsFit) (hactive : ∃ i, (s.tap i).active = true) :
    s.settle.timeline.entries =
      s.timeline.entries.filter fun e => decide (∃ i, (s.tap i).active = true ∧ serialLe (s.tap i).bound e.pi = true) := by
  have hlength := hordered.length_le
  have hbound (i : Fin 4) (hi : (s.tap i).active = true) : stepsBack s.liveEdge (s.tap i).bound < 2147483648 := by
    have := hbounds i hi
    unfold stepsBack
    omega
  have hentry (e : TimelineEntry) (he : e ∈ s.timeline.entries) : stepsBack s.liveEdge e.pi < 2147483648 := by
    have := hordered.stepsBack_lt he
    omega
  have hfar := State.le_stepsBack_floor hbound hactive
  have hfloor : stepsBack s.liveEdge s.floor < 2147483648 := by
    obtain ⟨i, hi, hle⟩ := (hfar _).mp (Nat.le_refl _)
    exact Nat.lt_of_le_of_lt hle (hbound i hi)
  have hkept (e : TimelineEntry) (he : e ∈ s.timeline.entries) :
      (!serialLt e.pi s.floor) = decide (∃ i, (s.tap i).active = true ∧ serialLe (s.tap i).bound e.pi = true) := by
    rw [Bool.eq_iff_iff, Bool.not_eq_true', ← Bool.not_eq_true, decide_eq_true_eq, serialLt_iff_stepsBack (hentry e he) hfloor, Nat.not_lt, hfar]
    exact exists_congr fun i => and_congr_right fun hi => (serialLe_iff_stepsBack (hbound i hi) (hentry e he)).symm
  rw [State.settle_timeline_eq, State.departDue_entries _ hactive (Nat.le_refl _), ← filter_not_eq_dropWhile ?_]
  · exact List.filter_congr hkept
  · refine hordered.pairwise.imp_of_mem fun {a b} ha hb hab hdue => ?_
    rw [serialLt_iff_stepsBack (hentry b hb) hfloor] at hdue
    rw [serialLt_iff_stepsBack (hentry a ha) hfloor]
    omega

theorem State.spent_iff (s : State) (d : Edit) :
    s.spent d = true ↔ d.state = .closed ∧ ∃ z, d.stop = some z ∧
      ((∀ i, (s.tap i).active = true → hasTap d.taps i = true → serialLe z (s.tap i).bound = true) ∨
        ∃ e rest, s.timeline.entries = e :: rest ∧ serialLt z e.pi = true) := by
  have hall (z : Word) : (s.activeTaps.all fun t => !d.applies t || serialLe z (s.tap t).bound) = true ↔
      ∀ i, (s.tap i).active = true → hasTap d.taps i = true → serialLe z (s.tap i).bound = true := by
    rw [List.all_eq_true]
    refine forall_congr' fun i => ?_
    rw [State.mem_activeTaps]
    refine imp_congr_right fun _ => ?_
    show (!hasTap d.taps i || _) = true ↔ _
    cases hasTap d.taps i <;> simp
  unfold State.spent
  cases hstate : d.state with
  | opened => simp
  | trailing => simp
  | closed =>
    cases hstop : d.stop with
    | none => simp
    | some z =>
      rw [Bool.or_eq_true, hall]
      unfold State.head?
      cases s.timeline.entries with
      | nil => simp
      | cons e rest => simp

end Sys2Proof.Machine

/-! SUPPORT. A forced departure (R73, R74): the taps that it drags, and what they mark on the head. -/

namespace Sys2Proof.Machine

/-! ### The taps that are dragged -/

/-- Tap `i` is bound below `h`. -/
def State.lags (s : State) (h : Word) (i : Fin 4) : Bool := (s.tap i).active && serialLt (s.tap i).bound h

theorem State.lags_iff (s : State) (h : Word) (i : Fin 4) :
    s.lags h i = true ↔ (s.tap i).active = true ∧ serialLt (s.tap i).bound h = true := Bool.and_eq_true_iff

/-- What dragging makes of tap `i`. -/
def State.draggedTap (s : State) (h : Word) (i : Fin 4) : Tap :=
  if s.lags h i then
    { s.tap i with bound := h, spliceOwed := (s.tap i).spliceOwed || s.droppedFor i h, latch := (s.tap i).latch ||| 0x10#32 }
  else s.tap i

/-- What dragging tap `i` makes of the entry `x` at `h`. -/
def State.draggedEntry (s : State) (h : Word) (x : TimelineEntry) (i : Fin 4) : TimelineEntry :=
  if s.lags h i then (s.dropFor i h).elim x fun d => x.mark i d.origin else x

theorem State.markWithheld_head {s : State} {e : TimelineEntry} {rest : List TimelineEntry} (i : Fin 4) (hentries : s.timeline.entries = e :: rest)
    (hrest : ∀ x ∈ rest, x.pi ≠ e.pi) :
    s.markWithheld i e.pi =
      { s with timeline := { s.timeline with entries := ((s.dropFor i e.pi).elim e fun d => e.mark i d.origin) :: rest } } := by
  unfold State.markWithheld
  cases hdrop : s.dropFor i e.pi with
  | none =>
    show s = { s with timeline := { s.timeline with entries := e :: rest } }
    rw [← hentries]
  | some d =>
    show s.modifyEntry e.pi _ = _
    unfold State.modifyEntry
    rw [hentries, List.map_cons, if_pos (beq_self_eq_true _)]
    have hsame : rest.map (fun x => if x.pi == e.pi then x.mark i d.origin else x) = rest :=
      (List.map_congr_left fun x hx => if_neg (by simp [hrest x hx])).trans (List.map_id' rest)
    rw [hsame]
    rfl

theorem State.dragTap_eq {s : State} {e : TimelineEntry} {rest : List TimelineEntry} (i : Fin 4) (hentries : s.timeline.entries = e :: rest)
    (hrest : ∀ x ∈ rest, x.pi ≠ e.pi) :
    State.dragTap e.pi s i =
      { s with
        timeline := { s.timeline with entries := s.draggedEntry e.pi e i :: rest }
        taps := s.taps.set i (s.draggedTap e.pi i) } := by
  unfold State.dragTap State.draggedEntry State.draggedTap
  dsimp only
  by_cases hlags : s.lags e.pi i = true
  · rw [if_pos ((s.lags_iff ..).mp hlags), if_pos hlags, if_pos hlags, State.markWithheld_head i hentries hrest]
    rfl
  · rw [if_neg ((not_congr (s.lags_iff ..)).mp hlags), if_neg hlags, if_neg hlags]
    show s = { s with timeline := { s.timeline with entries := e :: rest }, taps := s.taps.set i (s.taps.get i) }
    rw [PerTap.set_get, ← hentries]

theorem State.draggedEntry_pi (s : State) (h : Word) (x : TimelineEntry) (i : Fin 4) : (s.draggedEntry h x i).pi = x.pi := by
  unfold State.draggedEntry
  split
  · cases s.dropFor i h <;> rfl
  · rfl

/-- Dragging one tap after another marks the head by each and moves each. -/
theorem foldl_dragTap (l : List (Fin 4)) (hl : l.Nodup) {s : State} {e : TimelineEntry} {rest : List TimelineEntry} {h : Word}
    (hentries : s.timeline.entries = e :: rest) (hpi : e.pi = h) (hrest : ∀ x ∈ rest, x.pi ≠ h) :
    l.foldl (State.dragTap h) s =
        { s with
          timeline := { s.timeline with entries := l.foldl (s.draggedEntry h) e :: rest }
          taps := (l.foldl (State.dragTap h) s).taps } ∧
      ∀ i, (l.foldl (State.dragTap h) s).tap i = if i ∈ l then s.draggedTap h i else s.tap i := by
  induction l generalizing s e with
  | nil =>
    refine ⟨?_, fun i => (if_neg List.not_mem_nil).symm⟩
    show s = { s with timeline := { s.timeline with entries := e :: rest } }
    rw [← hentries]
  | cons i l ih =>
    subst hpi
    obtain ⟨hi, hl⟩ := List.nodup_cons.mp hl
    have hdrag := State.dragTap_eq i hentries hrest
    have htap (j : Fin 4) : (State.dragTap e.pi s i).tap j = if j = i then s.draggedTap e.pi i else s.tap j := by
      rw [hdrag]
      exact PerTap.get_set ..
    have hdrop (j : Fin 4) : (State.dragTap e.pi s i).dropFor j e.pi = s.dropFor j e.pi := by rw [hdrag]; rfl
    have hother (j : Fin 4) (hj : j ∈ l) : (State.dragTap e.pi s i).tap j = s.tap j := by
      rw [htap, if_neg fun h : j = i => hi (h ▸ hj)]
    have hlags (j : Fin 4) (hj : j ∈ l) : (State.dragTap e.pi s i).lags e.pi j = s.lags e.pi j := by
      unfold State.lags
      rw [hother j hj]
    have hentry : l.foldl ((State.dragTap e.pi s i).draggedEntry e.pi) (s.draggedEntry e.pi e i) =
        l.foldl (s.draggedEntry e.pi) (s.draggedEntry e.pi e i) := by
      refine foldl_eq_of_mem (fun x j hj => ?_) _
      unfold State.draggedEntry
      rw [hlags j hj, hdrop]
    obtain ⟨hstate, htaps⟩ := ih hl (s := State.dragTap e.pi s i) (e := s.draggedEntry e.pi e i) (by rw [hdrag]) (s.draggedEntry_pi ..)
    rw [List.foldl_cons, List.foldl_cons]
    constructor
    · rw [hstate, hentry]
      rw [hdrag]
    · intro j
      rw [htaps j]
      by_cases hjl : j ∈ l
      · rw [if_pos hjl, if_pos (List.mem_cons_of_mem _ hjl)]
        unfold State.draggedTap State.droppedFor
        rw [hlags j hjl, hother j hjl, hdrop]
      · rw [if_neg hjl, htap]
        by_cases hji : j = i
        · subst hji
          rw [if_pos rfl, if_pos List.mem_cons_self]
        · rw [if_neg hji, if_neg fun hmem => (List.mem_cons.mp hmem).elim hji hjl]

/-! ### The marks on the head -/

theorem hasTap_or_tapBit (w : BitVec 4) (i j : Fin 4) : hasTap (w ||| tapBit j) i = true ↔ hasTap w i = true ∨ i = j := by
  revert w i j
  decide

theorem or_tapBit_ne_zero (w : BitVec 4) (j : Fin 4) : w ||| tapBit j ≠ 0#4 := by
  revert w j
  decide

/-- Tap `i` lags and has the entry at `h` dropped. -/
def State.marks (s : State) (h : Word) (i : Fin 4) : Prop := s.lags h i = true ∧ s.droppedFor i h = true

theorem State.draggedEntry_of_marks {s : State} {h : Word} {i : Fin 4} {d : Edit} (hlags : s.lags h i = true) (hd : s.dropFor i h = some d)
    (x : TimelineEntry) : s.draggedEntry h x i = x.mark i d.origin := by
  unfold State.draggedEntry
  rw [if_pos hlags, hd]
  rfl

theorem State.draggedEntry_of_not_marks {s : State} {h : Word} {i : Fin 4} (hnot : ¬ s.marks h i) (x : TimelineEntry) :
    s.draggedEntry h x i = x := by
  unfold State.draggedEntry
  split
  · next hlags =>
    cases hd : s.dropFor i h with
    | none => rfl
    | some d => exact absurd ⟨hlags, by unfold State.droppedFor; rw [hd]; rfl⟩ hnot
  · rfl

theorem foldl_draggedEntry_rest (s : State) (h : Word) (l : List (Fin 4)) (x : TimelineEntry) :
    l.foldl (s.draggedEntry h) x =
      { x with withheld := (l.foldl (s.draggedEntry h) x).withheld, origin := (l.foldl (s.draggedEntry h) x).origin } := by
  induction l generalizing x with
  | nil => rfl
  | cons i l ih =>
    rw [List.foldl_cons]
    conv => lhs; rw [ih]
    unfold State.draggedEntry
    split
    · cases s.dropFor i h <;> rfl
    · rfl

theorem foldl_draggedEntry_withheld (s : State) (h : Word) (l : List (Fin 4)) (x : TimelineEntry) (i : Fin 4) :
    hasTap (l.foldl (s.draggedEntry h) x).withheld i = true ↔ hasTap x.withheld i = true ∨ (i ∈ l ∧ s.marks h i) := by
  induction l generalizing x with
  | nil => simp
  | cons j l ih =>
    rw [List.foldl_cons, ih]
    by_cases hj : s.marks h j
    · obtain ⟨hlags, hdropped⟩ := id hj
      obtain ⟨d, hd⟩ := Option.isSome_iff_exists.mp hdropped
      rw [State.draggedEntry_of_marks hlags hd]
      show hasTap (x.withheld ||| tapBit j) i = true ∨ _ ↔ _
      rw [hasTap_or_tapBit, List.mem_cons]
      constructor
      · rintro ((h | rfl) | ⟨hi, hmarks⟩)
        · exact .inl h
        · exact .inr ⟨.inl rfl, hj⟩
        · exact .inr ⟨.inr hi, hmarks⟩
      · rintro (h | ⟨rfl | hi, hmarks⟩)
        · exact .inl (.inl h)
        · exact .inl (.inr rfl)
        · exact .inr ⟨hi, hmarks⟩
    · rw [State.draggedEntry_of_not_marks hj, List.mem_cons]
      refine or_congr_right ⟨fun ⟨hi, hmarks⟩ => ⟨.inr hi, hmarks⟩, fun ⟨hi, hmarks⟩ => ⟨hi.resolve_left ?_, hmarks⟩⟩
      exact fun hij => hj (hij ▸ hmarks)

/-- Once an entry is marked, or when no tap marks it, its origin stands. -/
theorem foldl_draggedEntry_origin (s : State) (h : Word) (l : List (Fin 4)) (x : TimelineEntry)
    (hkept : x.withheld ≠ 0#4 ∨ ∀ i ∈ l, ¬ s.marks h i) : (l.foldl (s.draggedEntry h) x).origin = x.origin := by
  induction l generalizing x with
  | nil => rfl
  | cons j l ih =>
    rw [List.foldl_cons]
    by_cases hj : s.marks h j
    · obtain hmarked | hnone := hkept
      · obtain ⟨hlags, hdropped⟩ := hj
        obtain ⟨d, hd⟩ := Option.isSome_iff_exists.mp hdropped
        rw [State.draggedEntry_of_marks hlags hd, ih _ (.inl (or_tapBit_ne_zero _ _))]
        exact if_neg hmarked
      · exact absurd hj (hnone j List.mem_cons_self)
    · rw [State.draggedEntry_of_not_marks hj]
      exact ih x (hkept.imp_right fun hnone i hi => hnone i (List.mem_cons_of_mem _ hi))

/-- The taps below a tap come before it. -/
theorem tapIds_split (i : Fin 4) : ∃ pre post, tapIds = pre ++ i :: post ∧ ∀ j ∈ pre, j < i :=
  ⟨tapIds.take i, tapIds.drop (i + 1), by revert i; decide, by revert i; decide⟩

/-- The lowest tap that marks an unmarked entry gives its origin. -/
theorem foldl_draggedEntry_first {s : State} {h : Word} {x : TimelineEntry} {i : Fin 4} {d : Edit} (hx : x.withheld = 0#4)
    (hlags : s.lags h i = true) (hd : s.dropFor i h = some d) (hfirst : ∀ j, j < i → ¬ s.marks h j) :
    (tapIds.foldl (s.draggedEntry h) x).origin = some d.origin := by
  obtain ⟨pre, post, hsplit, hpre⟩ := tapIds_split i
  have hkept (l : List (Fin 4)) (hl : ∀ j ∈ l, ¬ s.marks h j) : l.foldl (s.draggedEntry h) x = x := by
    induction l with
    | nil => rfl
    | cons j l ih =>
      rw [List.foldl_cons, State.draggedEntry_of_not_marks (hl j List.mem_cons_self)]
      exact ih fun j hj => hl j (List.mem_cons_of_mem _ hj)
  rw [hsplit, List.foldl_append, hkept pre fun j hj => hfirst j (hpre j hj), List.foldl_cons, State.draggedEntry_of_marks hlags hd,
    foldl_draggedEntry_origin _ _ _ _ (.inl (or_tapBit_ne_zero _ _))]
  exact if_pos hx

/-! ### Appending to a full table (R73) -/

theorem State.forceDepart_of_head {s : State} {e : TimelineEntry} {rest : List TimelineEntry} (hentries : s.timeline.entries = e :: rest) :
    s.forceDepart = (tapIds.foldl (State.dragTap e.pi) s).departHead.pruneSpent := by
  have hhead : s.head? = some e.pi := by unfold State.head?; rw [hentries]; rfl
  unfold State.forceDepart
  rw [hhead]

theorem State.append_of_full {s : State} (x : TimelineEntry) (hfull : 4096 ≤ s.timeline.entries.length)
    (hactive : ∃ i, (s.forceDepart.tap i).active = true) : s.append x = s.forceDepart.pushEntry x := by
  obtain ⟨i, hi⟩ := hactive
  have hfull' : Config.timelineCapacity ≤ s.timeline.entries.length := hfull
  have hsome : ¬ (s.forceDepart.pushEntry x).activeTaps.isEmpty = true := fun h => by
    have hmem : i ∈ (s.forceDepart.pushEntry x).activeTaps := (State.mem_activeTaps _ i).mpr hi
    rw [List.isEmpty_iff.mp h] at hmem
    cases hmem
  unfold State.append
  dsimp only
  rw [if_pos hfull', if_neg hsome]

end Sys2Proof.Machine

/-! SUPPORT. Departures hand on their segment. -/

namespace Sys2Proof.Machine

theorem State.departDue_edits (n : Nat) (s : State) : (State.departDue n s).edits = s.edits := by
  induction n generalizing s with
  | zero => rfl
  | succ n ih =>
    cases hentries : s.timeline.entries with
    | nil => rw [State.departDue_of_empty hentries]
    | cons e rest =>
      rw [State.departDue_succ hentries]
      split
      · rw [ih, State.departHead_eq hentries]
        exact (Frees.handOn ..).edits
      · rfl

/-- Settles O21: the head's segment by the branches of the handover, the floor test by the distance of floor and entries from the live edge
(with no tap active by the pool that does not grow while segments are owned), and a forced departure by the taps it drags in turn. -/
theorem departuresHandOnTheirSegment : Obligations.DeparturesHandOnTheirSegment := by
  unfold Obligations.DeparturesHandOnTheirSegment
  refine ⟨fun s e rest hentries => ⟨fun hphys => ?_, fun p g hphys hg => ⟨fun hpins => ?_, fun hpins => ?_⟩⟩,
    fun s p g hg => ⟨fun hstays => ?_, fun hheld hpins r hr hphys => ?_⟩, fun s hordered => ?_, fun s e rest hordered hentries => ?_⟩
  · rw [State.departHead_eq hentries, State.handOn_of_none hphys]
  · exact (State.departHead_eq hentries).trans (State.handOn_of_pinned hphys hg hpins)
  · rw [State.departHead_eq hentries]
    exact State.handOn_handedAs hphys hg hpins
  · have hnot : ¬ (g.state = .held ∧ g.pins ≤ 1) := fun ⟨hheld, hpins⟩ => hstays.elim (fun h => h hheld) fun h => by omega
    rw [State.unpin_eq hg, if_neg hnot]
    rfl
  · rw [State.unpin_eq hg, if_pos ⟨hheld, hpins⟩, hr]
    exact State.handOver_handedAs (State.seg?_setSeg_same _ hg) hphys
  · have hbounds := (Eased.departDue s.timeline.entries.length s).bounds
    have hnext : s.settle.timeline.nextPi = s.timeline.nextPi := State.departDue_nextPi ..
    have hwhole {es : List TimelineEntry} (h : s.settle.timeline.entries = es) : s.settle.timeline = { s.timeline with entries := es } := by
      dsimp only
      rw [← h, ← hnext]
    refine ⟨fun hfit hactive => hwhole (State.settle_of_active hordered hfit hactive), fun howned hsegs hidle =>
      hwhole (State.departDue_idle _ (s.segmentsOwned_iff.mp howned) hordered hsegs hidle (Nat.le_refl _)), fun d => ?_⟩
    show d ∈ (State.departDue _ s).edits.filter _ ↔ _
    rw [List.mem_filter, State.departDue_edits, Bool.not_eq_true', ← Bool.not_eq_true, State.spent_iff]
    simp only [fun i => (hbounds i).1, fun i => (hbounds i).2]
    rfl
  · intro moved dropped
    have hrest : ∀ x ∈ rest, x.pi ≠ e.pi := by
      have hpairwise := hordered.pairwise
      rw [hentries] at hpairwise
      intro x hx hpi
      have := (List.pairwise_cons.mp hpairwise).1 x hx
      rw [hpi] at this
      exact Nat.lt_irrefl _ this
    have hmoved (i : Fin 4) : s.lags e.pi i = true ↔ moved i := s.lags_iff ..
    have hmarks (i : Fin 4) : s.marks e.pi i ↔ moved i ∧ dropped i = true := and_congr_left' (hmoved i)
    have htapIds (i : Fin 4) : i ∈ tapIds := by revert i; decide
    obtain ⟨hdragged, htaps⟩ := foldl_dragTap tapIds (by decide) hentries rfl hrest
    have hforced := State.forceDepart_of_head hentries
    refine ⟨tapIds.foldl (s.draggedEntry e.pi) e, tapIds.foldl (State.dragTap e.pi) s, foldl_draggedEntry_rest .., fun i => ?_, fun hkept => ?_,
      fun hnone i d hi hd hfirst => ?_, hdragged, fun i => ?_, hforced, fun hactive hfull x => ?_⟩
    · rw [foldl_draggedEntry_withheld, hmarks]
      exact or_congr_right ⟨And.right, fun h => ⟨htapIds i, h⟩⟩
    · exact foldl_draggedEntry_origin _ _ _ _ (hkept.imp_right fun h i _ => (not_congr (hmarks i)).mpr (h i))
    · exact foldl_draggedEntry_first hnone ((hmoved i).mpr hi) hd fun j hj => (not_congr (hmarks j)).mpr (hfirst j hj)
    · rw [htaps i, if_pos (htapIds i)]
      unfold State.draggedTap
      exact ⟨fun h => if_pos ((hmoved i).mpr h), fun h => if_neg ((not_congr (hmoved i)).mpr h)⟩
    · have hentries' : (tapIds.foldl (State.dragTap e.pi) s).timeline.entries = tapIds.foldl (s.draggedEntry e.pi) e :: rest := by rw [hdragged]
      have htimeline : s.forceDepart.timeline = { s.timeline with entries := rest } := by
        rw [hforced]
        show (tapIds.foldl (State.dragTap e.pi) s).departHead.timeline = _
        rw [State.departHead_timeline hentries', hdragged]
      have hactive' : ∃ i, (s.forceDepart.tap i).active = true := by
        obtain ⟨i, hi⟩ := hactive
        refine ⟨i, ?_⟩
        rw [hforced]
        refine (((Eased.departHead _).trans (.pruneSpent _)).bounds i).1.trans ?_
        rw [htaps i, if_pos (htapIds i)]
        unfold State.draggedTap
        split
        · exact hi
        · exact hi
      rw [State.append_of_full x hfull hactive']
      unfold State.pushEntry
      rw [htimeline]

end Sys2Proof.Machine

/-! SUPPORT. Which operations of the pool, the timeline, the edit list and the tap engines keep the law of ownership (Table 21). -/

namespace Sys2Proof.Machine

/-- The law of ownership, the segments of `X` aside, passes from `s` to `t`. -/
structure OwnersKept (X : List Nat) (s t : State) : Prop where
  owned : s.Owned X → t.Owned X

section
variable {X : List Nat}

theorem OwnersKept.refl (s : State) : OwnersKept X s s := ⟨id⟩

theorem OwnersKept.trans {s t u : State} (h : OwnersKept X s t) (k : OwnersKept X t u) : OwnersKept X s u := ⟨k.owned ∘ h.owned⟩

theorem OwnersKept.ite {s t u : State} {c : Prop} [Decidable c] (h : OwnersKept X s t) (k : OwnersKept X s u) :
    OwnersKept X s (if c then t else u) := by split <;> assumption

theorem OwnersKept.foldl {α : Type} {f : State → α → State} (h : ∀ s x, OwnersKept X s (f s x)) (l : List α) (s : State) :
    OwnersKept X s (l.foldl f s) := by
  induction l generalizing s with
  | nil => exact .refl s
  | cons x l ih => exact (h s x).trans (ih _)

theorem KeepsOwners.kept {s t : State} (h : KeepsOwners s t) : OwnersKept X s t := ⟨h.owned⟩

theorem OwnersKept.departHead (s : State) : OwnersKept X s s.departHead := ⟨State.Owned.departHead⟩

theorem OwnersKept.settle (s : State) : OwnersKept X s s.settle := ⟨State.Owned.settle⟩

end

/-! ### What changes no owner -/

theorem KeepsOwners.withTaps (s : State) (v : PerTap Tap) : KeepsOwners s { s with taps := v } := .of_eq (fun _ => rfl) rfl

theorem KeepsOwners.setTap (s : State) (i : Fin 4) (x : Tap) : KeepsOwners s (s.setTap i x) := .withTaps s _

theorem KeepsOwners.modifyTap (s : State) (i : Fin 4) (f : Tap → Tap) : KeepsOwners s (s.modifyTap i f) := .withTaps s _

theorem KeepsOwners.withStore (s : State) (c : StoreController) : KeepsOwners s { s with store := c } := .of_eq (fun _ => rfl) rfl

theorem KeepsOwners.setSettings (s : State) (i : Fin 4) (x : TapSettings) : KeepsOwners s (s.setSettings i x) := .withStore s _

theorem KeepsOwners.modifyConfig (s : State) (f : WorkingConfig → WorkingConfig) : KeepsOwners s (s.modifyConfig f) := .withStore s _

theorem KeepsOwners.withLink (s : State) (l : Interposer) : KeepsOwners s { s with link := l } := .of_eq (fun _ => rfl) rfl

theorem KeepsOwners.withStartUp (s : State) (u : StartUp) : KeepsOwners s { s with startUp := u } := .of_eq (fun _ => rfl) rfl

theorem KeepsOwners.withPanel (s : State) (p : PanelTally) : KeepsOwners s { s with panel := p } := .of_eq (fun _ => rfl) rfl

theorem KeepsOwners.refreshTally (s : State) : KeepsOwners s s.refreshTally := .withPanel s _

theorem KeepsOwners.raiseOutstanding (s : State) (p : Nat) : KeepsOwners s (s.raiseOutstanding p) := .modifySeg s p fun _ => ⟨rfl, rfl, fun _ h => h⟩

theorem KeepsOwners.lowerOutstanding (s : State) (p : Nat) : KeepsOwners s (s.lowerOutstanding p) := .modifySeg s p fun _ => ⟨rfl, rfl, fun _ h => h⟩

theorem KeepsOwners.lowerFor (s : State) (u : MUse) : KeepsOwners s (s.lowerFor u) := by
  unfold State.lowerFor
  split
  · exact .refl s
  · exact .lowerOutstanding ..

theorem KeepsOwners.pin (s : State) (p : Nat) : KeepsOwners s (s.pin p) := .modifySeg s p fun _ => ⟨rfl, rfl, fun _ _ => Nat.succ_pos _⟩

theorem KeepsOwners.pinOpt (s : State) (p : Option Nat) : KeepsOwners s (s.pinOpt p) := by
  cases p with
  | none => exact .refl s
  | some p => exact .pin s p

/-- The timeline's entries change, but not in the segments that they name. -/
theorem KeepsOwners.withTimeline (s : State) {tl : Timeline} (h : tl.entries.filterMap (·.phys) = s.timeline.entries.filterMap (·.phys)) :
    KeepsOwners s { s with timeline := tl } := by
  refine .of_eq (fun k => ?_) rfl
  by_cases hk : k = .live
  · subst hk
    exact h
  · exact s.named_withTimeline _ hk

theorem KeepsOwners.modifyEntry (s : State) (x : Word) {f : TimelineEntry → TimelineEntry} (hf : ∀ e, (f e).phys = e.phys) :
    KeepsOwners s (s.modifyEntry x f) := by
  refine .withTimeline s ?_
  dsimp only
  rw [List.filterMap_map]
  refine congrArg (fun g => List.filterMap g _) (funext fun e => ?_)
  rw [Function.comp_apply]
  split
  · exact hf e
  · rfl

theorem KeepsOwners.markWithheld (s : State) (i : Fin 4) (x : Word) : KeepsOwners s (s.markWithheld i x) := by
  unfold State.markWithheld
  split
  · exact .refl s
  · exact .modifyEntry s x fun _ => rfl

theorem KeepsOwners.passOver (i : Fin 4) (s : State) (e : TimelineEntry) : KeepsOwners s (State.passOver i s e) := by
  unfold State.passOver
  exact .ite (.refl s) ((KeepsOwners.markWithheld ..).trans (.modifyTap ..))

theorem KeepsOwners.dragTap (h : Word) (s : State) (i : Fin 4) : KeepsOwners s (State.dragTap h s i) := by
  unfold State.dragTap
  exact .ite ((KeepsOwners.markWithheld ..).trans (.setTap ..)) (.refl s)

/-! ### Appending (R64, R73) -/

theorem OwnersKept.forceDepart {X : List Nat} (s : State) : OwnersKept X s s.forceDepart := by
  unfold State.forceDepart
  split
  · exact .refl s
  · exact ((KeepsOwners.foldl (.dragTap _) _ s).kept.trans (.departHead _)).trans (KeepsOwners.pruneSpent _).kept

theorem KeepsOwners.pushEntry (s : State) {e : TimelineEntry} (h : e.phys = none) : KeepsOwners s (s.pushEntry e) := by
  refine .withTimeline s ?_
  dsimp only
  rw [List.filterMap_append]
  exact (congrArg _ (List.filterMap_cons_none (f := fun e : TimelineEntry => e.phys) h)).trans (List.append_nil _)

/-- An entry joins the timeline and names a LIVE segment that nothing else names. -/
theorem State.Owned.pushEntry {X : List Nat} {s : State} {e : TimelineEntry} {p : Nat} {g : Segment} (h : s.Owned (p :: X)) (hp : p ∉ X)
    (hphys : e.phys = some p) (hg : s.seg? p = some g) (hstate : g.state = .live) (hdeparture : g.departure = none) :
    (s.pushEntry e).Owned X := by
  refine h.name (k := .live) hp ?_ (fun j hj => s.named_withTimeline _ hj) rfl hg hstate hdeparture fun _ _ => rfl
  show (List.filterMap (·.phys) (s.timeline.entries ++ [({ e with pi := s.timeline.nextPi } : TimelineEntry)])).Perm _
  rw [List.filterMap_append]
  exact (congrArg (List.Perm · _) (congrArg _ (List.filterMap_cons_some (f := fun e : TimelineEntry => e.phys) hphys))).mpr
    (List.perm_append_singleton ..)

theorem OwnersKept.appendGap {X : List Nat} (s : State) {e : TimelineEntry} (h : e.phys = none) : OwnersKept X s (s.append e) := by
  unfold State.append
  have hforced : OwnersKept X s (if Config.timelineCapacity ≤ s.timeline.entries.length then s.forceDepart else s) :=
    .ite (.forceDepart s) (.refl s)
  exact .ite ((hforced.trans (KeepsOwners.pushEntry _ h).kept).trans (.settle _)) (hforced.trans (KeepsOwners.pushEntry _ h).kept)

theorem OwnersKept.appendRun {X : List Nat} (s : State) (run : List GapCause) : OwnersKept X s (s.appendRun run) :=
  .foldl (fun s _ => .appendGap s rfl) run s

theorem State.Loose.unnamed {s : State} {p : Nat} (h : s.Loose p) : s.Unnamed p :=
  ⟨fun e he hphys => h.not_mem .live (List.mem_filterMap.mpr ⟨e, he, hphys⟩), fun r hr hphys =>
    h.not_mem .quarantined (List.mem_map.mpr ⟨r, hr, hphys⟩)⟩

/-- A program entry is appended, naming a LIVE segment that nothing else names. -/
theorem State.Owned.append {X : List Nat} {s : State} {e : TimelineEntry} {p : Nat} {g : Segment} (h : s.Owned (p :: X)) (hp : p ∉ X)
    (hphys : e.phys = some p) (hg : s.seg? p = some g) (hstate : g.state = .live) (hdeparture : g.departure = none) :
    (s.append e).Owned X := by
  have hunnamed := (h.loose List.mem_cons_self).unnamed
  have hforced : ∀ u : State, u = s ∨ u = s.forceDepart → (u.pushEntry e).Owned X := by
    rintro u (rfl | rfl)
    · exact h.pushEntry hp hphys hg hstate hdeparture
    · obtain ⟨-, hseg⟩ := (Rehomes.forceDepart (Q := fun _ => False) s).spared p not_false hunnamed
      exact ((OwnersKept.forceDepart s).owned h).pushEntry hp hphys (hseg.trans hg) hstate hdeparture
  have hpushed : (State.pushEntry (if Config.timelineCapacity ≤ s.timeline.entries.length then s.forceDepart else s) e).Owned X := by
    split
    · exact hforced _ (.inr rfl)
    · exact hforced _ (.inl rfl)
  unfold State.append
  dsimp only
  generalize State.pushEntry (if Config.timelineCapacity ≤ s.timeline.entries.length then s.forceDepart else s) e = u at hpushed
  split
  · exact hpushed.settle
  · exact hpushed

/-! ### Faults (R49, R50) -/

theorem KeepsOwners.clampTap (ceil : Nat) (s : State) (i : Fin 4) : KeepsOwners s (s.clampTap ceil i) := by
  unfold State.clampTap
  exact .ite ((KeepsOwners.setSettings ..).trans (.setTap ..)) (.refl s)

theorem KeepsOwners.enterRetired (s : State) (p : Nat) : KeepsOwners (s.enterRetired p) (s.retire p) := by
  rw [State.retire_eq]
  exact .ite ((KeepsOwners.raiseAll ..).trans (.foldl (.clampTap _) ..)) (.refl _)

/-- A FREE segment retires. -/
theorem State.Owned.retire {X : List Nat} {s : State} {p : Nat} {g : Segment} (h : s.Owned X) (hg : s.seg? p = some g)
    (hstate : g.state = .free) : (s.retire p).Owned X := by
  refine (KeepsOwners.enterRetired s p).owned ((KeepsOwners.raiseAll _ _).owned ?_)
  have hother (q : Nat) (hq : q ≠ p) : s.StaysAt (s.modifySeg p fun g => { g with state := .retired }) q :=
    .of_eq (fun _ => rfl) (by rw [State.seg_modifySeg, if_neg (Ne.symm hq)])
  have hseg : (s.modifySeg p fun g => { g with state := .retired }).seg? p = some { g with state := .retired } := by
    rw [State.seg_modifySeg, if_pos rfl, hg]
    rfl
  intro q
  by_cases hq : q = p
  · subst hq
    refine ⟨fun hX => ⟨(h.loose hX).1, _, hseg⟩, fun hX => ?_⟩
    have hplaced := h.placed hX
    have hdeparture : g.departure = none := by
      obtain ⟨hheld, -, -⟩ := hplaced.2 g hg
      refine Classical.byContradiction fun hne => ?_
      rw [hheld.mpr hne] at hstate
      cases hstate
    exact .of_ownerless hseg (hplaced.loose hg (by rw [hstate]; rfl)).1 (.inr rfl) hdeparture
  · exact ⟨fun hX => (hother q hq).loose (h.loose hX), fun hX => (hother q hq).placed (h.placed hX)⟩

theorem OwnersKept.countFault {X : List Nat} (s : State) (p : Nat) : OwnersKept X s (s.countFault p) := by
  refine ⟨fun h => ?_⟩
  cases hg : s.seg? p with
  | none =>
    unfold State.countFault
    rw [hg]
    exact h
  | some g =>
    cases hcounted : g.counted with
    | true => rw [State.countFault_of_counted hg hcounted]; exact h
    | false =>
      unfold State.countFault
      rw [hg]
      dsimp only
      rw [if_neg (Bool.eq_false_iff.mp hcounted)]
      have hmarked := (KeepsOwners.modifySeg s p (f := fun g' =>
        { g' with
          faults := bump Config.faultMax g.faults
          counted := true
          retirePending := g'.retirePending || (decide (s.store.config.faultThreshold ≤ bump Config.faultMax g.faults) && g'.state != .retired) })
        fun _ => ⟨rfl, rfl, fun _ h => h⟩).owned h
      split
      · next hfree =>
        exact State.Owned.retire hmarked (p := p) ((State.seg_modifySeg ..).trans ((if_pos rfl).trans (congrArg (Option.map _) hg))) hfree.2
      · exact hmarked

theorem OwnersKept.faultOn {X : List Nat} (s : State) (p : Nat) (status : LinkStatus) : OwnersKept X s (s.faultOn p status) := by
  cases status with
  | ok => exact .refl s
  | fault => exact (OwnersKept.countFault s p).trans (.settle _)

end Sys2Proof.Machine

/-! SUPPORT. The tap engines, the edit list, the control entries and the pattern run keep the law of ownership (Table 21). -/

namespace Sys2Proof.Machine

/-! ### The edit list -/

theorem KeepsOwners.raiseLate (new : Edit) (s : State) (i : Fin 4) : KeepsOwners s (State.raiseLate new s i) := by
  unfold State.raiseLate
  exact .ite (.modifyTap ..) (.refl s)

theorem KeepsOwners.tookRange (s : State) (new : Edit) (es : List Edit) : KeepsOwners s (s.tookRange new es) :=
  ((KeepsOwners.withEdits s es).trans (.foldl (.raiseLate new) ..)).trans (.pruneSpent _)

theorem KeepsOwners.dump (s : State) : KeepsOwners s s.dump := by
  unfold State.dump
  split
  · exact .raiseAll ..
  · dsimp only
    split
    · exact .tookRange ..
    · exact (KeepsOwners.tookRange ..).trans (.raiseAll ..)

theorem KeepsOwners.openMask (s : State) : KeepsOwners s s.openMask := by
  unfold State.openMask
  refine .ite (.refl s) ?_
  dsimp only
  split
  · exact .tookRange ..
  · exact (KeepsOwners.tookRange ..).trans (.raiseAll ..)

theorem KeepsOwners.closeMask (s : State) : KeepsOwners s s.closeMask := (KeepsOwners.withEdits s _).trans (.pruneSpent _)

theorem KeepsOwners.present (s : State) (n : Word) (cutOk : Bool) : KeepsOwners s (s.present n cutOk) :=
  (((KeepsOwners.withEdits s _).trans (.raiseUnless ..)).trans (.raiseUnless ..)).trans (.pruneSpent _)

theorem KeepsOwners.mark (s : State) (kind : EditKind) (taps : BitVec 4) (count : Nat) (q : Word) : KeepsOwners s (s.mark kind taps count q).1 := by
  unfold State.mark
  split
  · exact .refl s
  · dsimp only
    split
    · exact .refl s
    · split
      · exact .refl s
      · exact (KeepsOwners.raiseUnless ..).trans (.tookRange ..)

theorem KeepsOwners.cancelEdit (s : State) (id : Nat) : KeepsOwners s (s.cancelEdit id).1 := by
  unfold State.cancelEdit
  split
  · exact .refl s
  · split
    · exact .refl s
    · exact .withEdits ..

/-! ### References (R47, R48) -/

/-- A HELD segment waits for nobody's list. -/
theorem State.Owned.lend {X : List Nat} {s : State} (h : s.Owned X) {p : Nat} {g : Segment} (hp : p ∉ X) (hg : s.seg? p = some g)
    (hown : g.state.hasOwner = false) : s.Owned (p :: X) :=
  h.loosen (fun q _ => (KeepsOwners.refl s).stays q) ((h.placed hp).loose hg hown)

theorem OwnersKept.unpin (s : State) (p : Nat) : OwnersKept [] s (s.unpin p) := by
  refine ⟨fun h => ?_⟩
  cases hg : s.seg? p with
  | none =>
    unfold State.unpin
    rw [hg]
    exact h
  | some g =>
    have hother (q : Nat) (hq : q ≠ p) : s.StaysAt (s.setSeg p { g with pins := g.pins - 1 }) q :=
      .of_eq (fun _ => rfl) (s.seg?_setSeg_other _ hq)
    have hseg := State.seg?_setSeg_same { g with pins := g.pins - 1 } hg
    rw [State.unpin_eq hg]
    split
    · next hlast =>
      obtain ⟨hheld, -⟩ := hlast
      have hplaced := h.placed (p := p) List.not_mem_nil
      obtain ⟨hrecord, -, hphys⟩ := hplaced.2 g hg
      have hloose : (s.setSeg p { g with pins := g.pins - 1 }).Owned [p] :=
        h.loosen hother ⟨(hplaced.loose hg (by rw [hheld]; rfl)).1, _, hseg⟩
      unfold State.handOver
      split
      · exact hloose.freeSeg List.not_mem_nil
      · next r hr =>
        cases hphys r hr
        split
        · exact hloose.freeSeg List.not_mem_nil
        · exact State.Owned.offer false hloose List.not_mem_nil
    · next hnot =>
      refine KeepsOwners.owned ⟨fun q => ?_⟩ h
      by_cases hq : q = p
      · subst hq
        refine ⟨fun _ => rfl, ?_⟩
        rw [hg, hseg]
        refine .some ⟨rfl, rfl, fun hheld hpins => ?_⟩
        have : ¬ g.pins ≤ 1 := fun hle => hnot ⟨hheld, hle⟩
        show 0 < g.pins - 1
        omega
      · exact hother q hq

theorem OwnersKept.unpinOpt (s : State) (p : Option Nat) : OwnersKept [] s (s.unpinOpt p) := by
  cases p with
  | none => exact .refl s
  | some p => exact .unpin s p

theorem OwnersKept.dropReferences (s : State) (i : Fin 4) : OwnersKept [] s (s.dropReferences i) :=
  (((KeepsOwners.setTap ..).kept.trans (.unpinOpt ..)).trans (.unpinOpt ..)).trans (.unpinOpt ..)

theorem OwnersKept.tapOn (policy : StartPolicy) (s : State) (i : Fin 4) : OwnersKept [] s (State.tapOn policy s i) := by
  unfold State.tapOn
  exact (OwnersKept.dropReferences s i).trans (KeepsOwners.modifyTap ..).kept

theorem OwnersKept.tapOff (s : State) (i : Fin 4) : OwnersKept [] s (s.tapOff i) := by
  unfold State.tapOff
  exact .ite ((OwnersKept.dropReferences s i).trans (KeepsOwners.modifyTap ..).kept) (.refl s)

/-! ### Advances (R111 to R121) -/

theorem KeepsOwners.bindEntry (s : State) (i : Fin 4) (e : TimelineEntry) (adjust passed : Bool) :
    KeepsOwners s (s.bindEntry i e adjust passed).1 := by
  unfold State.bindEntry
  dsimp only
  split
  · exact .setTap ..
  · split
    · exact .setTap ..
    · exact .setTap ..

theorem KeepsOwners.bindUnderrun (s : State) (i : Fin 4) : KeepsOwners s (s.bindUnderrun i).1 := .setTap s i _

theorem KeepsOwners.bindPaced (s : State) (i : Fin 4) (mode : PacerMode) (c : TimelineEntry) (after : List TimelineEntry) (passed : Bool) :
    KeepsOwners s (s.bindPaced i mode c after passed).1 := by
  unfold State.bindPaced
  dsimp only
  cases mode with
  | steady => exact (KeepsOwners.setTap ..).trans (.bindEntry ..)
  | build =>
    dsimp only
    split
    · exact .setTap ..
    · exact (KeepsOwners.setTap ..).trans (.bindEntry ..)
  | shed =>
    dsimp only
    split
    · exact ((KeepsOwners.setTap ..).trans (.foldl (.passOver i) ..)).trans (.bindEntry ..)
    · exact (KeepsOwners.setTap ..).trans (.bindEntry ..)

theorem KeepsOwners.bindRun (s : State) (i : Fin 4) : KeepsOwners s (s.bindRun i).1 := by
  unfold State.bindRun
  dsimp only
  split
  · exact (KeepsOwners.foldl (.passOver i) ..).trans (.bindUnderrun ..)
  · exact (KeepsOwners.foldl (.passOver i) ..).trans (.bindPaced ..)

theorem KeepsOwners.bindPosition (s : State) (i : Fin 4) : KeepsOwners s (s.bindPosition i).1 := by
  unfold State.bindPosition
  dsimp only
  split
  · split
    · exact .setTap ..
    · exact (KeepsOwners.setTap ..).trans (.bindRun ..)
  · exact .bindRun ..
  · exact .refl s

theorem OwnersKept.movePins (s : State) (b : Binding) (previous : Option SlotBinding) (before after : Option RepeatSource) :
    OwnersKept [] s (s.movePins b previous before after) := by
  unfold State.movePins
  have hpinned : KeepsOwners s (if b.kind = .program then (s.pinOpt b.phys).pinOpt (after.map (·.phys)) else s.pinOpt b.phys) :=
    .ite ((KeepsOwners.pinOpt ..).trans (.pinOpt ..)) (.pinOpt ..)
  have hdropped := (hpinned.kept (X := [])).trans (.unpinOpt _ (previous.bind (·.binding.phys)))
  exact .ite (hdropped.trans (.unpinOpt ..)) hdropped

theorem OwnersKept.advance (s : State) (i : Fin 4) (j : Nat) : OwnersKept [] s (s.advance i j) := by
  unfold State.advance
  exact ((((KeepsOwners.setTap ..).trans (.bindPosition ..)).kept.trans (.movePins ..)).trans (.settle _)).trans (KeepsOwners.modifyTap ..).kept

theorem KeepsOwners.modifyFlight (s : State) (tag : Fin 64) (f : InFlight → InFlight) : KeepsOwners s (s.modifyFlight tag f) := .withLink s _

theorem KeepsOwners.plan (s : State) (m : MRequest) : KeepsOwners s (s.plan m) := .withLink s _

theorem KeepsOwners.servePlan (s : State) (tag : Fin 64) (g : Geometry) (plan : FillPlan) (use : PartRead → MUse) :
    KeepsOwners s (s.servePlan tag g plan use) := by
  unfold State.servePlan
  exact ((KeepsOwners.modifyFlight ..).trans (.foldl .plan ..)).trans (.foldl (fun s (r : PartRead) => .raiseOutstanding s r.phys) ..)

theorem OwnersKept.tapRead (s : State) (g : Geometry) (r : LinkRequest) (i : Fin 4) (j off : Nat) : OwnersKept [] s (s.tapRead g r i j off) := by
  have hcurrent (s : State) : KeepsOwners s (s.serveCurrent g r i off) := by
    unfold State.serveCurrent
    split
    · exact .refl s
    · exact (KeepsOwners.modifyTap ..).trans (.servePlan ..)
  unfold State.tapRead
  split
  · exact (KeepsOwners.servePlan ..).kept
  · exact (hcurrent s).kept
  · unfold State.servePrevious
    split
    · exact .refl s
    · exact ((KeepsOwners.modifyTap ..).trans (.servePlan ..)).kept
  · exact (OwnersKept.advance s i j).trans (hcurrent _).kept
  · exact ((KeepsOwners.modifyTap ..).trans (.servePlan ..)).kept

/-! ### The pattern run (R56 to R58) -/

theorem State.named_setPattern (s : State) (r : Option PatternRun) {k : SegState} (hk : k ≠ .testing) : (s.setPattern r).named k = s.named k := by
  cases k with
  | testing => exact absurd rfl hk
  | free | filling | quarantined | held | maskImage | live | retired => rfl

/-- A FREE segment is named by nobody and has no departure record. -/
theorem State.Owned.free {X : List Nat} {s : State} (h : s.Owned X) {p : Nat} {g : Segment} (hp : p ∉ X) (hg : s.seg? p = some g)
    (hfree : g.state = .free) : s.Owned (p :: X) ∧ g.departure = none := by
  refine ⟨h.lend hp hg (by rw [hfree]; rfl), ?_⟩
  obtain ⟨hheld, -, -⟩ := (h.placed hp).2 g hg
  refine Classical.byContradiction fun hne => ?_
  rw [hheld.mpr hne] at hfree
  cases hfree

theorem OwnersKept.setPattern {X : List Nat} {s : State} {r : Option PatternRun} (h : (r.map (·.cursor)) = s.pool.pattern.map (·.cursor)) :
    OwnersKept X s (s.setPattern r) := by
  refine KeepsOwners.kept (.of_eq (fun k => ?_) rfl)
  by_cases hk : k = .testing
  · subst hk
    exact congrArg Option.toList h
  · exact s.named_setPattern r hk

theorem State.Owned.takeTestable {s : State} (h : s.Owned []) (hidle : s.pool.pattern = none) (cursor stop : Nat) :
    (s.takeTestable cursor stop).Owned [] := by
  unfold State.takeTestable
  split
  · next p hp =>
    obtain ⟨i, hi, hip⟩ := Option.map_eq_some_iff.mp hp
    obtain ⟨hlt, hfree, -⟩ := List.findIdx?_eq_some_iff_getElem.mp hi
    obtain ⟨g, hg, hgfree⟩ : ∃ g, s.seg? p = some g ∧ g.state = .free := by
      refine ⟨_, ?_, ((Segment.allocatable_iff _).mp hfree).1⟩
      rw [← List.getElem?_eq_getElem hlt, List.getElem?_drop, List.getElem?_take, hip]
      have : p < stop := by
        rw [List.length_drop, List.length_take] at hlt
        omega
      rw [if_pos this]
      rfl
    obtain ⟨hlent, hdeparture⟩ := h.free List.not_mem_nil hg hgfree
    refine hlent.name (k := .testing) (g := { g with state := .testing, counted := false }) List.not_mem_nil ?_
      (fun j hj => s.named_setPattern _ hj) rfl ?_ rfl hdeparture fun q hq => ?_
    · show List.Perm [p] (p :: (s.pool.pattern.map (·.cursor)).toList)
      rw [hidle]
      exact .refl _
    · rw [State.seg_modifySeg, if_pos rfl]
      exact congrArg (Option.map _) hg
    · rw [State.seg_modifySeg, if_neg (Ne.symm hq)]
      rfl
  · exact (KeepsOwners.raiseAll ..).owned ((OwnersKept.setPattern (by rw [hidle])).owned h)

/-- The judged segment is out of the run's hands. -/
theorem State.Owned.judged {s : State} {r : PatternRun} (h : s.Owned []) (hr : s.pool.pattern = some r) :
    ((s.judged r).setPattern none).Owned [] := by
  have hmem : r.cursor ∈ s.named .testing := by
    show r.cursor ∈ (s.pool.pattern.map (·.cursor)).toList
    rw [hr]
    exact List.mem_cons_self
  obtain ⟨⟨-, g, hg, hstate⟩, howned⟩ := h.unname (t := s.setPattern none) (p := r.cursor) (k := .testing)
    (by
      show (s.pool.pattern.map (·.cursor)).toList.Perm [r.cursor]
      rw [hr]
      exact .refl _)
    (fun j hj => s.named_setPattern _ hj) rfl
  obtain ⟨hcount, -⟩ := howned.loose List.mem_cons_self
  obtain ⟨hlink, hcapture, htimeline, hquarantine, hseg⟩ := s.judged_rest r
  have himage : (s.judged r).pool.maskImage = s.pool.maskImage := by
    unfold State.judged
    split
    · show (State.retire _ _).pool.maskImage = _
      rw [State.retire_rest]
      rfl
    · rw [(Interior.freeSeg ..).pool]
  have hnamed (k : SegState) : ((s.judged r).setPattern none).named k = (s.setPattern none).named k :=
    State.named_congr (s := s.setPattern none) (t := (s.judged r).setPattern none) (congrArg _ hcapture) (congrArg _ htimeline) (congrArg _ hquarantine) himage rfl k
  refine howned.place List.not_mem_nil (fun q hq => .of_eq (fun k => by rw [hnamed]) (hseg q hq)) ?_
  have hdeparture : g.departure = none := by
    obtain ⟨hheld, -, -⟩ := (h.placed (p := r.cursor) List.not_mem_nil).2 g hg
    refine Classical.byContradiction fun hne => ?_
    rw [hheld.mpr hne] at hstate
    cases hstate
  cases hfailed : r.failed with
  | true =>
    obtain ⟨hjudged, -⟩ := State.judged_of_failed hfailed hg
    exact .of_ownerless (g := _) hjudged (fun k => by rw [hnamed]; exact hcount k) (.inr rfl) hdeparture
  | false =>
    obtain ⟨hjudged, -⟩ := State.judged_of_passed hfailed hg
    refine .of_ownerless (g := g.freed) hjudged (fun k => by rw [hnamed]; exact hcount k) ?_ rfl
    unfold Segment.freed
    dsimp only
    cases g.retirePending
    · exact .inl rfl
    · exact .inr rfl

theorem State.Owned.verdict {s : State} {r : PatternRun} (h : s.Owned []) (hr : s.pool.pattern = some r) : (s.verdict r).Owned [] := by
  rw [State.verdict_eq]
  exact (h.judged hr).takeTestable rfl (r.cursor + 1) r.stop

theorem PatternRun.takeAnswer_cursor (r : PatternRun) (m : MRequest) (a : LinkResponse) : (r.takeAnswer m a).cursor = r.cursor := by
  unfold PatternRun.takeAnswer
  split <;> rfl

theorem State.Owned.patternAnswer {s : State} {r : PatternRun} (h : s.Owned []) (hr : s.pool.pattern = some r) (g : Geometry) (m : MRequest)
    (a : LinkResponse) : (s.patternAnswer g r m a).Owned [] := by
  have hlowered : KeepsOwners s ((s.dropOutstanding m.tag).lowerFor m.use) := (KeepsOwners.withLink s _).trans (.lowerFor ..)
  have hpattern : ((s.dropOutstanding m.tag).lowerFor m.use).pool.pattern = some r := by
    unfold State.lowerFor
    split
    · exact hr
    · exact hr
  have hanswered : State.Owned [] (((s.dropOutstanding m.tag).lowerFor m.use).setPattern (some (r.takeAnswer m a))) := by
    refine (OwnersKept.setPattern ?_).owned (hlowered.owned h)
    rw [hpattern]
    exact congrArg some (r.takeAnswer_cursor m a)
  unfold State.patternAnswer
  dsimp only
  split
  · exact (hanswered.verdict rfl).settle
  · exact hanswered

end Sys2Proof.Machine

/-! SUPPORT. Allocation, the capture contexts and the commits keep the law of ownership (Table 21). -/

namespace Sys2Proof.Machine

/-! ### A loose segment's record -/

theorem State.Owned.ofLoose {X : List Nat} {p : Nat} {s t : State} (h : s.Owned (p :: X)) (hother : ∀ q, q ≠ p → s.StaysAt t q)
    (hnamed : ∀ k, t.named k = s.named k) (hseg : ∃ g, t.seg? p = some g) : t.Owned (p :: X) := by
  obtain ⟨hcount, -⟩ := h.loose List.mem_cons_self
  intro q
  by_cases hq : q = p
  · subst hq
    exact ⟨fun _ => ⟨fun k => by rw [hnamed]; exact hcount k, hseg⟩, fun hX => absurd List.mem_cons_self hX⟩
  · exact ⟨fun hX => (hother q hq).loose (h.loose hX), fun hX => (hother q hq).placed (h.placed hX)⟩

theorem State.Owned.modifyLoose {X : List Nat} {p : Nat} {s : State} (h : s.Owned (p :: X)) (f : Segment → Segment) :
    (s.modifySeg p f).Owned (p :: X) := by
  obtain ⟨-, g, hg⟩ := h.loose List.mem_cons_self
  exact h.ofLoose (fun q hq => .of_eq (fun _ => rfl) (by rw [State.seg_modifySeg, if_neg (Ne.symm hq)])) (fun _ => rfl)
    ⟨f g, by rw [State.seg_modifySeg, if_pos rfl, hg]; rfl⟩

theorem State.Owned.freeLoose {X : List Nat} {p : Nat} {s : State} (h : s.Owned (p :: X)) : (s.freeSeg p).Owned (p :: X) := by
  obtain ⟨-, g, hg⟩ := h.loose List.mem_cons_self
  exact h.ofLoose (fun q hq => .of_eq (fun k => by rw [State.freeSeg_named]) (State.freeSeg_seg?_other s hq)) (s.freeSeg_named p)
    ⟨_, State.freeSeg_seg?_same hg⟩

/-! ### Allocation (R45, R53, R54) -/

/-- Segment `p` is taken for a new context, which does not name it yet. -/
structure State.Lent (p : Nat) (s : State) : Prop where
  owned : s.Owned [p]
  seg : ∃ g, s.seg? p = some g ∧ g.state = .filling ∧ g.departure = none

theorem State.Owned.takeSegment {p : Nat} {s : State} {g : Segment} (h : s.Owned [p]) (hg : s.seg? p = some g) (hdeparture : g.departure = none) :
    (s.takeSegment p).Lent p :=
  ⟨h.modifyLoose _, { g with state := .filling, counted := false }, by
    unfold State.takeSegment
    rw [State.seg_modifySeg, if_pos rfl, hg]
    exact ⟨rfl, rfl, hdeparture⟩⟩

theorem State.Owned.freeAndTake {p : Nat} {s : State} (h : s.Owned [p]) : ((s.freeSeg p).takeSegment p).Lent p := by
  obtain ⟨-, g, hg⟩ := h.loose List.mem_cons_self
  exact h.freeLoose.takeSegment (State.freeSeg_seg?_same hg) rfl

/-- An entry that becomes an EVICTED gap lets its segment go. -/
theorem State.Owned.evict {s : State} {e : TimelineEntry} {p : Nat} (h : s.Owned []) (hordered : s.timelineOrdered)
    (he : e ∈ s.timeline.entries) (hphys : e.phys = some p) : (s.modifyEntry e.pi TimelineEntry.evict).Owned [p] := by
  obtain ⟨pre, post, hsplit⟩ := List.append_of_mem he
  have hpairwise := hordered.pairwise
  rw [hsplit, List.pairwise_append] at hpairwise
  obtain ⟨-, hpost, hpre⟩ := hpairwise
  have hne (x : TimelineEntry) (hx : x ∈ pre ∨ x ∈ post) : ¬ (x.pi == e.pi) = true := fun heq => by
    have heq := beq_iff_eq.mp heq
    obtain hx | hx := hx
    · have := hpre x hx e List.mem_cons_self
      rw [heq] at this
      exact Nat.lt_irrefl _ this
    · have := (List.pairwise_cons.mp hpost).1 x hx
      rw [heq] at this
      exact Nat.lt_irrefl _ this
  have hkept (l : List TimelineEntry) (hl : ∀ x ∈ l, x ∈ pre ∨ x ∈ post) :
      l.map (fun x => if x.pi == e.pi then x.evict else x) = l :=
    (List.map_congr_left fun x hx => if_neg (hne x (hl x hx))).trans (List.map_id' l)
  have hentries : (s.modifyEntry e.pi TimelineEntry.evict).timeline.entries = pre ++ e.evict :: post := by
    show s.timeline.entries.map _ = _
    rw [hsplit, List.map_append, List.map_cons, hkept pre fun _ => .inl, hkept post fun _ => .inr, if_pos (beq_self_eq_true _)]
  have hnamed : s.named .live = pre.filterMap (·.phys) ++ p :: post.filterMap (·.phys) := by
    show s.timeline.entries.filterMap (·.phys) = _
    rw [hsplit, List.filterMap_append]
    exact congrArg _ (List.filterMap_cons_some (f := fun e : TimelineEntry => e.phys) hphys)
  have hnamed' : (s.modifyEntry e.pi TimelineEntry.evict).named .live = pre.filterMap (·.phys) ++ post.filterMap (·.phys) := by
    show (s.modifyEntry e.pi TimelineEntry.evict).timeline.entries.filterMap (·.phys) = _
    rw [hentries, List.filterMap_append]
    exact congrArg _ (List.filterMap_cons_none (f := fun e : TimelineEntry => e.phys) rfl)
  refine (h.unname (t := s.modifyEntry e.pi TimelineEntry.evict) (k := .live) ?_ (fun j hj => s.named_withTimeline _ hj) rfl).2
  rw [hnamed, hnamed']
  exact List.perm_middle

theorem State.Owned.evictFor {s : State} {e : TimelineEntry} {p : Nat} (h : s.Owned []) (hordered : s.timelineOrdered)
    (he : e ∈ s.timeline.entries) (hp : (s.evictFor e).2 = some p) : (s.evictFor e).1.Lent p := by
  unfold State.evictFor at hp ⊢
  cases hphys : e.phys with
  | none =>
    rw [hphys] at hp
    cases hp
  | some q =>
    rw [hphys] at hp
    cases hp
    exact (h.evict hordered he hphys).freeAndTake

theorem State.Owned.allocate {s : State} (h : s.Owned []) (hordered : s.timelineOrdered) :
    (∀ p, s.allocate.2 = some p → s.allocate.1.Lent p) ∧ (s.allocate.2 = none → s.allocate.1.Owned []) := by
  unfold State.allocate
  split
  · next p hp =>
    obtain ⟨hlt, hfree, -⟩ := List.findIdx?_eq_some_iff_getElem.mp hp
    have hg := List.getElem?_eq_getElem hlt
    obtain ⟨hlent, hdeparture⟩ := h.free (p := p) List.not_mem_nil hg ((Segment.allocatable_iff _).mp hfree).1
    exact ⟨fun q hq => by cases hq; exact hlent.takeSegment hg hdeparture, fun hnone => nomatch hnone⟩
  · unfold State.relieve
    have hevicted (u : State) (hu : KeepsOwners s u) (htimeline : u.timeline = s.timeline) (e : TimelineEntry) (he : e ∈ s.timeline.entries)
        (hphys : e.phys ≠ none) :
        (∀ p, (u.evictFor e).2 = some p → (u.evictFor e).1.Lent p) ∧ ((u.evictFor e).2 = none → (u.evictFor e).1.Owned []) := by
      refine ⟨fun p hp => (hu.owned h).evictFor (hordered.congr htimeline) (htimeline ▸ he) hp, fun hnone => ?_⟩
      unfold State.evictFor at hnone
      split at hnone
      · next hp => exact absurd hp hphys
      · cases hnone
    have hphys (e : TimelineEntry) (he : s.evictable e = true) : e.phys ≠ none := fun hnone => by
      unfold State.evictable at he
      rw [hnone] at he
      cases he
    split
    · next r hr =>
      obtain ⟨rest, hrecords⟩ : ∃ rest, s.quarantine.records = r :: rest := by
        unfold State.pressureOldest at hr
        split at hr
        · next r' rest _ hrecords =>
          split at hr
          · cases hr; exact ⟨rest, hrecords⟩
          · cases hr
        · cases hr
      refine ⟨fun p hp => ?_, fun hnone => nomatch hnone⟩
      cases hp
      dsimp only
      rw [hrecords, List.drop_one, List.tail_cons]
      exact ((KeepsOwners.raiseAll _ .quarOverwrite).owned (h.dropOldest hrecords).2).freeAndTake
    · split
      · next e he =>
        have hfound := List.find?_some he
        rw [Bool.and_eq_true, Bool.and_eq_true] at hfound
        exact hevicted _ (.raiseAll ..) rfl e (List.mem_of_find?_eq_some he) (hphys e hfound.1.1)
      · split
        · next e he =>
          have hfound := List.find?_some he
          rw [Bool.and_eq_true] at hfound
          have hraised : KeepsOwners s (if e.withheld = 0#4 then s.raiseAll .evicted else (s.raiseAll .evicted).raiseAll .quarMissed) :=
            .ite (.raiseAll ..) ((KeepsOwners.raiseAll ..).trans (.raiseAll ..))
          have htimeline : (if e.withheld = 0#4 then s.raiseAll .evicted else (s.raiseAll .evicted).raiseAll .quarMissed).timeline = s.timeline := by
            split
            · rfl
            · rfl
          exact hevicted _ hraised htimeline e (List.mem_of_find?_eq_some he) (hphys e hfound.1)
        · exact ⟨fun _ hp => (nomatch hp), fun _ => h⟩

/-! ### Contexts (R25 to R28) -/

/-- The segments that contexts name. -/
def contextSegs (cs : List Context) : List Nat := cs.filterMap fun c => c.body.map (·.phys)

theorem State.named_withCapture (s : State) (u : CaptureUnit) {k : SegState} (hk : k ≠ .filling) :
    State.named { s with capture := u } k = s.named k := by
  cases k with
  | filling => exact absurd rfl hk
  | free | live | quarantined | held | maskImage | testing | retired => rfl

theorem KeepsOwners.withCapture (s : State) {u : CaptureUnit} (h : contextSegs u.contexts = contextSegs s.capture.contexts) :
    KeepsOwners s { s with capture := u } := by
  refine .of_eq (fun k => ?_) rfl
  by_cases hk : k = .filling
  · subst hk
    exact h
  · exact s.named_withCapture _ hk

theorem contextSegs_map {cs : List Context} {f : Context → Context} (h : ∀ c ∈ cs, (f c).body.map (·.phys) = c.body.map (·.phys)) :
    contextSegs (cs.map f) = contextSegs cs := by
  unfold contextSegs
  rw [List.filterMap_map]
  exact filterMap_eq_of_mem h

theorem KeepsOwners.carryRun (s : State) (older : List Context) (run : List GapCause) : KeepsOwners s (s.carryRun older run) := by
  unfold State.carryRun
  split
  · refine .withCapture s (contextSegs_map fun c _ => ?_)
    split
    · show (c.body.map _).map _ = _
      rw [Option.map_map]
      rfl
    · rfl
  · exact .withCapture s rfl

theorem KeepsOwners.openDiscard (s : State) (k : Nat) : KeepsOwners s (s.openDiscard k) := by
  refine .withCapture s ?_
  unfold contextSegs
  rw [List.filterMap_append]
  exact List.append_nil _

theorem KeepsOwners.absorbWrite (s : State) (f : InFlight) : KeepsOwners s (s.absorbWrite f) := .modifyFlight ..

theorem KeepsOwners.forwardWrite (s : State) (g : Geometry) (f : InFlight) (p off : Nat) : KeepsOwners s (s.forwardWrite g f p off) :=
  ((KeepsOwners.modifyFlight ..).trans (.plan ..)).trans (.raiseOutstanding ..)

/-- A context goes. -/
theorem State.Owned.dropContext {X : List Nat} {s : State} {older younger : List Context} {c : Context} (h : s.Owned X)
    (hcontexts : s.capture.contexts = older ++ c :: younger) :
    (c.body = none → (s.setContexts (older ++ younger)).Owned X) ∧
      ∀ b, c.body = some b → (b.phys ∉ X ∧ ∃ g, s.seg? b.phys = some g ∧ g.state = .filling) ∧
        (s.setContexts (older ++ younger)).Owned (b.phys :: X) := by
  constructor
  · intro hbody
    refine (KeepsOwners.withCapture s ?_).owned h
    unfold contextSegs
    rw [hcontexts, List.filterMap_append, List.filterMap_append, List.filterMap_cons_none (by rw [hbody]; rfl)]
  · intro b hbody
    refine h.unname (k := .filling) ?_ (fun j hj => s.named_withCapture _ hj) rfl
    show (contextSegs s.capture.contexts).Perm (b.phys :: contextSegs (older ++ younger))
    unfold contextSegs
    rw [hcontexts, List.filterMap_append, List.filterMap_append,
      List.filterMap_cons_some (b := b.phys) (by rw [hbody]; rfl)]
    exact List.perm_middle

theorem OwnersKept.displace {s : State} (k : Nat) (hslots : (s.capture.contexts.map (·.slot)).Nodup) : OwnersKept [] s (s.displace k) := by
  refine ⟨fun h => ?_⟩
  unfold State.displace
  split
  · exact h
  · next c hc =>
    obtain ⟨hslot, older, younger, hcontexts, -⟩ := List.find?_eq_some_iff_append.mp hc
    have hslot := beq_iff_eq.mp hslot
    subst hslot
    obtain ⟨-, -, hfilter⟩ := find_slot (hcontexts ▸ hslots)
    obtain ⟨hnone, hsome⟩ := h.dropContext hcontexts
    dsimp only
    rw [hcontexts, hfilter]
    split
    · next hbody => exact hnone hbody
    · next b hbody =>
      exact ((((KeepsOwners.raiseAll _ .abandoned).trans (.carryRun ..)).owned (hsome b hbody).2).freeSeg List.not_mem_nil).settle

theorem OwnersKept.makeRoom {s : State} (k : Nat) (hfit : s.contextsFit) : OwnersKept [] s (s.makeRoom k) := by
  obtain ⟨-, hslots, -⟩ := hfit
  have hfirst := OwnersKept.displace k hslots
  unfold State.makeRoom
  dsimp only
  split
  · next c d rest hcontexts =>
    have hslots' : ((s.displace k).capture.contexts.map (·.slot)).Nodup := by
      rw [s.displace_slots k]
      exact hslots.filter _
    exact hfirst.trans (.displace _ hslots')
  · exact hfirst

end Sys2Proof.Machine

/-! SUPPORT. Control entries, commits, header writes and capture answers keep the law of ownership (Table 21). -/

namespace Sys2Proof.Machine

/-! ### Control entries (R157 to R170) -/

theorem OwnersKept.forTaps {X : List Nat} {f : State → Fin 4 → State} (h : ∀ s i, OwnersKept X s (f s i)) (s : State) (mask : BitVec 4) :
    OwnersKept X s (s.forTaps mask f) := .foldl h _ s

/-- The segments of some records, the oldest of the quarantine's, are freed as the records leave. -/
theorem State.Owned.release {s : State} (gone kept : List SegmentRecord) (h : s.Owned []) (hrecords : s.quarantine.records = gone ++ kept) :
    State.Owned [] (gone.foldl (fun s r => s.freeSeg r.phys) { s with quarantine := { s.quarantine with records := kept } }) := by
  have hdropped : ∀ (gone : List SegmentRecord) (X : List Nat) (u : State), u.Owned X → u.quarantine.records = gone ++ kept →
      State.Owned ((gone.map (·.phys)).reverse ++ X) { u with quarantine := { u.quarantine with records := kept } } ∧
        ((gone.map (·.phys)).reverse ++ X).Nodup ∨ ¬ X.Nodup := by
    intro gone
    induction gone with
    | nil =>
      intro X u hu hrec
      by_cases hX : X.Nodup
      · refine .inl ⟨?_, hX⟩
        rw [List.nil_append] at hrec
        rw [← hrec]
        exact hu
      · exact .inr hX
    | cons r gone ih =>
      intro X u hu hrec
      by_cases hX : X.Nodup
      · obtain ⟨⟨hr, -⟩, hrest⟩ := hu.dropOldest hrec
        obtain ⟨howned, hnodup⟩ | hnot := ih (r.phys :: X) _ hrest rfl
        · rw [List.map_cons, List.reverse_cons, List.append_assoc]
          exact .inl ⟨howned, hnodup⟩
        · exact absurd (List.nodup_cons.mpr ⟨hr, hX⟩) hnot
      · exact .inr hX
  have hfreed : ∀ (gone : List SegmentRecord) (X : List Nat) (u : State), u.Owned X → X.Nodup → (∀ p, p ∈ X ↔ p ∈ gone.map (·.phys)) →
      (gone.map (·.phys)).Nodup → State.Owned [] (gone.foldl (fun s r => s.freeSeg r.phys) u) := by
    intro gone
    induction gone with
    | nil =>
      intro X u hu _ hmem _
      have : X = [] := List.eq_nil_iff_forall_not_mem.mpr fun p hp => by cases (hmem p).mp hp
      rw [this] at hu
      exact hu
    | cons r gone ih =>
      intro X u hu _ hmem hnodup
      obtain ⟨hr, hnodup'⟩ := List.nodup_cons.mp hnodup
      have hperm : u.Owned (r.phys :: gone.map (·.phys)) := fun p => by
        rw [← List.map_cons, ← hmem]
        exact hu p
      exact ih (gone.map (·.phys)) _ (hperm.freeSeg hr) hnodup' (fun p => Iff.rfl) hnodup'
  obtain ⟨howned, hnodup⟩ | hnot := hdropped gone [] s h hrecords
  · rw [List.append_nil] at howned hnodup
    exact hfreed gone _ _ howned hnodup (fun p => List.mem_reverse) ((List.reverse_perm _).nodup_iff.mp hnodup)
  · exact absurd List.nodup_nil hnot

theorem OwnersKept.cmdTapOn (s : State) (e : ControlEntry) : OwnersKept [] s (cmdTapOn s e).1 := by
  unfold Machine.cmdTapOn
  split
  · exact .refl s
  · exact (OwnersKept.forTaps (fun s i => (KeepsOwners.setSettings s i _).kept.trans (.tapOn ..)) ..).trans (.settle _)

theorem OwnersKept.cmdTapOff (s : State) (e : ControlEntry) : OwnersKept [] s (cmdTapOff s e).1 := by
  unfold Machine.cmdTapOff
  split
  · exact .refl s
  · exact (OwnersKept.forTaps (fun s i => (KeepsOwners.setSettings s i _).kept.trans (.tapOff ..)) ..).trans (.settle _)

theorem OwnersKept.cmdSetTarget (s : State) (e : ControlEntry) : OwnersKept [] s (cmdSetTarget s e).1 := by
  unfold Machine.cmdSetTarget
  split
  · exact .refl s
  · exact .forTaps (fun s i => ((KeepsOwners.setSettings s i _).trans (.modifyTap ..)).kept) ..

theorem OwnersKept.cmdSetPacer (s : State) (e : ControlEntry) : OwnersKept [] s (cmdSetPacer s e).1 := by
  unfold Machine.cmdSetPacer
  split
  · exact .refl s
  · exact .forTaps (fun s i => ((KeepsOwners.setSettings s i _).trans (.modifyTap ..)).kept) ..

theorem OwnersKept.cmdClearCounters (s : State) (e : ControlEntry) : OwnersKept [] s (cmdClearCounters s e).1 := by
  unfold Machine.cmdClearCounters
  split
  · exact .refl s
  · exact .forTaps (fun s i => (KeepsOwners.modifyTap ..).kept) ..

theorem KeepsOwners.setLock (s : State) (l : LockState) (atStart : Bool) : KeepsOwners s (s.setLock l atStart) := .of_eq (fun _ => rfl) rfl

theorem KeepsOwners.cmdLock (s : State) : KeepsOwners s (cmdLock s).1 := by
  unfold Machine.cmdLock
  split
  · exact .setLock ..
  · exact .setLock ..
  · exact .refl s

theorem KeepsOwners.cmdUnlock (s : State) : KeepsOwners s (cmdUnlock s).1 := by
  unfold Machine.cmdUnlock
  split
  · exact .setLock ..
  · exact .setLock ..
  · exact .refl s

theorem OwnersKept.cmdRelease (s : State) (e : ControlEntry) : OwnersKept [] s (cmdRelease s e).1 := by
  unfold Machine.cmdRelease
  split
  · exact ⟨fun h => (h.release _ _ (List.take_append_drop e.argA.toNat _).symm).settle⟩
  · exact .refl s
  · exact .refl s

theorem KeepsOwners.cmdSaveConfig (s : State) : KeepsOwners s (cmdSaveConfig s).1 := by
  unfold Machine.cmdSaveConfig
  split
  · exact .refl s
  · exact .withStore ..

theorem KeepsOwners.cmdCommitRetire (s : State) : KeepsOwners s (cmdCommitRetire s).1 := by
  unfold Machine.cmdCommitRetire
  split
  · exact .refl s
  · exact .of_eq (fun _ => rfl) rfl

theorem KeepsOwners.cmdSetGeometry (s : State) (e : ControlEntry) : KeepsOwners s (cmdSetGeometry s e).1 := by
  unfold Machine.cmdSetGeometry
  split
  · exact .withStore ..
  · exact .refl s

theorem OwnersKept.cmdPatternTest (s : State) (e : ControlEntry) : OwnersKept [] s (cmdPatternTest s e).1 := by
  unfold Machine.cmdPatternTest
  dsimp only
  split
  · exact .refl s
  · next hidle =>
    split
    · exact .refl s
    · exact ⟨fun h => h.takeTestable (Option.not_isSome_iff_eq_none.mp hidle) _ _⟩

theorem OwnersKept.runCommand (s : State) (e : ControlEntry) : OwnersKept [] s (runCommand s e).1 := by
  unfold Machine.runCommand
  split
  · exact .cmdTapOn s e
  · exact .cmdTapOff s e
  · exact .cmdSetTarget s e
  · exact .cmdSetPacer s e
  · exact (KeepsOwners.mark ..).kept
  · exact (KeepsOwners.mark ..).kept
  · exact (KeepsOwners.cancelEdit ..).kept
  · exact (KeepsOwners.withStore s (Machine.cmdSetDump s e).1.store).kept
  · exact (KeepsOwners.withStore s (Machine.cmdSetMaskTiming s e).1.store).kept
  · exact (KeepsOwners.withStore s (Machine.cmdSetSnap s e).1.store).kept
  · exact (KeepsOwners.withStore s (Machine.cmdSetPanel s e).1.store).kept
  · exact (KeepsOwners.withStore s (Machine.cmdSetPolicy s e).1.store).kept
  · exact .cmdClearCounters s e
  · exact (KeepsOwners.cmdLock s).kept
  · exact (KeepsOwners.setLock ..).kept
  · exact (KeepsOwners.cmdUnlock s).kept
  · exact .cmdRelease s e
  · exact .refl s
  · exact (KeepsOwners.cmdCommitRetire s).kept
  · exact (KeepsOwners.cmdSaveConfig s).kept
  · exact (KeepsOwners.cmdSetGeometry s e).kept
  · exact .cmdPatternTest s e
  · exact .refl s

theorem KeepsOwners.report (s : State) (code : Byte) (q : Word) (r : CmdResult) : KeepsOwners s (s.report code q r) := .withTaps s _

theorem KeepsOwners.withGuard (s : State) (n : Nat) : KeepsOwners s { s with guardStep := n } := .of_eq (fun _ => rfl) rfl

theorem OwnersKept.executeEntry (q : Word) (s : State) (e : ControlEntry) : OwnersKept [] s (State.executeEntry q s e) := by
  have hran : OwnersKept [] s (if guarded e.code ∧ s.guardStep ≠ 4 then (s, CmdResult.refusedGuard) else Machine.runCommand s e).1 := by
    split
    · exact .refl s
    · exact .runCommand s e
  unfold State.executeEntry
  exact .ite (.refl s) (hran.trans ((KeepsOwners.report ..).trans (.withGuard ..)).kept)

theorem OwnersKept.executeEntries (s : State) (q : Word) (es : List ControlEntry) : OwnersKept [] s (s.executeEntries q es) :=
  .foldl (fun s e => .executeEntry q s e) es s

/-! ### Commits (R36 to R41) -/

theorem State.named_withImage (s : State) (m : Option Nat) (l : Nat) {k : SegState} (hk : k ≠ .maskImage) :
    State.named { s with pool := { s.pool with maskImage := m, lmask := l } } k = s.named k := by
  cases k with
  | maskImage => exact absurd rfl hk
  | free | filling | live | quarantined | held | testing | retired => rfl

/-- The segment becomes the mask image in place of the old one. -/
theorem State.Owned.setMaskImage {s : State} {b : ContextBody} {g : Segment} (h : s.Owned [b.phys]) (hg : s.seg? b.phys = some g)
    (hdeparture : g.departure = none) : ((s.setMaskImage b).freeOpt s.pool.maskImage).Owned [] := by
  have hname {X : List Nat} {u : State} (hu : u.Owned (b.phys :: X)) (hp : b.phys ∉ X) (hseg : u.seg? b.phys = some g)
      (hempty : u.pool.maskImage = none) : (u.setMaskImage b).Owned X := by
    refine hu.name (k := .maskImage) (g := { g with state := .maskImage }) hp ?_ (fun j hj => u.named_withImage (some b.phys) b.header.la hj) rfl ?_ rfl hdeparture
      fun q hq => ?_
    · show List.Perm [b.phys] (b.phys :: u.pool.maskImage.toList)
      rw [hempty]
      exact .refl _
    · rw [State.setMaskImage_seg?, hseg]
      exact congrArg some (if_pos rfl)
    · rw [State.setMaskImage_seg?, funext fun g => if_neg (Ne.symm hq)]
      exact Option.map_id'
  cases himage : s.pool.maskImage with
  | none => exact hname h List.not_mem_nil hg himage
  | some q =>
    have hdropped := h.unname (t := { s with pool := { s.pool with maskImage := none } }) (p := q) (k := .maskImage)
      (by
        show s.pool.maskImage.toList.Perm [q]
        rw [himage]
        exact .refl _)
      (fun j hj => s.named_withImage none s.pool.lmask hj) rfl
    obtain ⟨⟨hq, -⟩, howned⟩ := hdropped
    have hne : b.phys ∉ [q] := fun hmem => hq (List.mem_singleton.mpr (List.mem_singleton.mp hmem).symm)
    have hswapped : State.Owned [b.phys, q] { s with pool := { s.pool with maskImage := none } } := fun p => by
      have := howned p
      rwa [show p ∈ [q, b.phys] ↔ p ∈ [b.phys, q] from (List.Perm.swap ..).mem_iff] at this
    exact (hname hswapped hne hg rfl).freeSeg List.not_mem_nil

theorem OwnersKept.appendLead {X : List Nat} (s : State) (b : ContextBody) : OwnersKept X s ((s.latchCheck b).appendLead b) := by
  have hlatched : KeepsOwners s (s.latchCheck b) := .ite (.refl s) (.raiseAll ..)
  exact (hlatched.trans (KeepsOwners.withCapture _ (u := { (s.latchCheck b).capture with pendingRun := [] }) rfl)).kept.trans (.appendRun ..)

/-- What a commit does with a segment that its context has let go. -/
theorem State.Owned.commitSegment {s : State} {b : ContextBody} {g : Segment} (h : s.Owned [b.phys]) (hg : s.seg? b.phys = some g)
    (hdeparture : g.departure = none) : (s.commitSegment b).Owned [] := by
  unfold State.commitSegment
  split
  · refine (KeepsOwners.present ..).owned (State.Owned.append (p := b.phys) (g := { g with state := .live }) (h.modifyLoose _) List.not_mem_nil rfl
      ?_ rfl hdeparture)
    rw [State.seg_modifySeg, if_pos rfl, hg]
    rfl
  · unfold State.commitMask
    split
    · exact (h.setMaskImage hg hdeparture).settle
    · exact (h.freeSeg List.not_mem_nil).settle
  · exact (h.freeSeg List.not_mem_nil).settle

theorem State.Owned.commitBody {s : State} {b : ContextBody} {g : Segment} (h : s.Owned [b.phys]) (hg : s.seg? b.phys = some g)
    (hdeparture : g.departure = none) : (s.commitBody b).Owned [] := by
  obtain ⟨-, hseg⟩ := State.lead_unnamed b (h.loose List.mem_cons_self).unnamed
  have hled := ((OwnersKept.appendLead s b).owned h).commitSegment (hseg.trans hg) hdeparture
  exact ((OwnersKept.executeEntries _ b.header.seq b.header.controls).trans (.appendRun _ b.trailingRun)).owned hled

/-- A segment in its owner's state has no departure record. -/
theorem State.Owned.departure_none {X : List Nat} {s : State} (h : s.Owned X) {p : Nat} {g : Segment} (hp : p ∉ X) (hg : s.seg? p = some g)
    (hstate : g.state ≠ .held) : g.departure = none := by
  obtain ⟨hheld, -, -⟩ := (h.placed hp).2 g hg
  refine Classical.byContradiction fun hne => ?_
  exact hstate (hheld.mpr hne)

/-- The open contexts stand on different slots and the law of ownership holds. -/
def State.Filled (s : State) : Prop := (s.capture.contexts.map (·.slot)).Nodup ∧ s.Owned []

theorem State.Filled.commitNext {s t : State} (h : s.Filled) (hnext : s.commitNext = some t) : t.Filled := by
  obtain ⟨hslots, howned⟩ := h
  refine ⟨hslots.sublist ((State.commitNext_contexts hnext).map _), ?_⟩
  obtain ⟨c, b, hc, -, hbody, -, rfl⟩ := State.commitNext_eq_some hnext
  obtain ⟨-, older, younger, hcontexts, -⟩ := List.find?_eq_some_iff_append.mp hc
  obtain ⟨-, -, hfilter⟩ := find_slot (hcontexts ▸ hslots)
  obtain ⟨⟨hX, g, hg, hstate⟩, hdropped⟩ := (howned.dropContext hcontexts).2 b hbody
  rw [hcontexts, hfilter]
  exact hdropped.commitBody hg (howned.departure_none hX hg (by rw [hstate]; decide))

theorem State.Filled.commitReady {s : State} (h : s.Filled) : s.commitReady.Owned [] :=
  (State.commitReady_induct (P := State.Filled) h fun _ _ hu hnext => hu.commitNext hnext).2

/-! ### Header writes (R27 to R31) and answers (R35) -/

theorem State.timelineOrdered.settle {s : State} (h : s.timelineOrdered) : s.settle.timelineOrdered := by
  have hdue : ∀ (n : Nat) (u : State), u.timelineOrdered → (State.departDue n u).timelineOrdered := by
    intro n
    induction n with
    | zero => exact fun _ hu => hu
    | succ n ih =>
      intro u hu
      cases hentries : u.timeline.entries with
      | nil => rw [State.departDue_of_empty hentries]; exact hu
      | cons e rest =>
        rw [State.departDue_succ hentries]
        split
        · exact ih _ ((hu.dropHead hentries).congr (State.departHead_timeline hentries))
        · exact hu
  exact (hdue _ s h).congr rfl

theorem State.timelineOrdered.makeRoom {s : State} (h : s.timelineOrdered) (k : Nat) : (s.makeRoom k).timelineOrdered := by
  have hdisplace (u : State) (hu : u.timelineOrdered) (j : Nat) : (u.displace j).timelineOrdered := by
    unfold State.displace
    split
    · exact hu
    · dsimp only
      split
      · exact hu
      · refine State.timelineOrdered.settle (hu.congr ?_)
        rw [State.freeSeg_timeline]
        unfold State.carryRun
        split
        · rfl
        · rfl
  unfold State.makeRoom
  dsimp only
  split
  · exact hdisplace _ (hdisplace s h k) _
  · exact hdisplace s h k

theorem State.Owned.openContext {s : State} (h : s.Owned []) (hordered : s.timelineOrdered) (g : Geometry) (f : InFlight) (k : Nat)
    (header : CaptureHeader) (lead : List GapCause) : (s.openContext g f k header lead).Owned [] := by
  obtain ⟨hsome, hnone⟩ := h.allocate hordered
  unfold State.openContext
  dsimp only
  split
  · next p hp =>
    obtain ⟨howned, seg, hseg, hstate, hdeparture⟩ := hsome p hp
    refine (KeepsOwners.forwardWrite ..).owned (howned.name (k := .filling) List.not_mem_nil ?_ (fun j hj => State.named_withCapture _ _ hj) rfl
      hseg hstate hdeparture fun _ _ => rfl)
    show (contextSegs (_ ++ _)).Perm (p :: contextSegs _)
    unfold contextSegs
    rw [List.filterMap_append]
    exact List.perm_append_singleton ..
  · next hp =>
    exact ((((KeepsOwners.raiseAll _ .captureLost).trans (.carryRun ..)).trans (.openDiscard ..)).trans (.absorbWrite ..)).owned (hnone hp)

theorem State.Owned.readHeader {s : State} (h : s.Owned []) (hordered : s.timelineOrdered) (g : Geometry) (f : InFlight) (k : Nat) :
    (s.readHeader g f k).Owned [] := by
  have hdiscard (e : Event) : KeepsOwners s (((s.raiseAll e).openDiscard k).absorbWrite f) :=
    ((KeepsOwners.raiseAll ..).trans (.openDiscard ..)).trans (.absorbWrite ..)
  unfold State.readHeader
  split
  · exact (hdiscard _).owned h
  · next header _ =>
    split
    · exact h.openContext hordered g f k header []
    · split
      · exact (hdiscard _).owned h
      · next lead event _ =>
        have haccepted : KeepsOwners s (s.acceptSequence header.seq event) := by
          unfold State.acceptSequence
          cases event with
          | none => exact .withCapture s rfl
          | some e => exact (KeepsOwners.withCapture s (u := { s.capture with expected := some (header.seq + 1#32) }) rfl).trans (.raiseAll ..)
        have htimeline : (s.acceptSequence header.seq event).timeline = s.timeline := by
          unfold State.acceptSequence
          cases event with
          | none => rfl
          | some e => rfl
        exact (haccepted.owned h).openContext (hordered.congr htimeline) g f k header lead

theorem State.Owned.headerWrite {s : State} (h : s.Owned []) (hfit : s.contextsFit) (hordered : s.timelineOrdered) (g : Geometry) (f : InFlight)
    (k : Nat) : (s.headerWrite g f k).Owned [] := by
  obtain ⟨hroom, hlength, hslot⟩ := s.makeRoom_contexts k hfit
  obtain ⟨c, hc, hbody, hshapes⟩ := (s.makeRoom k).readHeader_shapes g f k
  obtain ⟨-, hslots, -⟩ : ContextsFit ((s.makeRoom k).readHeader g f k).capture.contexts :=
    .of_shapes hshapes (ContextsFit.append hroom hlength (hc ▸ hslot) hbody)
  exact State.Filled.commitReady ⟨hslots, ((OwnersKept.makeRoom k hfit).owned h).readHeader (hordered.makeRoom k) g f k⟩

theorem ContextBody.fillWrite_phys (b : ContextBody) (o : Nat) (data : List Byte) (n : Nat) : (b.fillWrite o data n).phys = b.phys := by
  unfold ContextBody.fillWrite
  dsimp only
  split
  · rfl
  split
  · rfl
  split
  · rfl
  · rfl

theorem KeepsOwners.payloadWrite (s : State) (g : Geometry) (f : InFlight) (k off : Nat) : KeepsOwners s (s.payloadWrite g f k off) := by
  unfold State.payloadWrite
  split
  · exact (KeepsOwners.raiseAll ..).trans (.absorbWrite ..)
  · split
    · exact .absorbWrite ..
    · refine (KeepsOwners.withCapture s (contextSegs_map fun c _ => ?_)).trans (.forwardWrite ..)
      split
      · unfold Context.takeWrite
        cases hbody : c.body with
        | none => exact congrArg _ hbody
        | some b => exact congrArg some (b.fillWrite_phys ..)
      · rfl

theorem State.Owned.captureAnswer {s : State} (h : s.Owned []) (hfit : s.contextsFit) (p : Nat) (status : LinkStatus) :
    (s.captureAnswer p status).Owned [] := by
  obtain ⟨-, hslots, -⟩ := hfit
  have htaken : KeepsOwners s (s.setContexts (s.capture.contexts.map (Context.takeAnswer p status))) := by
    refine .withCapture s (contextSegs_map fun c _ => ?_)
    unfold Context.takeAnswer
    cases c.body with
    | none => rfl
    | some b =>
      refine congrArg some ?_
      show ContextBody.phys (if b.phys = p then _ else b) = b.phys
      split
      · rfl
      · rfl
  have hfilled (u : State) (hu : OwnersKept [] (s.setContexts (s.capture.contexts.map (Context.takeAnswer p status))) u)
      (hcapture : u.capture.contexts = s.capture.contexts.map (Context.takeAnswer p status)) : u.commitReady.Owned [] := by
    refine State.Filled.commitReady ⟨?_, hu.owned (htaken.owned h)⟩
    rw [hcapture, List.map_map]
    exact hslots
  unfold State.captureAnswer
  dsimp only
  cases status with
  | ok => exact hfilled _ (.refl _) rfl
  | fault =>
    exact hfilled _ ((OwnersKept.countFault ..).trans (.settle _))
      (congrArg (·.contexts) (((Interior.countFault ..).trans (.settle _)).capture))

end Sys2Proof.Machine

/-! SUPPORT. A link reset and the end of the load keep the law of ownership (Table 21). -/

namespace Sys2Proof.Machine

/-! ### Several segments at once -/

/-- An owner lets go of several segments that it names. -/
theorem State.Owned.unnameAll {X ps : List Nat} {s t : State} {k : SegState} (h : s.Owned X) (hnamed : (s.named k).Perm (ps ++ t.named k))
    (hrest : ∀ j, j ≠ k → t.named j = s.named j) (hsegs : t.pool.segs = s.pool.segs) :
    t.Owned (ps ++ X) ∧ ps.Nodup ∧ ∀ p ∈ ps, p ∉ X := by
  have hseg (q : Nat) : t.seg? q = s.seg? q := by unfold State.seg?; rw [hsegs]
  have hmem (p : Nat) (hp : p ∈ ps) : p ∈ s.named k := hnamed.mem_iff.mpr (List.mem_append_left _ hp)
  have hcount (p : Nat) : (s.named k).count p = ps.count p + (t.named k).count p := by rw [hnamed.count_eq, List.count_append]
  have hstays (q : Nat) (hq : q ∉ ps) : s.StaysAt t q := by
    refine .of_eq (fun j => ?_) (hseg q)
    by_cases hj : j = k
    · rw [hj, hcount, List.count_eq_zero.mpr hq, Nat.zero_add]
    · rw [hrest j hj]
  refine ⟨fun p => ?_, nodup_iff_count.mpr fun p => ?_, fun p hp => (h.seg_of_mem (hmem p hp)).1⟩
  · by_cases hp : p ∈ ps
    · refine ⟨fun _ => ?_, fun hnot => absurd (List.mem_append_left _ hp) hnot⟩
      obtain ⟨-, g, hg, -⟩ := h.seg_of_mem (hmem p hp)
      refine ⟨fun j => ?_, g, (hseg p).trans hg⟩
      have hone := h.count_of_mem (hmem p hp) j
      by_cases hj : j = k
      · subst hj
        rw [if_pos rfl, hcount] at hone
        have := List.count_pos_iff.mpr hp
        omega
      · rw [hrest j hj, hone, if_neg hj]
    · refine ⟨fun hX => (hstays p hp).loose (h.loose ((List.mem_append.mp hX).resolve_left hp)), fun hX => (hstays p hp).placed (h.placed ?_)⟩
      exact fun hX' => hX (List.mem_append_right _ hX')
  · by_cases hp : p ∈ ps
    · have hone := h.count_of_mem (hmem p hp) k
      rw [if_pos rfl, hcount] at hone
      omega
    · rw [List.count_eq_zero.mpr hp]
      exact Nat.zero_le 1

/-! ### The capture unit and the pattern run at a link reset (R42, R58) -/

/-- A segment that is out of use. -/
def Segment.Idle (g : Segment) : Prop := (g.state = .free ∨ g.state = .retired) ∧ g.departure = none

theorem Segment.freed_idle (g : Segment) : g.freed.Idle := by
  unfold Segment.freed Segment.Idle
  dsimp only
  cases g.retirePending
  · exact ⟨.inl rfl, rfl⟩
  · exact ⟨.inr rfl, rfl⟩

theorem foldl_freeSeg_effect (ps : List Nat) (s : State) :
    (∀ k, (ps.foldl State.freeSeg s).named k = s.named k) ∧ (∀ q, q ∉ ps → (ps.foldl State.freeSeg s).seg? q = s.seg? q) ∧
      ∀ q, q ∈ ps → ∀ g, s.seg? q = some g → ∃ g', (ps.foldl State.freeSeg s).seg? q = some g' ∧ g'.Idle := by
  induction ps generalizing s with
  | nil => exact ⟨fun _ => rfl, fun _ _ => rfl, fun _ hq => nomatch hq⟩
  | cons p ps ih =>
    obtain ⟨hnamed, hother, hidle⟩ := ih (s.freeSeg p)
    refine ⟨fun k => (hnamed k).trans (s.freeSeg_named p k), fun q hq => ?_, fun q hq g hg => ?_⟩
    · rw [List.mem_cons, not_or] at hq
      exact (hother q hq.2).trans (State.freeSeg_seg?_other s hq.1)
    · have hfirst : ∃ g', (s.freeSeg p).seg? q = some g' ∧ (q = p → g'.Idle) := by
        by_cases hqp : q = p
        · subst hqp
          exact ⟨g.freed, State.freeSeg_seg?_same hg, fun _ => g.freed_idle⟩
        · exact ⟨g, (State.freeSeg_seg?_other s hqp).trans hg, fun h => absurd h hqp⟩
      obtain ⟨g', hg', hp⟩ := hfirst
      by_cases hmem : q ∈ ps
      · exact hidle q hmem g' hg'
      · exact ⟨g', (hother q hmem).trans hg', hp ((List.mem_cons.mp hq).resolve_right hmem)⟩

/-- An owner's segments are freed, and it names none of them any more. -/
theorem State.Owned.freeNamed {s t : State} {k : SegState} (h : s.Owned []) {ps : List Nat} (hps : ps = s.named k)
    (hk : t.named k = []) (hrest : ∀ j, j ≠ k → t.named j = s.named j) (hsegs : t.pool.segs = (ps.foldl State.freeSeg s).pool.segs) :
    t.Owned [] := by
  obtain ⟨-, hother, hidle⟩ := foldl_freeSeg_effect ps s
  have hseg (q : Nat) : t.seg? q = (ps.foldl State.freeSeg s).seg? q := by unfold State.seg?; rw [hsegs]
  refine fun q => ⟨fun hX => (nomatch hX), fun _ => ?_⟩
  by_cases hq : q ∈ ps
  · obtain ⟨-, g, hg, -⟩ := h.seg_of_mem (hps ▸ hq)
    obtain ⟨g', hg', hstate, hdeparture⟩ := hidle q hq g hg
    refine .of_ownerless ((hseg q).trans hg') (fun j => ?_) hstate hdeparture
    by_cases hj : j = k
    · rw [hj, hk, List.count_nil]
    · rw [hrest j hj, h.count_of_mem (hps ▸ hq) j, if_neg hj]
  · refine State.StaysAt.placed (.of_eq (fun j => ?_) ((hseg q).trans (hother q hq))) (h.placed List.not_mem_nil)
    by_cases hj : j = k
    · rw [hj, hk, List.count_nil, List.count_eq_zero.mpr (hps ▸ hq)]
    · rw [hrest j hj]

theorem foldl_freeSeg_pool (ps : List Nat) (s : State) :
    (ps.foldl State.freeSeg s).timeline = s.timeline ∧ (ps.foldl State.freeSeg s).quarantine = s.quarantine ∧
      Interior s (ps.foldl State.freeSeg s) := by
  induction ps generalizing s with
  | nil => exact ⟨rfl, rfl, .refl s⟩
  | cons p ps ih =>
    obtain ⟨htimeline, hquarantine, hinterior⟩ := ih (s.freeSeg p)
    exact ⟨htimeline.trans (s.freeSeg_timeline p), hquarantine.trans (s.freeSeg_quarantine p), (Interior.freeSeg s p).trans hinterior⟩

theorem State.resetCapture_eq (s : State) :
    s.resetCapture = { (contextSegs s.capture.contexts).foldl State.freeSeg s with capture := .powerOn } := by
  have hfold (cs : List Context) (u : State) :
      cs.foldl (fun s c => (c.body.map (·.phys)).elim s s.freeSeg) u = (contextSegs cs).foldl State.freeSeg u := by
    induction cs generalizing u with
    | nil => rfl
    | cons c cs ih =>
      rw [List.foldl_cons, ih]
      unfold contextSegs
      cases hbody : c.body with
      | none => rw [List.filterMap_cons_none (by rw [hbody]; rfl)]; rfl
      | some b => rw [List.filterMap_cons_some (b := b.phys) (by rw [hbody]; rfl)]; rfl
  rw [← hfold]
  unfold State.resetCapture
  refine congrArg (fun f : State → Context → State => { s.capture.contexts.foldl f s with capture := .powerOn })
    (funext fun u => funext fun c => ?_)
  cases c.body with
  | none => rfl
  | some b => rfl

theorem State.Owned.resetCapture {s : State} (h : s.Owned []) : s.resetCapture.Owned [] := by
  rw [State.resetCapture_eq]
  obtain ⟨htimeline, hquarantine, hinterior⟩ := foldl_freeSeg_pool (contextSegs s.capture.contexts) s
  refine h.freeNamed (k := .filling) rfl rfl (fun j hj => ?_) rfl
  refine (State.named_withCapture _ _ hj).trans ?_
  exact (foldl_freeSeg_effect (contextSegs s.capture.contexts) s).1 j

theorem State.Owned.resetPattern {s : State} (h : s.Owned []) : s.resetPattern.Owned [] := by
  unfold State.resetPattern
  split
  · exact h
  · next r hr =>
    refine h.freeNamed (ps := [r.cursor]) (k := .testing) ?_ rfl (fun j hj => ?_) rfl
    · show [r.cursor] = (s.pool.pattern.map (·.cursor)).toList
      rw [hr]
      rfl
    · exact (State.named_setPattern _ _ hj).trans (s.freeSeg_named _ j)

/-! ### The handover (R77) -/

/-- Two states with the same pool, quarantine and configuration, as far as a handover sees them. -/
structure SamePool (s t : State) : Prop where
  segs : t.pool.segs = s.pool.segs
  quarantine : t.quarantine = s.quarantine
  cap : t.quarCap = s.quarCap
  edits : t.edits = s.edits
  named : ∀ k, k ≠ .live → t.named k = s.named k

theorem SamePool.freeSeg {s t : State} (h : SamePool s t) (p : Nat) : SamePool (s.freeSeg p) (t.freeSeg p) := by
  have hseg : t.seg? p = s.seg? p := by unfold State.seg?; rw [h.segs]
  refine ⟨?_, ?_, ?_, ?_, fun k hk => ?_⟩
  · cases hg : s.seg? p with
    | none => rw [State.freeSeg_of_none hg, State.freeSeg_of_none (hseg.trans hg), h.segs]
    | some g =>
      rw [State.freeSeg_rest hg, State.freeSeg_rest (hseg.trans hg)]
      exact congrArg (fun l : List Segment => l.set p _) h.segs
  · rw [State.freeSeg_quarantine, State.freeSeg_quarantine, h.quarantine]
  · rw [(Interior.freeSeg t p).quarCap, (Interior.freeSeg s p).quarCap, h.cap]
  · rw [State.freeSeg_edits, State.freeSeg_edits, h.edits]
  · rw [State.freeSeg_named, State.freeSeg_named, h.named k hk]

theorem SamePool.withRecords {s t : State} (h : SamePool s t) (rs : List SegmentRecord) :
    SamePool { s with quarantine := { s.quarantine with records := rs } } { t with quarantine := { t.quarantine with records := rs } } := by
  refine ⟨h.segs, ?_, h.cap, h.edits, fun k hk => ?_⟩
  · dsimp only
    rw [h.quarantine]
  · by_cases hq : k = .quarantined
    · rw [hq]; rfl
    · exact (t.named_withRecords rs hq).trans ((h.named k hk).trans (s.named_withRecords rs hq).symm)

theorem SamePool.takeRecord {s t : State} (h : SamePool s t) (r : SegmentRecord) : SamePool (s.takeRecord r) (t.takeRecord r) := by
  have hrecords : t.quarantine.records = s.quarantine.records := congrArg _ h.quarantine
  have htaken := h.withRecords (s.quarantine.records ++ [r])
  unfold State.takeRecord
  rw [hrecords]
  exact ⟨congrArg (fun l : List Segment => l.modify r.phys _) htaken.segs, htaken.quarantine, htaken.cap, htaken.edits, htaken.named⟩

theorem SamePool.raiseUnless {s t : State} (h : SamePool s t) (quiet : Bool) (e : Event) : SamePool (s.raiseUnless quiet e) (t.raiseUnless quiet e) := by
  unfold State.raiseUnless
  split
  · exact h
  · exact ⟨h.segs, h.quarantine, h.cap, h.edits, h.named⟩

theorem SamePool.offer {s t : State} (h : SamePool s t) (quiet : Bool) (r : SegmentRecord) :
    SamePool (State.offer quiet s r) (State.offer quiet t r) := by
  have hrecords : t.quarantine.records = s.quarantine.records := congrArg _ h.quarantine
  have hlock : t.quarantine.lock = s.quarantine.lock := congrArg _ h.quarantine
  unfold State.offer
  rw [h.cap, hrecords, hlock]
  split
  · exact h.freeSeg _
  split
  · exact h.takeRecord r
  split
  · exact (((h.withRecords _).raiseUnless quiet _).freeSeg _).takeRecord r
  · exact (h.raiseUnless quiet _).freeSeg _

theorem SamePool.handOverAtReset {s t : State} (h : SamePool s t) (r : SegmentRecord) : SamePool (s.handOverAtReset r) (t.handOverAtReset r) := by
  unfold State.handOverAtReset
  rw [h.edits]
  dsimp only
  split
  · exact h.freeSeg _
  · exact h.offer true _

theorem SamePool.foldl {rs : List SegmentRecord} {s t : State} (h : SamePool s t) :
    SamePool (rs.foldl State.handOverAtReset s) (rs.foldl State.handOverAtReset t) := by
  induction rs generalizing s t with
  | nil => exact h
  | cons r rs ih => exact ih (h.handOverAtReset r)

theorem resetRecord_phys (es : List Edit) (r : SegmentRecord) : (resetRecord es r).phys = r.phys := by
  unfold resetRecord
  split <;> rfl

/-- Loose segments are handed over one after another. -/
theorem State.Owned.handOverAll (rs : List SegmentRecord) {s : State} (h : s.Owned (rs.map (·.phys))) (hnodup : (rs.map (·.phys)).Nodup) :
    (rs.foldl State.handOverAtReset s).Owned [] := by
  induction rs generalizing s with
  | nil => exact h
  | cons r rs ih =>
    obtain ⟨hr, hrest⟩ := List.nodup_cons.mp hnodup
    refine ih ?_ hrest
    unfold State.handOverAtReset
    dsimp only
    split
    · exact h.freeSeg hr
    · have hphys := resetRecord_phys s.edits r
      refine State.Owned.offer true (r := resetRecord s.edits r) ?_ ?_
      · rw [hphys]; exact h
      · rw [hphys]; exact hr

theorem insertByPi_perm (r : SegmentRecord) (rs : List SegmentRecord) : (insertByPi r rs).Perm (r :: rs) := by
  induction rs with
  | nil => exact .refl _
  | cons x xs ih =>
    unfold insertByPi
    split
    · exact .refl _
    · exact (ih.cons x).trans (.swap ..)

theorem foldr_insertByPi_perm (rs : List SegmentRecord) : (rs.foldr insertByPi []).Perm rs := by
  induction rs with
  | nil => exact .refl _
  | cons r rs ih => exact (insertByPi_perm r _).trans (ih.cons r)

/-- The departure record of a HELD segment. -/
def Segment.departs (g : Segment) : Option SegmentRecord := if g.state = .held then g.departure else none

/-- The departure records of the HELD segments, in the pool's order. -/
def State.departures (s : State) : List SegmentRecord := s.pool.segs.filterMap Segment.departs

theorem State.heldRecords_perm (s : State) : s.heldRecords.Perm s.departures := foldr_insertByPi_perm _

/-- The law of departure records: each waits in its own HELD segment. -/
def State.RecordsFit (s : State) : Prop :=
  ∀ p g, s.seg? p = some g → (g.state = .held → g.departure ≠ none) ∧ ∀ r, g.departure = some r → r.phys = p

theorem State.Owned.recordsFit {s : State} (h : s.Owned []) : s.RecordsFit := fun p g hg => by
  obtain ⟨hheld, -, hphys⟩ := (h.placed (p := p) List.not_mem_nil).2 g hg
  exact ⟨hheld.mp, hphys⟩

theorem State.RecordsFit.mem_departures {s : State} (h : s.RecordsFit) (p : Nat) :
    p ∈ s.departures.map (·.phys) ↔ ∃ g, s.seg? p = some g ∧ g.state = .held := by
  unfold State.departures
  rw [List.mem_map]
  constructor
  · rintro ⟨r, hr, rfl⟩
    obtain ⟨g, hg, hdeparture⟩ := List.mem_filterMap.mp hr
    obtain ⟨q, hq⟩ := List.getElem?_of_mem hg
    unfold Segment.departs at hdeparture
    split at hdeparture
    · next hheld =>
      rw [(h q g hq).2 r hdeparture]
      exact ⟨g, hq, hheld⟩
    · cases hdeparture
  · rintro ⟨g, hg, hheld⟩
    obtain ⟨r, hr⟩ := Option.ne_none_iff_exists'.mp ((h p g hg).1 hheld)
    exact ⟨r, List.mem_filterMap.mpr ⟨g, List.mem_of_getElem? hg, (if_pos hheld).trans hr⟩, (h p g hg).2 r hr⟩

theorem departures_ascend (n : Nat) (gs : List Segment) (h : ∀ i g, gs[i]? = some g → ∀ r, g.departure = some r → r.phys = n + i) :
    ((gs.filterMap Segment.departs).map (·.phys)).Nodup ∧ ∀ p ∈ (gs.filterMap Segment.departs).map (·.phys), n ≤ p := by
  induction gs generalizing n with
  | nil => exact ⟨List.nodup_nil, fun _ hp => nomatch hp⟩
  | cons g gs ih =>
    obtain ⟨hnodup, hle⟩ := ih (n + 1) fun i g' hg' r hr => by
      have := h (i + 1) g' hg' r hr
      omega
    cases hg : g.departs with
    | none =>
      rw [List.filterMap_cons_none hg]
      exact ⟨hnodup, fun p hp => Nat.le_of_succ_le (hle p hp)⟩
    | some r =>
      have hphys : r.phys = n := by
        unfold Segment.departs at hg
        split at hg
        · exact h 0 g rfl r hg
        · cases hg
      rw [List.filterMap_cons_some hg]
      refine ⟨List.nodup_cons.mpr ⟨fun hp => ?_, hnodup⟩, fun p hp => ?_⟩
      · have : n + 1 ≤ r.phys := hle _ hp
        omega
      · obtain rfl | hp := List.mem_cons.mp hp
        · exact Nat.le_of_eq hphys.symm
        · exact Nat.le_of_succ_le (hle p hp)

/-- No two HELD segments carry the same record. -/
theorem State.RecordsFit.nodup_departures {s : State} (h : s.RecordsFit) : (s.departures.map (·.phys)).Nodup :=
  (departures_ascend 0 s.pool.segs fun i g hg r hr => ((h i g hg).2 r hr).trans (Nat.zero_add i).symm).1

/-- With every pin dropped the HELD segments are loose, and the others stay. -/
theorem State.Owned.dropPins {s : State} (h : s.Owned []) : s.dropPins.RecordsFit ∧ s.dropPins.Owned (s.dropPins.departures.map (·.phys)) := by
  have hseg (p : Nat) : s.dropPins.seg? p = (s.seg? p).map fun g => { g with pins := 0 } := List.getElem?_map
  have hfit : s.dropPins.RecordsFit := fun p g hg => by
    rw [hseg] at hg
    obtain ⟨g0, hg0, rfl⟩ := Option.map_eq_some_iff.mp hg
    exact h.recordsFit p g0 hg0
  refine ⟨hfit, fun p => ?_⟩
  have hplaced := h.placed (p := p) List.not_mem_nil
  rw [hfit.mem_departures]
  constructor
  · rintro ⟨g, hg, hheld⟩
    refine ⟨?_, g, hg⟩
    rw [hseg] at hg
    obtain ⟨g0, hg0, rfl⟩ := Option.map_eq_some_iff.mp hg
    exact (hplaced.loose hg0 (by rw [show g0.state = .held from hheld]; rfl)).1
  · intro hnot
    refine State.StaysAt.placed (s := s) (t := s.dropPins) ⟨fun _ => rfl, ?_⟩ hplaced
    have hp := hseg p
    cases hg : s.seg? p with
    | none =>
      rw [hg] at hp
      rw [hp]
      exact .none
    | some g =>
      rw [hg] at hp
      rw [hp]
      exact .some ⟨rfl, rfl, fun hheld _ => absurd ⟨_, hp, hheld⟩ hnot⟩

theorem State.handOverAtReset_timeline (s : State) (r : SegmentRecord) : (s.handOverAtReset r).timeline = s.timeline := by
  unfold State.handOverAtReset
  dsimp only
  split
  · exact s.freeSeg_timeline _
  · exact (Frees.offer true s _).timeline

theorem foldl_handOverAtReset_timeline (rs : List SegmentRecord) (s : State) : (rs.foldl State.handOverAtReset s).timeline = s.timeline := by
  induction rs generalizing s with
  | nil => rfl
  | cons r rs ih => exact (ih _).trans (s.handOverAtReset_timeline r)

theorem liveRecords_phys (s : State) : s.liveRecords.map (·.phys) = s.named .live := by
  show (s.timeline.entries.filterMap fun e => e.phys.map e.record).map (·.phys) = s.timeline.entries.filterMap (·.phys)
  rw [List.map_filterMap]
  refine filterMap_eq_of_mem fun e _ => ?_
  cases e.phys with
  | none => rfl
  | some p => rfl

/-- The records of a handover name loose segments, each once, when the timeline is out of the way. -/
theorem State.Owned.handedOver {s : State} (h : s.Owned []) :
    State.Owned ((s.dropPins.heldRecords ++ s.dropPins.liveRecords).map (·.phys)) { s.dropPins with timeline := .empty } ∧
      ((s.dropPins.heldRecords ++ s.dropPins.liveRecords).map (·.phys)).Nodup := by
  obtain ⟨hfit, hheld⟩ := h.dropPins
  have hperm := s.dropPins.heldRecords_perm.map (·.phys)
  obtain ⟨howned, hnodup, hapart⟩ := hheld.unnameAll (t := { s.dropPins with timeline := .empty }) (k := .live) (ps := s.dropPins.named .live)
    (by
      show (s.dropPins.named .live).Perm (s.dropPins.named .live ++ [])
      rw [List.append_nil])
    (fun j hj => s.dropPins.named_withTimeline _ hj) rfl
  rw [List.map_append, liveRecords_phys]
  constructor
  · intro p
    have := howned p
    rwa [show p ∈ s.dropPins.named .live ++ s.dropPins.departures.map (·.phys) ↔ p ∈ s.dropPins.heldRecords.map (·.phys) ++ s.dropPins.named .live by
      rw [List.mem_append, List.mem_append, hperm.mem_iff, or_comm]] at this
  · rw [List.nodup_append]
    refine ⟨hperm.nodup_iff.mpr hfit.nodup_departures, hnodup, fun a ha b hb hab => hapart b hb (hab ▸ hperm.mem_iff.mp ha)⟩

theorem State.Owned.resetTimeline {s : State} (h : s.Owned []) : s.dropPins.resetTimeline.Owned [] := by
  obtain ⟨hloose, hnodup⟩ := h.handedOver
  have hdone := State.Owned.handOverAll _ hloose hnodup
  have hsame := SamePool.foldl (rs := s.dropPins.heldRecords ++ s.dropPins.liveRecords) (s := { s.dropPins with timeline := .empty })
    (t := s.dropPins) ⟨rfl, rfl, rfl, rfl, fun k hk => (s.dropPins.named_withTimeline _ hk).symm⟩
  refine KeepsOwners.owned (t := s.dropPins.resetTimeline) (.of_eq (fun k => ?_) hsame.segs) hdone
  by_cases hk : k = .live
  · rw [hk]
    show [] = List.filterMap (·.phys) (State.timeline (List.foldl _ _ _)).entries
    rw [foldl_handOverAtReset_timeline]
    rfl
  · exact (State.named_withTimeline _ _ hk).trans (hsame.named k hk)

theorem State.Owned.linkReset {s : State} (h : s.Owned []) : s.linkReset.Owned [] := by
  have hlink : KeepsOwners s s.resetLink := (KeepsOwners.foldl (fun s (r : MRequest) => .lowerFor s r.use) _ s).trans (.withLink ..)
  have hreset := (((hlink.owned h).resetCapture).resetPattern).resetTimeline
  exact (KeepsOwners.of_eq (t := s.linkReset) (fun _ => rfl) rfl).owned hreset

/-! ### The load (R60, R182) -/

/-- Nothing is named and every segment is out of use. -/
theorem State.Owned.of_idle {s : State} (hnamed : ∀ k, s.named k = []) (hidle : ∀ p g, s.seg? p = some g → g.Idle) : s.Owned [] := by
  refine fun p => ⟨fun hX => (nomatch hX), fun _ => ?_⟩
  have hcount (k : SegState) : (s.named k).count p = 0 := by rw [hnamed, List.count_nil]
  cases hg : s.seg? p with
  | none => exact ⟨fun k => by rw [hcount, hg]; rfl, fun _ hg' => nomatch hg.symm.trans hg'⟩
  | some g =>
    obtain ⟨hstate, hdeparture⟩ := hidle p g hg
    exact .of_ownerless hg hcount hstate hdeparture

theorem OwnersKept.startTap (s : State) (i : Fin 4) : OwnersKept [] s (s.startTap i) := .ite (.tapOn ..) (.refl s)

theorem State.Owned.finishLoad {s : State} (hnamed : ∀ k, s.named k = []) (c : WorkingConfig) (hard : List Nat) (invalid : Bool) :
    (s.finishLoad c hard invalid).Owned [] := by
  have htaken : (s.takeConfig c hard).Owned [] := by
    refine .of_idle (fun k => (hnamed k ▸ rfl : (s.takeConfig c hard).named k = [])) fun p g hg => ?_
    obtain ⟨q, -, rfl⟩ := List.mem_map.mp (List.mem_of_getElem? hg)
    split
    · exact ⟨.inr rfl, rfl⟩
    · exact ⟨.inl rfl, rfl⟩
  have htook (u : State) (i : Fin 4) : KeepsOwners u (u.takeDelay i) := by
    unfold State.takeDelay
    exact (KeepsOwners.setSettings ..).trans (.modifyTap ..)
  have hstarted := ((KeepsOwners.foldl htook tapIds _).kept.trans (OwnersKept.foldl .startTap tapIds _)).owned htaken
  refine ((KeepsOwners.raiseUnless ..).trans (.refreshTally _)).owned ?_
  exact KeepsOwners.owned (s := tapIds.foldl State.startTap (tapIds.foldl State.takeDelay (s.takeConfig c hard))) (.of_eq (fun _ => rfl) rfl)
    hstarted

/-! ### Every step -/

theorem KeepsOwners.setLine (s : State) (l : PanelLine) (x : LineState) : KeepsOwners s (s.setLine l x) := .withPanel s _

theorem KeepsOwners.setPanelTargets (s : State) (dt : TapSettings → Nat) : KeepsOwners s (s.setPanelTargets dt) :=
  .foldl (fun s i => .modifyTap s i _) _ s

theorem KeepsOwners.meetRequest (s : State) (r : LinkRequest) : KeepsOwners s (s.meetRequest r) := by
  have haccept (u : State) (g : Geometry) : KeepsOwners u (u.accept g r) := by
    unfold State.accept
    split
    · exact (KeepsOwners.withLink u _).trans (.raiseAll ..)
    · exact (KeepsOwners.withLink u _).trans (.raiseAll ..)
    · exact (KeepsOwners.withLink u _).trans (.plan ..)
    · exact .withLink u _
    · exact .withLink u _
    · exact .withLink u _
    · exact .withLink u _
    · exact .withLink u _
  unfold State.meetRequest
  split
  · exact .withLink s _
  · exact .ite (.withLink s _) ((KeepsOwners.withLink s _).trans (haccept _ _))

theorem KeepsOwners.returnReply (s : State) (tag : Fin 64) (f : InFlight) (reply : Reply) : KeepsOwners s (s.returnReply tag f reply) := by
  unfold State.returnReply
  exact .ite ((KeepsOwners.withLink s _).trans (.modifyFlight ..)) ((KeepsOwners.withLink s _).trans (.withLink ..))

theorem KeepsOwners.takePart (s : State) (m : MRequest) (r : LinkResponse) (tag : Fin 64) (seg : Nat) (part : PartData) :
    KeepsOwners s (s.takePart m r tag seg part) :=
  ((KeepsOwners.withLink s _).trans (.lowerOutstanding ..)).trans (.modifyFlight ..)

theorem PatternRun.nextRequest_cursor {r r' : PatternRun} {g : Geometry} {t : Fin 128} {m : MRequest} (h : r.nextRequest g t = some (m, r')) :
    r'.cursor = r.cursor := by
  unfold PatternRun.nextRequest at h
  dsimp only at h
  split at h
  · cases h
  split at h
  · cases h; rfl
  split at h
  · cases h; rfl
  · cases h

theorem OwnersKept.issuePattern {s : State} {r : PatternRun} (m : MRequest)
    (h : (some r).map (·.cursor) = s.pool.pattern.map (·.cursor)) : OwnersKept [] s (s.issuePattern m r) := by
  have hissued := KeepsOwners.withLink s { s.link with outstanding := s.link.outstanding ++ [m] }
  have hset := OwnersKept.setPattern (X := []) (s := { s with link := { s.link with outstanding := s.link.outstanding ++ [m] } }) h
  exact (hissued.kept.trans hset).trans (KeepsOwners.raiseOutstanding ..).kept

/-- Every command's effect keeps the law of ownership. -/
theorem Effect.owned {c : Instr} {s t : State} (h : Effect s c t) (hquiet : s.quietBeforeLoad) (hfit : s.contextsFit)
    (hordered : s.timelineOrdered) (hs : s.Owned []) : t.Owned [] := by
  have keeps {u v : State} (hu : u.Owned []) (h : KeepsOwners u v) : v.Owned [] := h.owned hu
  cases h with
  | idle => exact hs
  | powerOn => exact .of_idle (fun k => by cases k <;> rfl) fun p g hg => nomatch hg
  | startLoad => exact keeps hs (.withStartUp ..)
  | endLoad _ _ hload =>
    obtain ⟨hphase, u, contents, c, hard, invalid, -, rfl⟩ := hload
    obtain ⟨-, -, -, -, hcapture, hpool, htimeline, -, -, hrecords, -⟩ := hquiet hphase
    refine State.Owned.finishLoad (fun k => ?_) c hard invalid
    show s.named k = []
    unfold State.named
    rw [hcapture, hpool, htimeline, hrecords]
    cases k <;> rfl
  | linkReset => exact State.Owned.linkReset (keeps hs (.withStartUp ..))
  | linkResetEnd => exact keeps hs (.withStartUp ..)
  | accept r => exact keeps hs (.meetRequest s r)
  | header => exact keeps (hs.headerWrite hfit hordered _ _ _) (.refreshTally _)
  | payload => exact keeps hs (.payloadWrite ..)
  | tapRead => exact keeps ((OwnersKept.tapRead ..).owned hs) (.refreshTally _)
  | reviewRead => exact keeps hs (.servePlan ..)
  | issue => exact keeps hs (.withLink ..)
  | holdOff => exact keeps hs (.withLink ..)
  | passAnswer => exact keeps hs (.withLink ..)
  | captureAnswer r _ _ =>
    refine keeps (State.Owned.captureAnswer (keeps hs ((KeepsOwners.withLink s _).trans (.lowerOutstanding ..))) ?_ _ _) (.refreshTally _)
    exact hfit
  | segmentAnswer =>
    exact keeps ((OwnersKept.faultOn ..).owned (keeps hs ((KeepsOwners.takePart ..).trans (.modifyTap ..)))) (.refreshTally _)
  | maskAnswer => exact keeps ((OwnersKept.faultOn ..).owned (keeps hs (.takePart ..))) (.refreshTally _)
  | reviewAnswer => exact keeps ((OwnersKept.faultOn ..).owned (keeps hs (.takePart ..))) (.refreshTally _)
  | patternAnswer _ _ _ hrun _ => exact keeps (hs.patternAnswer hrun _ _ _) (.refreshTally _)
  | @patternIssue run run' _ _ hrun _ _ hnext =>
    obtain ⟨tag, -, hrequest⟩ := Option.bind_eq_some_iff.mp hnext
    have hcursor : (some run').map (·.cursor) = s.pool.pattern.map (·.cursor) := by
      rw [hrun]
      exact congrArg some (PatternRun.nextRequest_cursor hrequest)
    exact (OwnersKept.issuePattern _ hcursor).owned hs
  | drained => exact keeps hs (((KeepsOwners.withLink s _).trans (.lowerFor ..)).trans (.withLink ..))
  | reply => exact keeps hs (.returnReply ..)
  | lineMoves => exact keeps hs (.setLine ..)
  | lineTaken => exact keeps hs (.setLine ..)
  | dump => exact keeps hs (((KeepsOwners.setLine ..).trans (.dump _)).trans (.refreshTally _))
  | openMask => exact keeps hs (((KeepsOwners.setLine ..).trans (.openMask _)).trans (.refreshTally _))
  | closeMask => exact keeps hs (((KeepsOwners.setLine ..).trans (.closeMask _)).trans (.refreshTally _))
  | enter => exact keeps hs (((KeepsOwners.setLine ..).trans (.setPanelTargets ..)).trans (.refreshTally _))
  | exit => exact keeps hs (((KeepsOwners.setLine ..).trans (.setPanelTargets ..)).trans (.refreshTally _))
  | blink => exact keeps hs (.withPanel ..)
  | storePage => exact keeps hs (.withStore ..)
  | storeDone => exact keeps hs ((KeepsOwners.withStore s _).trans (.raiseAll ..))
  | storeTimeout => exact keeps hs ((KeepsOwners.withStore s _).trans (.raiseAll ..))

/-- Settles O18: one segment at a time, each operation either leaves a segment's owner as it is, or takes it from its owner and hands it on. -/
theorem segmentsStayOwned : Obligations.SegmentsStayOwned := by
  intro s t hquiet hfit hordered hs hstep
  rw [State.segmentsOwned_iff] at hs ⊢
  unfold step at hstep
  split at hstep
  · cases hstep; exact hs
  · exact (exec_effect hstep).owned hquiet hfit hordered (KeepsOwners.owned (.of_eq (fun _ => rfl) rfl) hs)

end Sys2Proof.Machine

/-! SUPPORT. A link reset (R17, R42, R58, R59, R77, R78, R128, R155): what the blocks keep, the order of the handover, and the records that the
quarantine has at its end. -/

namespace Sys2Proof.Machine

/-! ### What the blocks keep -/

/-- From `s` to `t` a reset rule changes at most the link, the capture unit, segment records, the pattern run, the timeline, the quarantine's
records, and what a retirement does to taps and settings. -/
structure ResetKept (s t : State) : Prop where
  startUp : t.startUp = s.startUp
  panel : t.panel = s.panel
  pending : t.pending = s.pending
  edits : t.edits = s.edits
  lock : t.quarantine.lock = s.quarantine.lock
  cap : t.quarCap = s.quarCap
  store : t.store = { s.store with config := t.store.config }
  config : t.store.config = { s.store.config with taps := t.store.config.taps }
  pool : t.pool = { s.pool with segs := t.pool.segs, pattern := t.pool.pattern }
  eased : Eased s t

theorem ResetKept.refl (s : State) : ResetKept s s := ⟨rfl, rfl, rfl, rfl, rfl, rfl, rfl, rfl, rfl, .refl s⟩

theorem ResetKept.trans {s t u : State} (h : ResetKept s t) (k : ResetKept t u) : ResetKept s u where
  startUp := k.startUp.trans h.startUp
  panel := k.panel.trans h.panel
  pending := k.pending.trans h.pending
  edits := k.edits.trans h.edits
  lock := k.lock.trans h.lock
  cap := k.cap.trans h.cap
  store := by rw [k.store, h.store]
  config := by rw [k.config, h.config]
  pool := by rw [k.pool, h.pool]
  eased := h.eased.trans k.eased

theorem ResetKept.foldl {α : Type} {f : State → α → State} (h : ∀ s x, ResetKept s (f s x)) (l : List α) (s : State) :
    ResetKept s (l.foldl f s) := by
  induction l generalizing s with
  | nil => exact .refl s
  | cons x l ih => exact (h s x).trans (ih _)

theorem Interior.resetKept {s t : State} (h : Interior s t) (hedits : t.edits = s.edits) (heased : Eased s t) : ResetKept s t :=
  ⟨h.startUp, h.panel, h.pending, hedits, h.lock, h.quarCap, h.store, h.config, by rw [h.pool], heased⟩

theorem ResetKept.freeSeg (s : State) (p : Nat) : ResetKept s (s.freeSeg p) := (Interior.freeSeg s p).resetKept (s.freeSeg_edits p) (.freeSeg s p)

theorem ResetKept.withLink (s : State) (l : Interposer) : ResetKept s { s with link := l } :=
  ⟨rfl, rfl, rfl, rfl, rfl, rfl, rfl, rfl, rfl, .of_eq rfl rfl id⟩

theorem ResetKept.withCapture (s : State) (u : CaptureUnit) : ResetKept s { s with capture := u } :=
  ⟨rfl, rfl, rfl, rfl, rfl, rfl, rfl, rfl, rfl, .of_eq rfl rfl id⟩

theorem ResetKept.setPattern (s : State) (r : Option PatternRun) : ResetKept s (s.setPattern r) :=
  ⟨rfl, rfl, rfl, rfl, rfl, rfl, rfl, rfl, rfl, .of_eq rfl rfl id⟩

theorem ResetKept.lowerFor (s : State) (u : MUse) : ResetKept s (s.lowerFor u) := by
  unfold State.lowerFor
  split
  · exact .refl s
  · exact (Interior.lowerOutstanding s _).resetKept rfl (.modifySeg s _ fun _ => rfl)

theorem ResetKept.resetLink (s : State) : ResetKept s s.resetLink :=
  (ResetKept.foldl (fun s (r : MRequest) => .lowerFor s r.use) _ s).trans (.withLink ..)

theorem ResetKept.resetCapture (s : State) : ResetKept s s.resetCapture := by
  rw [State.resetCapture_eq]
  exact (ResetKept.foldl .freeSeg _ s).trans (.withCapture ..)

theorem ResetKept.resetPattern (s : State) : ResetKept s s.resetPattern := by
  unfold State.resetPattern
  split
  · exact .refl s
  · exact (ResetKept.freeSeg ..).trans (.setPattern ..)

theorem ResetKept.dropPins (s : State) : ResetKept s s.dropPins := by
  refine ⟨rfl, rfl, rfl, rfl, rfl, rfl, rfl, rfl, rfl, .of_eq rfl rfl fun h g hg => ?_⟩
  obtain ⟨g0, hg0, rfl⟩ := List.mem_map.mp hg
  exact h g0 hg0

theorem Frees.handOverAtReset (s : State) (r : SegmentRecord) : Frees s (s.handOverAtReset r) := by
  unfold State.handOverAtReset
  exact .ite (.freeSeg ..) (.offer ..)

theorem ResetKept.handOverAtReset (s : State) (r : SegmentRecord) : ResetKept s (s.handOverAtReset r) :=
  (Interior.handOverAtReset s r).resetKept (Frees.handOverAtReset s r).edits (Frees.handOverAtReset s r).toEased

theorem ResetKept.resetTimeline (s : State) : ResetKept s s.resetTimeline :=
  (ResetKept.foldl .handOverAtReset (s.heldRecords ++ s.liveRecords) s).trans
    ⟨rfl, rfl, rfl, rfl, rfl, rfl, rfl, rfl, rfl, .withTimeline _ _⟩

/-- The blocks' rules of a link reset, before edits, taps and guard are emptied. -/
def State.blocksReset (s : State) : State := s.resetLink.resetCapture.resetPattern.dropPins.resetTimeline

theorem ResetKept.blocksReset (s : State) : ResetKept s s.blocksReset :=
  ((((ResetKept.resetLink s).trans (.resetCapture _)).trans (.resetPattern _)).trans (.dropPins _)).trans (.resetTimeline _)

theorem State.resetPattern_pattern (s : State) : s.resetPattern.pool.pattern = none := by
  unfold State.resetPattern
  split
  · assumption
  · rfl

theorem State.blocksReset_pattern (s : State) : s.blocksReset.pool.pattern = none := by
  unfold State.blocksReset
  rw [(Interior.resetTimeline _).pool]
  exact State.resetPattern_pattern _

theorem foldl_lowerFor_quarantine (rs : List MRequest) (s : State) :
    (rs.foldl (fun s r => s.lowerFor r.use) s).quarantine = s.quarantine ∧ (rs.foldl (fun s r => s.lowerFor r.use) s).timeline = s.timeline := by
  induction rs generalizing s with
  | nil => exact ⟨rfl, rfl⟩
  | cons r rs ih =>
    have hlower : (s.lowerFor r.use).quarantine = s.quarantine ∧ (s.lowerFor r.use).timeline = s.timeline := by
      unfold State.lowerFor
      split
      · exact ⟨rfl, rfl⟩
      · exact ⟨rfl, rfl⟩
    obtain ⟨hq, ht⟩ := ih (s.lowerFor r.use)
    exact ⟨hq.trans hlower.1, ht.trans hlower.2⟩

/-- Every pin is dropped and stays so through the handover. -/
theorem State.blocksReset_pins (s : State) : ∀ g ∈ s.blocksReset.pool.segs, g.pins = 0 := by
  intro g hg
  obtain ⟨p, hp⟩ := List.getElem?_of_mem hg
  generalize hu : s.resetLink.resetCapture.resetPattern = u
  have hoffer (v : State) (r : SegmentRecord) : Rehomes (fun _ => True) v (v.handOverAtReset r) := by
    unfold State.handOverAtReset
    exact .ite (.freeSeg _ trivial) (.offer _ _ trivial)
  have hcore := ((Rehomes.foldl hoffer (u.dropPins.heldRecords ++ u.dropPins.liveRecords) u.dropPins)).core p
  have hseg : (s.blocksReset.seg? p).map Segment.core = (u.dropPins.seg? p).map Segment.core := by rw [← hcore, ← hu]; rfl
  have hp : s.blocksReset.seg? p = some g := hp
  rw [hp, show u.dropPins.seg? p = (u.seg? p).map fun g => { g with pins := 0 } from List.getElem?_map] at hseg
  cases hg0 : u.seg? p with
  | none => rw [hg0] at hseg; cases hseg
  | some g0 =>
    rw [hg0] at hseg
    exact congrArg Segment.pins (Option.some.inj hseg)

/-! ### The records at the end (R77, R146) -/

/-- What a list of records becomes under the rule for a full list. -/
def recordsKept (lock : LockState) (cap : Nat) (all : List SegmentRecord) : List SegmentRecord :=
  if lock = .unlocked then all.drop (all.length - cap) else all.take cap

theorem recordsKept_of_fits (lock : LockState) {cap : Nat} {all : List SegmentRecord} (h : all.length ≤ cap) : recordsKept lock cap all = all := by
  unfold recordsKept
  split
  · rw [Nat.sub_eq_zero_of_le h, List.drop_zero]
  · exact List.take_of_length_le h

theorem recordsKept_length (lock : LockState) (cap : Nat) (all : List SegmentRecord) : (recordsKept lock cap all).length ≤ cap := by
  unfold recordsKept
  split
  · rw [List.length_drop]; omega
  · rw [List.length_take]; omega

theorem recordsKept_append (lock : LockState) (cap : Nat) (all more : List SegmentRecord) :
    recordsKept lock cap (recordsKept lock cap all ++ more) = recordsKept lock cap (all ++ more) := by
  unfold recordsKept
  split
  · rw [← List.drop_append_of_le_length (by omega), List.drop_drop]
    congr 1
    simp only [List.length_drop, List.length_append]
    omega
  · rw [List.take_append, List.take_append, List.take_take, List.length_take, Nat.min_self]
    congr 2
    omega

theorem State.offer_records {s : State} (quiet : Bool) (r : SegmentRecord) (hfits : s.quarantine.records.length ≤ s.quarCap) :
    (State.offer quiet s r).quarantine.records = recordsKept s.quarantine.lock s.quarCap (s.quarantine.records ++ [r]) := by
  unfold State.offer
  split
  · next hcap =>
    have hempty : s.quarantine.records = [] := List.eq_nil_of_length_eq_zero (by omega)
    have hkept := recordsKept_length s.quarantine.lock s.quarCap (s.quarantine.records ++ [r])
    rw [hcap] at hkept ⊢
    rw [List.eq_nil_of_length_eq_zero (Nat.le_zero.mp hkept), State.freeSeg_quarantine, hempty]
  split
  · next hcap hroom =>
    rw [recordsKept_of_fits _ (by rw [List.length_append, List.length_singleton]; omega)]
    rfl
  split
  · next hcap hroom _ _ old rest hlock hrecords =>
    show (State.quarantine (State.freeSeg _ _)).records ++ [r] = _
    rw [State.freeSeg_quarantine, hlock, hrecords]
    rw [hrecords, List.length_cons] at hfits hroom
    unfold recordsKept
    rw [if_pos rfl, show (old :: rest ++ [r]).length - s.quarCap = 1 by
      rw [List.length_append, List.length_cons, List.length_singleton]; omega]
    show (State.quarantine (State.raiseUnless _ _ _)).records ++ [r] = rest ++ [r]
    cases quiet <;> rfl
  · next hcap hroom _ _ hnot =>
    have hlock : s.quarantine.lock ≠ .unlocked := fun hlock => by
      cases hrecords : s.quarantine.records with
      | nil =>
        rw [hrecords] at hroom
        exact hroom (Nat.pos_of_ne_zero hcap)
      | cons old rest => exact hnot old rest hlock hrecords
    unfold recordsKept
    rw [State.freeSeg_quarantine, if_neg hlock, List.take_append_of_le_length (by omega), List.take_of_length_le hfits]
    cases quiet <;> rfl

/-- The records that come of a handover. -/
def comers (es : List Edit) (rs : List SegmentRecord) : List SegmentRecord := (rs.map (resetRecord es)).filter fun r => r.withheld != 0#4

theorem foldl_handOverAtReset_records (rs : List SegmentRecord) {s : State} (hfits : s.quarantine.records.length ≤ s.quarCap) :
    (rs.foldl State.handOverAtReset s).quarantine.records =
      recordsKept s.quarantine.lock s.quarCap (s.quarantine.records ++ comers s.edits rs) := by
  induction rs generalizing s with
  | nil =>
    unfold comers
    rw [List.map_nil, List.filter_nil, List.append_nil, recordsKept_of_fits _ hfits]
    rfl
  | cons r rs ih =>
    have hkept := ResetKept.handOverAtReset s r
    have hfirst : (s.handOverAtReset r).quarantine.records =
        recordsKept s.quarantine.lock s.quarCap (s.quarantine.records ++ comers s.edits [r]) := by
      unfold State.handOverAtReset comers
      dsimp only
      rw [List.map_singleton]
      split
      · next hzero =>
        rw [List.filter_cons_of_neg (by simp [hzero]), List.filter_nil, List.append_nil, recordsKept_of_fits _ hfits, State.freeSeg_quarantine]
      · next hne =>
        rw [List.filter_cons_of_pos (by simp [hne]), List.filter_nil]
        exact State.offer_records true _ hfits
    have hsplit : comers s.edits (r :: rs) = comers s.edits [r] ++ comers s.edits rs := by
      unfold comers
      rw [← List.filter_append, ← List.map_append]
      rfl
    rw [List.foldl_cons, ih (by rw [hfirst, hkept.cap]; exact recordsKept_length ..), hfirst, hkept.lock, hkept.cap, hkept.edits,
      recordsKept_append, List.append_assoc, ← hsplit]

end Sys2Proof.Machine

/-! SUPPORT. The order of the handover at a link reset, and the link reset as a whole (R17, R77, R78). -/

namespace Sys2Proof.Machine

/-! ### The departure records in order (R77) -/

/-- The sharp order of two records by PI. -/
def SegmentRecord.before (a b : SegmentRecord) : Prop := serialLt a.pi b.pi = true ∧ serialLt b.pi a.pi = false

theorem SegmentRecord.before_irrefl (a : SegmentRecord) : ¬ a.before a := fun ⟨h, k⟩ => by rw [h] at k; cases k

/-- Among the records of a list in order, insertion puts a record in its place. -/
theorem insertByPi_sublist {all l : List SegmentRecord} {x : SegmentRecord} (hall : all.Pairwise SegmentRecord.before) (hx : x ∈ all)
    (hl : l.Sublist all) (hnot : x ∉ l) : (insertByPi x l).Sublist all := by
  induction all generalizing l with
  | nil => cases hx
  | cons y ys ih =>
    obtain ⟨hy, hys⟩ := List.pairwise_cons.mp hall
    obtain rfl | hxs := List.mem_cons.mp hx
    · cases hl with
      | cons _ hl =>
        cases l with
        | nil => exact (List.nil_sublist _).cons_cons x
        | cons z zs =>
          unfold insertByPi
          rw [if_pos (hy z (hl.subset List.mem_cons_self)).1]
          exact hl.cons_cons x
      | cons_cons _ hl => exact absurd List.mem_cons_self hnot
    · cases hl with
      | cons _ hl => exact (ih hys hxs hl hnot).cons y
      | cons_cons _ hl =>
        unfold insertByPi
        rw [if_neg (Bool.eq_false_iff.mp (hy x hxs).2)]
        exact (ih hys hxs hl fun h => hnot (List.mem_cons_of_mem _ h)).cons_cons y

/-- Insertion by ascending PI gives the one list of the records that is in order. -/
theorem foldr_insertByPi_eq {rs all : List SegmentRecord} (hperm : all.Perm rs) (hall : all.Pairwise SegmentRecord.before) :
    rs.foldr insertByPi [] = all := by
  have hnodup : rs.Nodup := hperm.nodup_iff.mp (hall.imp fun {a b} h (hab : a = b) => a.before_irrefl (by rw [← hab] at h; exact h))
  have hsub : ∀ l : List SegmentRecord, l.Nodup → (∀ x ∈ l, x ∈ all) → (l.foldr insertByPi []).Sublist all := by
    intro l
    induction l with
    | nil => exact fun _ _ => List.nil_sublist _
    | cons x l ih =>
      intro hl hmem
      obtain ⟨hx, hl⟩ := List.nodup_cons.mp hl
      exact insertByPi_sublist hall (hmem x List.mem_cons_self) (ih hl fun y hy => hmem y (List.mem_cons_of_mem _ hy))
        fun h => hx ((foldr_insertByPi_perm l).mem_iff.mp h)
  exact (hsub rs hnodup fun x hx => hperm.mem_iff.mpr hx).eq_of_length ((foldr_insertByPi_perm rs).trans hperm.symm).length_eq

/-! ### The HELD segments before the handover -/

theorem State.departures_congr {s t : State} (h : ∀ p, (t.seg? p).map Segment.departs = (s.seg? p).map Segment.departs) :
    t.departures = s.departures := by
  have hmap : t.pool.segs.map Segment.departs = s.pool.segs.map Segment.departs :=
    List.ext_getElem? fun p => by
      rw [List.getElem?_map, List.getElem?_map]
      exact h p
  have hid (l : List Segment) : l.filterMap Segment.departs = (l.map Segment.departs).filterMap id := by rw [List.filterMap_map]; rfl
  unfold State.departures
  rw [hid, hid, hmap]

theorem foldl_freeSeg_departures {s : State} (ps : List Nat) (h : ∀ p ∈ ps, ∃ g, s.seg? p = some g ∧ g.state ≠ .held) :
    (ps.foldl State.freeSeg s).departures = s.departures := by
  obtain ⟨-, hother, hidle⟩ := foldl_freeSeg_effect ps s
  refine State.departures_congr fun p => ?_
  by_cases hp : p ∈ ps
  · obtain ⟨g, hg, hstate⟩ := h p hp
    obtain ⟨g', hg', hidle'⟩ := hidle p hp g hg
    have hnot : g'.state ≠ .held := by obtain ⟨h | h, -⟩ := hidle' <;> rw [h] <;> decide
    rw [hg, hg']
    exact congrArg some ((if_neg hnot).trans (if_neg hstate).symm)
  · rw [hother p hp]

theorem foldl_lowerFor_departures (rs : List MRequest) (s : State) : (rs.foldl (fun s r => s.lowerFor r.use) s).departures = s.departures := by
  induction rs generalizing s with
  | nil => rfl
  | cons r rs ih =>
    refine (ih _).trans (State.departures_congr fun p => ?_)
    show Option.map Segment.departs ((s.lowerFor r.use).seg? p) = _
    unfold State.lowerFor
    split
    · rfl
    · unfold State.lowerOutstanding
      rw [State.seg_modifySeg]
      split
      · rw [Option.map_map]
        rfl
      · rfl

theorem State.dropPins_departures (s : State) : s.dropPins.departures = s.departures :=
  State.departures_congr fun p => by
    rw [show s.dropPins.seg? p = (s.seg? p).map fun g => { g with pins := 0 } from List.getElem?_map, Option.map_map]
    rfl

theorem State.Owned.not_held_of_mem {s : State} (h : s.Owned []) {k : SegState} (hk : k ≠ .held) :
    ∀ p ∈ s.named k, ∃ g, s.seg? p = some g ∧ g.state ≠ .held := fun p hp => by
  obtain ⟨-, g, hg, hstate⟩ := h.seg_of_mem hp
  exact ⟨g, hg, hstate ▸ hk⟩

theorem State.Owned.resetLink {s : State} (h : s.Owned []) : s.resetLink.Owned [] :=
  KeepsOwners.owned ((KeepsOwners.foldl (fun s (r : MRequest) => .lowerFor s r.use) _ s).trans (.withLink ..)) h

/-- What the rules before the handover leave of what it reads. -/
theorem State.Owned.handover_reads {s : State} (h : s.Owned []) :
    s.resetLink.resetCapture.resetPattern.dropPins.departures = s.departures ∧
      s.resetLink.resetCapture.resetPattern.dropPins.timeline = s.timeline ∧
      s.resetLink.resetCapture.resetPattern.dropPins.quarantine = s.quarantine := by
  obtain ⟨hquarantine1, htimeline1⟩ := foldl_lowerFor_quarantine (s.link.planned.filter MRequest.internal) s
  have hlink : s.resetLink.departures = s.departures := foldl_lowerFor_departures (s.link.planned.filter MRequest.internal) s
  have howned1 := h.resetLink
  have hcapture : s.resetLink.resetCapture.departures = s.resetLink.departures ∧ s.resetLink.resetCapture.timeline = s.resetLink.timeline ∧
      s.resetLink.resetCapture.quarantine = s.resetLink.quarantine := by
    rw [State.resetCapture_eq]
    obtain ⟨htimeline, hquarantine, -⟩ := foldl_freeSeg_pool (contextSegs s.resetLink.capture.contexts) s.resetLink
    exact ⟨foldl_freeSeg_departures _ (howned1.not_held_of_mem (k := .filling) (by decide)), htimeline, hquarantine⟩
  have howned2 := howned1.resetCapture
  generalize s.resetLink.resetCapture = u at hcapture howned2
  have hpattern : u.resetPattern.departures = u.departures ∧ u.resetPattern.timeline = u.timeline ∧ u.resetPattern.quarantine = u.quarantine := by
    unfold State.resetPattern
    split
    · exact ⟨rfl, rfl, rfl⟩
    · next r hr =>
      refine ⟨foldl_freeSeg_departures [r.cursor] fun p hp => howned2.not_held_of_mem (k := .testing) (by decide) p ?_, u.freeSeg_timeline _,
        u.freeSeg_quarantine _⟩
      show p ∈ (u.pool.pattern.map (·.cursor)).toList
      rw [hr]
      exact hp
  obtain ⟨hdepartures2, htimeline2, hquarantine2⟩ := hcapture
  obtain ⟨hdepartures3, htimeline3, hquarantine3⟩ := hpattern
  exact ⟨u.resetPattern.dropPins_departures.trans (hdepartures3.trans (hdepartures2.trans hlink)),
    htimeline3.trans (htimeline2.trans htimeline1), hquarantine3.trans (hquarantine2.trans hquarantine1)⟩

/-- The records that the quarantine has after the handover. -/
theorem State.Owned.blocksReset_records {s : State} (h : s.Owned []) (hfits : s.quarantineFits) {held : List SegmentRecord}
    (hperm : held.Perm s.departures) (horder : held.Pairwise SegmentRecord.before) :
    s.blocksReset.quarantine.records =
      recordsKept s.quarantine.lock s.quarCap (s.quarantine.records ++ comers s.edits (held ++ s.liveRecords)) := by
  obtain ⟨hdepartures, htimeline, hquarantine⟩ := h.handover_reads
  have hkept := (((ResetKept.resetLink s).trans (.resetCapture _)).trans (.resetPattern _)).trans (.dropPins _)
  have hheld : s.resetLink.resetCapture.resetPattern.dropPins.heldRecords = held :=
    foldr_insertByPi_eq (rs := s.resetLink.resetCapture.resetPattern.dropPins.departures) (by rw [hdepartures]; exact hperm) horder
  have hlive : s.resetLink.resetCapture.resetPattern.dropPins.liveRecords = s.liveRecords := by unfold State.liveRecords; rw [htimeline]
  show (List.foldl State.handOverAtReset _ _).quarantine.records = _
  have hfold := foldl_handOverAtReset_records (held ++ s.liveRecords) (s := s.resetLink.resetCapture.resetPattern.dropPins)
    (by rw [hquarantine, hkept.cap]; exact hfits)
  rw [hquarantine, hkept.cap, hkept.edits] at hfold
  rw [hheld, hlive, hfold]

/-! ### The record of a handover (R78) -/

theorem foldl_leading {d : Edit} (ds : List Edit) (d0 : Edit) (hd : d ∈ d0 :: ds)
    (h : ∀ x ∈ d0 :: ds, x = d ∨ (serialLt d.start x.start = true ∧ serialLt x.start d.start = false)) : ds.foldl Edit.leading d0 = d := by
  have hlow (x : Edit) (hx : x = d ∨ (serialLt d.start x.start = true ∧ serialLt x.start d.start = false)) :
      Edit.leading d x = d ∧ Edit.leading x d = d := by
    obtain rfl | ⟨hlt, hnot⟩ := hx
    · exact ⟨ite_self _, ite_self _⟩
    · have hne : (x.start == d.start) = false := beq_eq_false_iff_ne.mpr fun heq => by rw [heq] at hlt hnot; rw [hlt] at hnot; cases hnot
      unfold Edit.leading
      rw [hlt, hnot, hne]
      exact ⟨rfl, rfl⟩
  induction ds generalizing d0 with
  | nil => exact (List.mem_singleton.mp hd).symm
  | cons y ys ih =>
    have hy := h y (List.mem_cons_of_mem _ List.mem_cons_self)
    have h0 := h d0 List.mem_cons_self
    have hlead : Edit.leading d0 y = d0 ∨ Edit.leading d0 y = y := by
      unfold Edit.leading
      split
      · exact .inr rfl
      · exact .inl rfl
    refine ih (Edit.leading d0 y) ?_ fun x hx => ?_
    · obtain rfl | hd := List.mem_cons.mp hd
      · rw [(hlow y hy).1]
        exact List.mem_cons_self
      obtain rfl | hd := List.mem_cons.mp hd
      · rw [(hlow d0 h0).2]
        exact List.mem_cons_self
      · exact List.mem_cons_of_mem _ hd
    · obtain rfl | hx := List.mem_cons.mp hx
      · obtain hl | hl := hlead
        · rw [hl]; exact h0
        · rw [hl]; exact hy
      · exact h x (List.mem_cons_of_mem _ (List.mem_cons_of_mem _ hx))

theorem resetRecord_of_lowest {es : List Edit} {r : SegmentRecord} {d : Edit} (hd : d ∈ coveringDrops es r.pi)
    (h : ∀ x ∈ coveringDrops es r.pi, x = d ∨ (serialLt d.start x.start = true ∧ serialLt x.start d.start = false)) :
    resetRecord es r =
      { r with
        withheld := (coveringDrops es r.pi).foldl (fun m x => m ||| x.taps) r.withheld
        origin := if r.withheld = 0#4 then some d.origin else r.origin } := by
  unfold resetRecord
  cases hdrops : coveringDrops es r.pi with
  | nil =>
    rw [hdrops] at hd
    cases hd
  | cons d0 ds =>
    rw [hdrops] at hd h
    dsimp only
    rw [foldl_leading ds d0 hd h]

/-! ### The whole reset -/

theorem State.linkReset_link_eq (s : State) :
    s.linkReset.link =
      { s.link with
        inflight := s.link.inflight.map fun f =>
          if f.phase = .draining then f
          else { f with phase := .ready, reserved := [], parts := 0, reply := some ⟨.fault, zeroData f.req⟩, owed := true }
        planned := (s.link.planned.filter fun m => decide (m.tag.val < 64)).map fun m => { m with draining := true }
        outstanding := s.link.outstanding.map fun m => { m with draining := true } } := by
  rw [State.linkReset_link]
  unfold State.resetLink
  dsimp only
  rw [foldl_lowerFor_link]
  have hforwarded : (s.link.planned.filter fun m => !m.internal) = s.link.planned.filter fun m => decide (m.tag.val < 64) :=
    List.filter_congr fun m _ => by
      show (!decide (64 ≤ m.tag.val)) = _
      rw [Bool.eq_iff_iff, Bool.not_eq_true', decide_eq_false_iff_not, decide_eq_true_eq, Nat.not_le]
  rw [hforwarded]
  rfl

theorem State.linkReset_tap (s : State) (i : Fin 4) : s.linkReset.tap i = (s.blocksReset.tap i).reset := PerTap.get_map ..

theorem State.linkReset_tap_eq (s : State) (i : Fin 4) :
    s.linkReset.tap i =
      { Tap.powerOn with bound := (s.tap i).bound, dt := (s.linkReset.tap i).dt, clampFlag := (s.linkReset.tap i).clampFlag } := by
  have hbound : (s.blocksReset.tap i).bound = (s.tap i).bound := ((ResetKept.blocksReset s).eased.bounds i).2
  rw [State.linkReset_tap, ← hbound]
  rfl

theorem State.linkReset_pool (s : State) : s.linkReset.pool = { s.pool with segs := s.linkReset.pool.segs, pattern := none } := by
  have hpool := (ResetKept.blocksReset s).pool
  rw [State.blocksReset_pattern] at hpool
  exact hpool

theorem State.linkReset_line (s : State) (l : PanelLine) : s.linkReset.line l = s.line l := by
  have hpanel := (ResetKept.blocksReset s).panel
  cases l with
  | dump =>
    show s.blocksReset.panel.dumpLine = _
    rw [hpanel]
    rfl
  | mask =>
    show s.blocksReset.panel.maskLine = _
    rw [hpanel]
    rfl
  | enter =>
    show s.blocksReset.panel.enterLine = _
    rw [hpanel]
    rfl
  | exit =>
    show s.blocksReset.panel.exitLine = _
    rw [hpanel]
    rfl

/-- With nothing retire-pending the settings stand too. -/
theorem ResetKept.store_of_calm {s t : State} (h : ResetKept s t) (hcalm : s.nothingRetires) : t.store = s.store := by
  obtain ⟨-, hsame⟩ := h.eased.calm hcalm
  have htaps : t.store.config.taps = s.store.config.taps := PerTap.ext_get fun i => by
    have hset := h.eased.settings i
    rw [(hsame i).1] at hset
    exact hset
  rw [h.store, h.config, htaps]

/-- No segment is pinned and none belongs to an emptied block after a link reset. -/
theorem State.Owned.linkReset_states {s : State} (h : s.Owned []) :
    ∀ g ∈ s.linkReset.pool.segs, g.state = .free ∨ g.state = .maskImage ∨ g.state = .quarantined ∨ g.state = .retired := by
  intro g hg
  obtain ⟨p, hp⟩ := List.getElem?_of_mem hg
  have hp : s.linkReset.seg? p = some g := hp
  obtain ⟨-, hseg⟩ := (s.linkReset.placed_iff p).mp (h.linkReset.placed List.not_mem_nil)
  obtain ⟨howner, -, hpins, -⟩ := hseg g hp
  have hnone {k : SegState} (hk : s.linkReset.named k = []) : p ∉ s.linkReset.named k := by rw [hk]; exact List.not_mem_nil
  have hfilling := hnone (k := .filling) (by unfold State.named; rw [State.linkReset_capture]; rfl)
  have hlive := hnone (k := .live) rfl
  have htesting := hnone (k := .testing) (by
    show (s.blocksReset.pool.pattern.map (·.cursor)).toList = []
    rw [State.blocksReset_pattern]
    rfl)
  have hpinned : ¬ 0 < g.pins := by
    rw [s.blocksReset_pins g hg]
    exact Nat.lt_irrefl 0
  obtain hfree | hretired | hheld | hnamed := howner
  · exact .inl hfree
  · exact .inr (.inr (.inr hretired))
  · exact absurd (hpins hheld) hpinned
  · cases hstate : g.state with
    | free => exact .inl rfl
    | maskImage => exact .inr (.inl rfl)
    | quarantined => exact .inr (.inr (.inl rfl))
    | retired => exact .inr (.inr (.inr rfl))
    | held => exact absurd (hpins hstate) hpinned
    | filling => exact absurd (hstate ▸ hnamed) hfilling
    | live => exact absurd (hstate ▸ hnamed) hlive
    | testing => exact absurd (hstate ▸ hnamed) htesting

/-- Settles O20: what each block's rule keeps, the handover with the departure records in order and the rule for a full list, and that nothing
is left in the hands of an emptied block, since the law of ownership holds at the end. -/
theorem linkResetEmptiesTheBlocks : Obligations.LinkResetEmptiesTheBlocks := by
  refine ⟨fun s hlow => ?_, fun es r => ⟨fun hnone => ?_, fun d hd hlowest => resetRecord_of_lowest hd hlowest⟩, fun s hhigh => if_pos hhigh⟩
  · refine ⟨_, if_neg (Bool.eq_false_iff.mp hlow), ?_⟩
    have hkept := ResetKept.blocksReset { s with startUp := { s.startUp with lrstAsserted := true } }
    have howned (h : s.segmentsOwned) : State.Owned [] { s with startUp := { s.startUp with lrstAsserted := true } } :=
      (KeepsOwners.withStartUp s _).owned (s.segmentsOwned_iff.mp h)
    refine ⟨hkept.startUp, State.linkReset_link_eq _, State.linkReset_capture _, rfl, rfl, rfl, ?_, State.blocksReset_pins _, fun i => ?_,
      fun hcalm => ⟨?_, fun i => ?_⟩, hkept.lock, hkept.store, fun l => ?_, State.refreshTally_talliesCurrent _, hkept.pending,
      fun h => ⟨(howned h).linkReset_states, fun hfits held hperm horder => ?_⟩⟩
    · exact State.linkReset_pool _
    · exact State.linkReset_tap_eq _ i
    · exact hkept.store_of_calm hcalm
    · obtain ⟨-, hsame⟩ := hkept.eased.calm hcalm
      obtain ⟨-, hdt, hflag⟩ := hsame i
      rw [State.linkReset_tap]
      exact ⟨hdt, hflag⟩
    · exact State.linkReset_line _ l
    · exact (howned h).blocksReset_records hfits hperm horder
  · unfold resetRecord
    rw [show coveringDrops es r.pi = [] from hnone]

end Sys2Proof.Machine

/-! SUPPORT. Events that several taps latch at once, and the presentation of a PROGRAM entry to the edit list (R67, R88 to R90, R93). -/

namespace Sys2Proof.Machine

/-! ### Further bits in the latches -/

/-- The state with further bits in the taps' latches. -/
def State.latched (s : State) (bits : Fin 4 → Word) : State := { s with taps := s.latching bits }

/-- A tap with further bits in its latch. -/
def Tap.latching (x : Tap) (bits : Word) : Tap := { x with latch := x.latch ||| bits }

theorem State.tap_latched (s : State) (bits : Fin 4 → Word) (i : Fin 4) :
    (s.latched bits).tap i = { s.tap i with latch := (s.tap i).latch ||| bits i } :=
  PerTap.get_of (fun i => (s.tap i).latching (bits i)) i

theorem State.latched_zero (s : State) : (s.latched fun _ => 0#32) = s := by
  have htaps : (s.latching fun _ => 0#32) = s.taps := PerTap.ext_get fun i => by
    rw [show (s.latching fun _ => 0#32).get i = (s.latched fun _ => 0#32).tap i from rfl, State.tap_latched, BitVec.or_zero]
    rfl
  unfold State.latched
  rw [htaps]

theorem State.latched_latched (s : State) (b c : Fin 4 → Word) : (s.latched b).latched c = s.latched fun i => b i ||| c i := by
  have htaps : (s.latched b).latching c = s.latching fun i => b i ||| c i := PerTap.ext_get fun i => by
    rw [show ((s.latched b).latching c).get i = ((s.latched b).latched c).tap i from rfl, State.tap_latched, State.tap_latched,
      show (s.latching fun i => b i ||| c i).get i = (s.latched fun i => b i ||| c i).tap i from rfl, State.tap_latched, BitVec.or_assoc]
  show ({ s with taps := (s.latched b).latching c } : State) = _
  rw [htaps]
  rfl

theorem State.raiseAll_latched (s : State) (e : Event) : s.raiseAll e = s.latched fun _ => 1#32 <<< e.bit := rfl

theorem State.raiseUnless_latched (s : State) (quiet : Bool) (e : Event) :
    s.raiseUnless quiet e = s.latched fun _ => if quiet = true then 0#32 else 1#32 <<< e.bit := by
  unfold State.raiseUnless
  split
  · exact s.latched_zero.symm
  · rfl

/-! ### Spent entries (R101) -/

/-- Which entries are spent depends on the head, the active taps and their bounds only. -/
theorem State.spent_congr {s t : State} (htimeline : t.timeline = s.timeline)
    (htap : ∀ i, (t.tap i).active = (s.tap i).active ∧ (t.tap i).bound = (s.tap i).bound) (e : Edit) : t.spent e = s.spent e := by
  have hbound (i : Fin 4) : (t.tap i).bound = (s.tap i).bound := (htap i).2
  rw [Bool.eq_iff_iff, State.spent_iff, State.spent_iff, htimeline]
  simp only [(htap _).1, hbound]

theorem State.spent_latched (s : State) (bits : Fin 4 → Word) : (s.latched bits).spent = s.spent :=
  funext fun e => State.spent_congr (s := s) (t := s.latched bits) rfl (fun i => by rw [State.tap_latched]; exact ⟨rfl, rfl⟩) e

theorem State.spent_withEdits (s : State) (es : List Edit) : ({ s with edits := es } : State).spent = s.spent :=
  funext fun e => State.spent_congr rfl (fun _ => ⟨rfl, rfl⟩) e

theorem State.closed_of_spent {s : State} {e : Edit} (h : s.spent e = true) : e.state = .closed := ((s.spent_iff e).mp h).1

/-- An entry that is offered to the list stays in it or leaves at once as a spent one. -/
theorem State.stays_or_spent (s : State) {es : List Edit} {e : Edit} (h : e ∈ es) :
    e ∈ es.filter (fun e => !s.spent e) ∨ (e.state = .closed ∧ s.spent e = true) := by
  cases hspent : s.spent e with
  | true => exact .inr ⟨State.closed_of_spent hspent, rfl⟩
  | false => exact .inl (List.mem_filter.mpr ⟨h, by rw [hspent]; rfl⟩)

/-! ### What a presentation makes of one entry -/

section
variable {s : State} {n : Word} {cutOk : Bool} {e : Edit}

theorem Edit.settleAt_of_ne (snap : Nat) (n : Word) (cutOk : Bool) (h : e.state ≠ .trailing) : e.settleAt snap n cutOk = e := by
  unfold Edit.settleAt
  split
  · next hstate _ => exact absurd hstate h
  · rfl

theorem Edit.settleAt_of_trailing {r : Word} (snap : Nat) (n : Word) (cutOk : Bool) (h : e.state = .trailing) (hr : e.reach = some r) :
    e.settleAt snap n cutOk =
      if serialLe n r = true then e
      else if cutOk = true then e.close (n - 1#32)
      else if snap ≤ min (e.extension + 1) 255 then { e.close n with rough := true, extension := min (e.extension + 1) 255 }
      else { e with reach := some n, extension := min (e.extension + 1) 255 } := by
  unfold Edit.settleAt
  rw [h, hr]
  rfl

theorem Edit.checkCut_of_ne (n : Word) (cutOk : Bool) (h : e.state ≠ .closed) : e.checkCut n cutOk = e := by
  unfold Edit.checkCut
  split
  · next hstate _ => exact absurd hstate h
  · rfl

theorem Edit.checkCut_of_settled (n : Word) (cutOk : Bool) (h : e.cutPending = false) : e.checkCut n cutOk = e := by
  unfold Edit.checkCut
  split
  · rw [h, Bool.false_and, if_neg Bool.false_ne_true]
  · rfl

theorem Edit.checkCut_of_closed {z : Word} (n : Word) (cutOk : Bool) (h : e.state = .closed) (hz : e.stop = some z) :
    e.checkCut n cutOk =
      if (e.cutPending && serialLt z n) = true then { e with cutPending := false, rough := e.rough || !(n == z + 1#32 && cutOk) } else e := by
  unfold Edit.checkCut
  rw [h, hz]

theorem Edit.limitAt_of_ne (limit : Nat) (n : Word) (h : e.state ≠ .opened) : e.limitAt limit n = e := by
  unfold Edit.limitAt
  split
  · next hstate _ => exact absurd hstate h
  · rfl

theorem Edit.limitAt_of_opened {b : Word} (limit : Nat) (n : Word) (h : e.state = .opened) (hb : e.limitBase = some b) :
    e.limitAt limit n =
      if (limit : Int) ≤ serialDiff n b + 1 then e.close (reachMax (b + BitVec.ofNat 32 limit - 1#32) e.reach) else e := by
  unfold Edit.limitAt
  rw [h, hb]

theorem State.present1_of_trailing {r : Word} (h : e.state = .trailing) (hr : e.reach = some r) (hpending : e.cutPending = false) :
    s.present1 n cutOk e = e.settleAt s.store.config.snapReach n cutOk := by
  have hlater (d : Edit) (hd : d.cutPending = false) (hstate : d.state ≠ .opened) :
      (d.checkCut n cutOk).limitAt s.store.config.maskLimit n = d := by
    rw [Edit.checkCut_of_settled n cutOk hd, Edit.limitAt_of_ne _ n hstate]
  refine hlater _ ?_ ?_
  · rw [Edit.settleAt_of_trailing _ _ _ h hr]
    split
    · exact hpending
    · split
      · exact hpending
      · split <;> exact hpending
  · rw [Edit.settleAt_of_trailing _ _ _ h hr]
    split
    · rw [h]; decide
    · split
      · exact nofun
      · split
        · exact nofun
        · show e.state ≠ _
          rw [h]
          decide

/-- A TRAILING drop that reaches the presented entry is left as it is, whatever its pending mark says. -/
theorem State.present1_of_reached {r : Word} (h : e.state = .trailing) (hr : e.reach = some r) (hle : serialLe n r = true) :
    s.present1 n cutOk e = e := by
  unfold State.present1
  rw [Edit.settleAt_of_trailing _ _ _ h hr, if_pos hle, Edit.checkCut_of_ne n cutOk (by rw [h]; decide),
    Edit.limitAt_of_ne _ n (by rw [h]; decide)]

theorem State.present1_of_closed {z : Word} (h : e.state = .closed) (hz : e.stop = some z) :
    s.present1 n cutOk e =
      if (e.cutPending && serialLt z n) = true then { e with cutPending := false, rough := e.rough || !(n == z + 1#32 && cutOk) } else e := by
  unfold State.present1
  rw [Edit.settleAt_of_ne _ n cutOk (by rw [h]; decide), Edit.checkCut_of_closed n cutOk h hz]
  refine Edit.limitAt_of_ne _ n ?_
  split
  · show e.state ≠ _
    rw [h]
    decide
  · rw [h]
    decide

theorem State.present1_of_opened {b : Word} (h : e.state = .opened) (hb : e.limitBase = some b) :
    s.present1 n cutOk e =
      if (s.store.config.maskLimit : Int) ≤ serialDiff n b + 1 then
        e.close (reachMax (b + BitVec.ofNat 32 s.store.config.maskLimit - 1#32) e.reach)
      else e := by
  unfold State.present1
  rw [Edit.settleAt_of_ne _ n cutOk (by rw [h]; decide), Edit.checkCut_of_ne n cutOk (by rw [h]; decide),
    Edit.limitAt_of_opened _ n h hb]

end

/-! ### The presentation as a whole -/

/-- The bits that a presentation latches in every tap. -/
def State.presentBits (s : State) (n : Word) (cutOk : Bool) : Word :=
  (if (!s.edits.any fun e => !e.rough && (s.present1 n cutOk e).rough) = true then 0#32 else 1#32 <<< Event.spliceRough.bit) |||
    (if (!s.edits.any fun e => e.state == .opened && (s.present1 n cutOk e).state == .closed) = true then 0#32
      else 1#32 <<< Event.maskLimit.bit)

theorem State.present_eq (s : State) (n : Word) (cutOk : Bool) :
    s.present n cutOk =
      { s with
        edits := (s.edits.map (s.present1 n cutOk)).filter fun e => !s.spent e
        taps := s.latching fun _ => s.presentBits n cutOk } := by
  unfold State.present
  dsimp only
  rw [State.raiseUnless_latched, State.raiseUnless_latched, State.latched_latched]
  unfold State.pruneSpent
  rw [State.spent_latched, State.spent_withEdits]
  rfl

section
variable {s : State} {n : Word} {cutOk : Bool} {e : Edit}

/-- An entry in the form that the presentation gives it stays in the list or leaves it as a spent one. -/
theorem State.present_kept (he : e ∈ s.edits) :
    s.present1 n cutOk e ∈ (s.present n cutOk).edits ∨
      ((s.present1 n cutOk e).state = .closed ∧ s.spent (s.present1 n cutOk e) = true) := by
  rw [State.present_eq]
  exact s.stays_or_spent (List.mem_map_of_mem he)

theorem State.present_tap (i : Fin 4) :
    (s.present n cutOk).tap i = { s.tap i with latch := (s.tap i).latch ||| s.presentBits n cutOk } := by
  rw [State.present_eq]
  exact s.tap_latched (fun _ => s.presentBits n cutOk) i

/-- An entry that the presentation makes ROUGH latches SPLICE_ROUGH. -/
theorem State.present_roughens (he : e ∈ s.edits) (hfine : e.rough = false) (hrough : (s.present1 n cutOk e).rough = true) (i : Fin 4) :
    ((s.present n cutOk).tap i).latch.getLsbD 29 = true := by
  have hany : (s.edits.any fun e => !e.rough && (s.present1 n cutOk e).rough) = true :=
    List.any_eq_true.mpr ⟨e, he, by rw [hfine, hrough]; rfl⟩
  have hbits : (s.presentBits n cutOk).getLsbD 29 = true := by
    unfold State.presentBits
    rw [hany, BitVec.getLsbD_or]
    rfl
  rw [State.present_tap]
  show ((s.tap i).latch ||| _).getLsbD 29 = true
  rw [BitVec.getLsbD_or, hbits, Bool.or_true]

/-- An OPEN mask that the presentation closes latches MASK_LIMIT. -/
theorem State.present_limits (he : e ∈ s.edits) (hopen : e.state = .opened) (hclosed : (s.present1 n cutOk e).state = .closed) (i : Fin 4) :
    ((s.present n cutOk).tap i).latch.getLsbD 19 = true := by
  have hany : (s.edits.any fun e => e.state == .opened && (s.present1 n cutOk e).state == .closed) = true :=
    List.any_eq_true.mpr ⟨e, he, by rw [hopen, hclosed]; rfl⟩
  have hbits : (s.presentBits n cutOk).getLsbD 19 = true := by
    unfold State.presentBits
    rw [hany, BitVec.getLsbD_or, show (if (!true) = true then 0#32 else 1#32 <<< Event.maskLimit.bit).getLsbD 19 = true from rfl,
      Bool.or_true]
  rw [State.present_tap]
  show ((s.tap i).latch ||| _).getLsbD 19 = true
  rw [BitVec.getLsbD_or, hbits, Bool.or_true]

end

/-- Settles O39: the presentation maps `present1` over the list, whose value is given case by case, and the spent entries leave. -/
theorem presentationsSettleTheEdits : Obligations.PresentationsSettleTheEdits := by
  intro s n cutOk e he t snap limit k closed kept latched
  have hkept {d : Edit} (hd : s.present1 n cutOk e = d) : kept d := hd ▸ State.present_kept he
  have hrough {d : Edit} (hd : s.present1 n cutOk e = d) (hr : d.rough = true) (hfine : e.rough = false) : latched 29 :=
    State.present_roughens he hfine (by rw [hd]; exact hr)
  refine ⟨?_, fun i => ?_, ?_, fun r hstate hr hle => ?_, fun r hstate hr hle hpending => ?_, fun z hstate hz => ?_,
    fun b hstate hb => ?_⟩
  · show s.present n cutOk = { s with edits := (s.present n cutOk).edits, taps := (s.present n cutOk).taps }
    rw [State.present_eq]
  · show (s.present n cutOk).tap i = { s.tap i with latch := ((s.present n cutOk).tap i).latch }
    rw [State.present_tap]
  · show (s.present n cutOk).edits.length ≤ _
    rw [State.present_eq]
    exact Nat.le_trans (List.length_filter_le ..) (Nat.le_of_eq (List.length_map _))
  · exact hkept (State.present1_of_reached hstate hr hle)
  · have hform := State.present1_of_trailing (s := s) (n := n) (cutOk := cutOk) hstate hr hpending
    rw [Edit.settleAt_of_trailing _ _ _ hstate hr, if_neg (Bool.eq_false_iff.mp hle)] at hform
    refine ⟨fun hcut => ?_, fun hcut hk => ?_, fun hcut hk => ?_⟩
    · rw [if_pos hcut] at hform
      exact hkept hform
    · rw [if_neg (Bool.eq_false_iff.mp hcut), if_neg (Nat.not_le.mpr hk)] at hform
      exact hkept hform
    · rw [if_neg (Bool.eq_false_iff.mp hcut), if_pos hk] at hform
      exact ⟨hkept hform, hrough hform rfl⟩
  · have hform := State.present1_of_closed (s := s) (n := n) (cutOk := cutOk) hstate hz
    refine ⟨fun hno => ?_, fun hpending hlt => ?_⟩
    · have hquiet : (e.cutPending && serialLt z n) = false := by
        obtain h | h := hno
        · rw [h, Bool.false_and]
        · rw [h, Bool.and_false]
      rw [hquiet, if_neg Bool.false_ne_true] at hform
      exact hkept hform
    · have hcut : decide (n = z + 1#32 ∧ cutOk = true) = (n == z + 1#32 && cutOk) := by
        rw [Bool.decide_and, Bool.decide_eq_true]
        rfl
      rw [if_pos (by rw [hpending, hlt]; rfl), ← hcut] at hform
      exact ⟨hkept hform, fun hfine hr => hrough hform hr hfine⟩
  · have hform := State.present1_of_opened (s := s) (n := n) (cutOk := cutOk) hstate hb
    refine ⟨fun hlow => ?_, fun hhigh => ?_⟩
    · rw [if_neg (Int.not_le.mpr hlow)] at hform
      exact hkept hform
    · rw [if_pos hhigh] at hform
      exact ⟨hkept hform, State.present_limits he hstate (by rw [hform]; rfl)⟩

end Sys2Proof.Machine

/-! SUPPORT. What an advance may change of its tap, and the entries that it passes over (R68, R114). -/

namespace Sys2Proof.Machine

/-! ### The play state of a tap -/

/-- From `x` to `y` only the play state, the counters and the latch change, and no event is lost. -/
structure Tap.Plays (x y : Tap) : Prop where
  rest : y =
    { x with
      state := y.state, bound := y.bound, repeatSource := y.repeatSource, mode := y.mode, acc := y.acc, sinceLast := y.sinceLast,
      underrunRun := y.underrunRun, stalled := y.stalled, spliceOwed := y.spliceOwed, stepErrorOwed := y.stepErrorOwed,
      dropped := y.dropped, repeats := y.repeats, shed := y.shed, latch := y.latch }
  latch : LatchKept x y

theorem Tap.Plays.refl (x : Tap) : x.Plays x := ⟨rfl, .refl x⟩

theorem Tap.Plays.trans {x y z : Tap} (h : x.Plays y) (k : y.Plays z) : x.Plays z := by
  refine ⟨?_, h.latch.trans k.latch⟩
  have hz := k.rest
  rw [h.rest] at hz
  exact hz

/-- COUNT_HALF aside, a rise of a counter changes the counter alone. -/
theorem Tap.halfScale_latchKept (x : Tap) (n : Nat) : LatchKept x (x.halfScale n) := by
  unfold Tap.halfScale
  split
  · exact LatchKept.raise x .countHalf
  · exact LatchKept.refl x

theorem Tap.countDropped_eq (x : Tap) :
    x.countDropped = { x with dropped := min (x.dropped + 1) 65535, latch := x.countDropped.latch } := by
  unfold Tap.countDropped
  rw [Tap.halfScale_eq]
  rfl

theorem Tap.countRepeat_eq (x : Tap) :
    x.countRepeat = { x with repeats := min (x.repeats + 1) 65535, latch := x.countRepeat.latch } := by
  unfold Tap.countRepeat
  rw [Tap.halfScale_eq]
  rfl

theorem Tap.countShed_eq (x : Tap) : x.countShed = { x with shed := min (x.shed + 1) 65535, latch := x.countShed.latch } := by
  unfold Tap.countShed
  rw [Tap.halfScale_eq]
  rfl

theorem Tap.Plays.of_counts {x y : Tap} {d r n : Nat} {l : Word} (h : y = { x with dropped := d, repeats := r, shed := n, latch := l })
    (hlatch : LatchKept x y) : x.Plays y := by
  subst h
  exact ⟨rfl, hlatch⟩

theorem Tap.countDropped_latchKept (x : Tap) : LatchKept x x.countDropped :=
  Tap.halfScale_latchKept { x with dropped := bump Config.counterMax x.dropped } _

theorem Tap.countRepeat_latchKept (x : Tap) : LatchKept x x.countRepeat :=
  Tap.halfScale_latchKept { x with repeats := bump Config.counterMax x.repeats } _

theorem Tap.countShed_latchKept (x : Tap) : LatchKept x x.countShed := Tap.halfScale_latchKept { x with shed := bump Config.counterMax x.shed } _

theorem Tap.Plays.countDropped (x : Tap) : x.Plays x.countDropped := .of_counts x.countDropped_eq x.countDropped_latchKept

theorem Tap.Plays.countRepeat (x : Tap) : x.Plays x.countRepeat := .of_counts x.countRepeat_eq x.countRepeat_latchKept

theorem Tap.Plays.countShed (x : Tap) : x.Plays x.countShed := .of_counts x.countShed_eq x.countShed_latchKept

/-! ### Marks on the timeline -/

theorem State.timelineOrdered.pi_inj {s : State} (h : s.timelineOrdered) {a b : TimelineEntry} (ha : a ∈ s.timeline.entries)
    (hb : b ∈ s.timeline.entries) (hpi : a.pi = b.pi) : a = b := by
  obtain ⟨i, hi⟩ := List.getElem?_of_mem ha
  obtain ⟨j, hj⟩ := List.getElem?_of_mem hb
  obtain ⟨hilt, -⟩ := List.getElem?_eq_some_iff.mp hi
  obtain ⟨hjlt, -⟩ := List.getElem?_eq_some_iff.mp hj
  have hij := h.stepsBack hi
  rw [hpi, h.stepsBack hj] at hij
  have : i = j := by omega
  subst this
  exact Option.some.inj (hi.symm.trans hj)

theorem State.markedBy_pi (s : State) (i : Fin 4) (l : List TimelineEntry) (e : TimelineEntry) : (s.markedBy i l e).pi = e.pi := by
  unfold State.markedBy
  split <;> rfl

theorem State.markedBy_nil (s : State) (i : Fin 4) (e : TimelineEntry) : s.markedBy i [] e = e := if_neg List.not_mem_nil

theorem State.markedBy_of_mem {s : State} {i : Fin 4} {l : List TimelineEntry} {e : TimelineEntry} (h : e ∈ l) {d : Edit}
    (hd : s.dropFor i e.pi = some d) : s.markedBy i l e = e.mark i d.origin := by
  unfold State.markedBy
  rw [if_pos h, hd]
  rfl

theorem or_tapBit_of_hasTap {w : BitVec 4} {i : Fin 4} (h : hasTap w i = true) : w ||| tapBit i = w := by
  revert w i
  decide

theorem ne_zero_of_hasTap {w : BitVec 4} {i : Fin 4} (h : hasTap w i = true) : w ≠ 0#4 := by
  revert w i
  decide

/-- A mark of a tap that an entry bears already changes nothing. -/
theorem TimelineEntry.mark_of_hasTap {e : TimelineEntry} {i : Fin 4} (h : hasTap e.withheld i = true) (o : Origin) : e.mark i o = e := by
  unfold TimelineEntry.mark
  rw [or_tapBit_of_hasTap h, if_neg (ne_zero_of_hasTap h)]

theorem TimelineEntry.mark_hasTap (e : TimelineEntry) (i : Fin 4) (o : Origin) : hasTap (e.mark i o).withheld i = true :=
  (hasTap_or_tapBit ..).mpr (.inr rfl)

/-- What marking the entry at `x` for tap `i` makes of the entry `y`. -/
def State.markedAt (s : State) (i : Fin 4) (x : Word) (y : TimelineEntry) : TimelineEntry :=
  if y.pi = x then (s.dropFor i x).elim y fun d => y.mark i d.origin else y

theorem State.markWithheld_eq (s : State) (i : Fin 4) (x : Word) :
    s.markWithheld i x = { s with timeline := { s.timeline with entries := s.timeline.entries.map (s.markedAt i x) } } := by
  unfold State.markWithheld State.markedAt
  cases s.dropFor i x with
  | none =>
    show s = { s with timeline := { s.timeline with entries := s.timeline.entries.map fun y => if y.pi = x then y else y } }
    simp only [ite_self, List.map_id']
  | some d =>
    unfold State.modifyEntry
    simp only [beq_iff_eq]
    rfl

/-! ### Passing over entries -/

/-- `t` is `s` once tap `i` has passed over the entries `passed`, but for the tap's play state. -/
structure Moved (i : Fin 4) (s t : State) (passed : List TimelineEntry) : Prop where
  rest : t = { s with timeline := { s.timeline with entries := t.timeline.entries }, taps := t.taps }
  other : ∀ k, k ≠ i → t.tap k = s.tap k
  plays : (s.tap i).Plays (t.tap i)
  dropped : (s.tap i).dropped ≤ 65535 →
    (t.tap i).dropped = min ((s.tap i).dropped + (passed.filter fun e => !hasTap e.withheld i).length) 65535
  marks : s.timelineOrdered → (∀ e ∈ passed, e ∈ s.timeline.entries ∧ s.droppedFor i e.pi = true) →
    t.timeline.entries = s.timeline.entries.map (s.markedBy i passed)

theorem Moved.refl (i : Fin 4) (s : State) : Moved i s s [] where
  rest := rfl
  other := fun _ _ => rfl
  plays := .refl _
  dropped := fun h => (Nat.min_eq_left h).symm
  marks := fun _ _ => ((List.map_congr_left fun e _ => s.markedBy_nil i e).trans (List.map_id' _)).symm

section
variable {i : Fin 4} {s t : State} {passed : List TimelineEntry} (h : Moved i s t passed)
include h

theorem Moved.edits : t.edits = s.edits := by rw [h.rest]

theorem Moved.store : t.store = s.store := by rw [h.rest]

theorem Moved.pool : t.pool = s.pool := by rw [h.rest]

theorem Moved.quarantine : t.quarantine = s.quarantine := by rw [h.rest]

theorem Moved.dropFor (k : Fin 4) (x : Word) : t.dropFor k x = s.dropFor k x := by unfold State.dropFor; rw [h.edits]

theorem Moved.droppedFor (k : Fin 4) (x : Word) : t.droppedFor k x = s.droppedFor k x := by unfold State.droppedFor; rw [h.dropFor]

theorem Moved.maskedFor (k : Fin 4) (x : Word) : t.maskedFor k x = s.maskedFor k x := by
  unfold State.maskedFor
  rw [h.droppedFor, h.edits]

theorem Moved.settings (k : Fin 4) : t.settings k = s.settings k := by unfold State.settings; rw [h.store]

/-- A further change of the tap's play state. -/
theorem Moved.setTap {x : Tap} (hx : (t.tap i).Plays x) (hdropped : x.dropped = (t.tap i).dropped) : Moved i s (t.setTap i x) passed where
  rest := by
    show State.setTap _ _ _ = { s with timeline := { s.timeline with entries := t.timeline.entries }, taps := (t.setTap i x).taps }
    conv => lhs; rw [h.rest]
    rfl
  other := fun k hk => by rw [State.tap_setTap, if_neg hk, h.other k hk]
  plays := by rw [State.tap_setTap_same]; exact h.plays.trans hx
  dropped := fun hle => by rw [State.tap_setTap_same, hdropped, h.dropped hle]
  marks := h.marks

/-- One more entry is passed over. -/
theorem Moved.passOver (e : TimelineEntry) :
    Moved i s (State.passOver i t e) (passed ++ [e]) := by
  have hcount : (passed ++ [e]).filter (fun e => !hasTap e.withheld i) =
      passed.filter (fun e => !hasTap e.withheld i) ++ [e].filter fun e => !hasTap e.withheld i := List.filter_append ..
  have hsplit (hall : ∀ x ∈ passed ++ [e], x ∈ s.timeline.entries ∧ s.droppedFor i x.pi = true) :
      (∀ x ∈ passed, x ∈ s.timeline.entries ∧ s.droppedFor i x.pi = true) ∧ e ∈ s.timeline.entries ∧ s.droppedFor i e.pi = true :=
    ⟨fun x hx => hall x (List.mem_append_left _ hx), hall e (List.mem_append_right _ List.mem_cons_self)⟩
  cases hbit : hasTap e.withheld i with
  | true =>
    have hsame : State.passOver i t e = t := if_pos hbit
    rw [hsame]
    refine ⟨h.rest, h.other, h.plays, fun hle => ?_, fun hordered hall => ?_⟩
    · rw [h.dropped hle, hcount, List.filter_cons_of_neg (by rw [hbit]; decide), List.filter_nil, List.append_nil]
    · obtain ⟨hpassed, he, hdrop⟩ := hsplit hall
      rw [h.marks hordered hpassed]
      refine List.map_congr_left fun x hx => ?_
      by_cases hxe : x = e
      · subst hxe
        obtain ⟨d, hd⟩ := Option.isSome_iff_exists.mp hdrop
        rw [State.markedBy_of_mem (List.mem_append_right _ List.mem_cons_self) hd, TimelineEntry.mark_of_hasTap hbit]
        by_cases hmem : x ∈ passed
        · rw [State.markedBy_of_mem hmem hd, TimelineEntry.mark_of_hasTap hbit]
        · exact if_neg hmem
      · exact ite_congr_cond (by simp [hxe]) rfl rfl
  | false =>
    have hpass : State.passOver i t e = (t.markWithheld i e.pi).modifyTap i Tap.countDropped := if_neg (by rw [hbit]; decide)
    rw [hpass, State.markWithheld_eq]
    generalize hmarked : t.timeline.entries.map (t.markedAt i e.pi) = entries
    refine ⟨?_, fun k hk => ?_, ?_, fun hle => ?_, fun hordered hall => ?_⟩
    · show State.setTap { t with timeline := _ } _ _ = _
      conv => lhs; rw [h.rest]
      rfl
    · exact (State.tap_setTap t i k _).trans ((if_neg hk).trans (h.other k hk))
    · rw [State.tap_modifyTap_same]
      exact h.plays.trans (.countDropped _)
    · rw [State.tap_modifyTap_same, Tap.countDropped_eq]
      show min ((t.tap i).dropped + 1) 65535 = _
      rw [h.dropped hle, hcount, List.length_append, List.filter_cons_of_pos (by rw [hbit]; rfl)]
      simp only [List.filter_nil, List.length_cons, List.length_nil]
      omega
    · obtain ⟨hpassed, he, hdrop⟩ := hsplit hall
      obtain ⟨d, hd⟩ := Option.isSome_iff_exists.mp hdrop
      show entries = _
      rw [← hmarked, h.marks hordered hpassed, List.map_map]
      refine List.map_congr_left fun x hx => ?_
      rw [Function.comp_apply]
      unfold State.markedAt
      rw [State.markedBy_pi, h.dropFor, hd]
      by_cases hxe : x = e
      · subst hxe
        rw [if_pos rfl, State.markedBy_of_mem (List.mem_append_right _ List.mem_cons_self) hd]
        by_cases hmem : x ∈ passed
        · rw [State.markedBy_of_mem hmem hd]
          exact TimelineEntry.mark_of_hasTap (TimelineEntry.mark_hasTap ..) _
        · rw [show s.markedBy i passed x = x from if_neg hmem]
          rfl
      · rw [if_neg fun hpi => hxe (hordered.pi_inj hx he hpi)]
        exact ite_congr_cond (by simp [hxe]) rfl rfl

theorem Moved.foldl (l : List TimelineEntry) : Moved i s (l.foldl (State.passOver i) t) (passed ++ l) := by
  induction l generalizing t passed with
  | nil => rw [List.append_nil]; exact h
  | cons e l ih =>
    rw [List.foldl_cons, show passed ++ e :: l = (passed ++ [e]) ++ l by simp]
    exact ih (h.passOver e)

end

end Sys2Proof.Machine

/-! SUPPORT. The binding of a position: Table 44 for an entry, underruns, and the pacer's Table 47 (R113 to R119, R134 to R140). -/

namespace Sys2Proof.Machine

/-! ### Repeats and entries (R115 to R119) -/

theorem Tap.repeatBinding_op (x : Tap) (flags : ServedFlags) : (x.repeatBinding flags).op = x.op := by
  unfold Tap.repeatBinding
  split <;> rfl

theorem Tap.repeatBinding_outOfStep (x : Tap) (flags : ServedFlags) : (x.repeatBinding flags).flags.outOfStep = flags.outOfStep := by
  unfold Tap.repeatBinding
  split <;> rfl

theorem Tap.repeatBinding_kind (x : Tap) (flags : ServedFlags) : (x.repeatBinding flags).kind ≠ .program := by
  unfold Tap.repeatBinding
  split <;> exact nofun

/-- What serves the repeat source of a tap serves it for every tap with that source. -/
theorem Tap.repeatBinding_repeatsAs {x y : Tap} (flags : ServedFlags) (h : y.repeatSource = x.repeatSource) :
    x.repeatsAs flags (y.repeatBinding flags) := by
  unfold Tap.repeatsAs Tap.repeatBinding
  rw [h]
  cases x.repeatSource with
  | none => exact ⟨rfl, rfl, rfl, rfl, rfl, rfl, rfl, rfl, rfl, rfl⟩
  | some r => exact ⟨rfl, rfl, rfl, rfl, rfl, rfl, rfl, rfl, rfl, rfl⟩

/-- The tap that has bound the entry `e`, but for the repeat source and REPEATS. -/
def Tap.met (x : Tap) (e : TimelineEntry) : Tap := { x with bound := e.pi, spliceOwed := false, stepErrorOwed := false }

/-- The flags of an entry's binding that Table 44 does not add (R116, R118). -/
def Tap.metFlags (x : Tap) (e : TimelineEntry) (adjust passed : Bool) : ServedFlags :=
  { ServedFlags.none with
    adjust := adjust
    splice := passed || x.spliceOwed
    rough := (passed || x.spliceOwed) && !e.cutOk
    outOfStep := x.stepErrorOwed }

theorem splice_paid (passed owed : Bool) : (owed && !(passed || owed)) = false := by cases passed <;> cases owed <;> rfl

section
variable (s : State) (i : Fin 4) {e : TimelineEntry} (adjust passed : Bool)

theorem State.bindEntry_of_no_phys (h : e.phys = none) :
    s.bindEntry i e adjust passed =
      (s.setTap i ((s.tap i).met e).countRepeat, ((s.tap i).met e).repeatBinding { (s.tap i).metFlags e adjust passed with gap := true }) := by
  unfold State.bindEntry Tap.met
  rw [h]
  simp only [splice_paid]
  rfl

theorem State.bindEntry_of_refused {p : Nat} (h : e.phys = some p) (hfails : e.checkPass = some false)
    (hpolicy : s.store.config.checkPolicy = .repeatSource) :
    s.bindEntry i e adjust passed =
      (s.setTap i ((s.tap i).met e).countRepeat,
        ((s.tap i).met e).repeatBinding { (s.tap i).metFlags e adjust passed with checkFail := true }) := by
  unfold State.bindEntry Tap.met
  rw [h, hfails]
  dsimp only
  rw [if_pos ⟨rfl, hpolicy⟩]
  simp only [splice_paid]
  rfl

theorem State.bindEntry_of_served {p : Nat} (h : e.phys = some p)
    (hserved : ¬ (e.checkPass = some false ∧ s.store.config.checkPolicy = .repeatSource)) :
    s.bindEntry i e adjust passed =
      (s.setTap i { (s.tap i).met e with repeatSource := some (repeatOf e p (s.maskedFor i e.pi)) },
        ((s.tap i).met e).programBinding e p (s.maskedFor i e.pi)
          { (s.tap i).metFlags e adjust passed with checkFail := e.checkPass == some false }) := by
  unfold State.bindEntry Tap.met
  rw [h]
  dsimp only
  rw [if_neg fun hrefused => hserved ⟨beq_iff_eq.mp hrefused.1, hrefused.2⟩]
  simp only [splice_paid]
  rfl

/-- An entry is answered from the repeat source, or served as PROGRAM. -/
theorem State.bindEntry_cases (e : TimelineEntry) :
    (∃ flags, flags.outOfStep = (s.tap i).stepErrorOwed ∧
        s.bindEntry i e adjust passed = (s.setTap i ((s.tap i).met e).countRepeat, ((s.tap i).met e).repeatBinding flags)) ∨
      ∃ p, e.phys = some p ∧ ¬ (e.checkPass = some false ∧ s.store.config.checkPolicy = .repeatSource) ∧
        s.bindEntry i e adjust passed =
          (s.setTap i { (s.tap i).met e with repeatSource := some (repeatOf e p (s.maskedFor i e.pi)) },
            ((s.tap i).met e).programBinding e p (s.maskedFor i e.pi)
              { (s.tap i).metFlags e adjust passed with checkFail := e.checkPass == some false }) := by
  cases h : e.phys with
  | none => exact .inl ⟨_, rfl, s.bindEntry_of_no_phys i adjust passed h⟩
  | some p =>
    by_cases hrefused : e.checkPass = some false ∧ s.store.config.checkPolicy = .repeatSource
    · exact .inl ⟨_, rfl, s.bindEntry_of_refused i adjust passed h hrefused.1 hrefused.2⟩
    · exact .inr ⟨p, rfl, hrefused, s.bindEntry_of_served i adjust passed h hrefused⟩

end

/-! ### Positions -/

/-- Tap `i` of `s`, which stands at a new position, has got the binding `b` there and passed over `passed`, which makes `t`. -/
structure Bound (i : Fin 4) (s : State) (r : State × Binding) (passed : List TimelineEntry) : Prop extends Moved i s r.1 passed where
  op : r.2.op = (s.tap i).op
  outOfStep : r.2.flags.outOfStep = (s.tap i).stepErrorOwed
  paid : (r.1.tap i).stepErrorOwed = false

/-- The tap that the pacer hands on: in RUN, with the underrun run ended. -/
def Tap.paced (x : Tap) (mode : PacerMode) (acc since shed dropped : Nat) (latch : Word) : Tap :=
  { x with
    state := .run, mode := mode, underrunRun := 0, stalled := false, acc := acc, sinceLast := since, shed := shed, dropped := dropped,
    latch := latch }

section
variable {i : Fin 4} {s v : State} {passed : List TimelineEntry} (h : Moved i s v passed)
include h

theorem Bound.of_setTap {y : Tap} {b : Binding} (hy : (v.tap i).Plays y) (hdropped : y.dropped = (v.tap i).dropped)
    (hop : b.op = (s.tap i).op) (hout : b.flags.outOfStep = (s.tap i).stepErrorOwed) (hpaid : y.stepErrorOwed = false) :
    Bound i s (v.setTap i y, b) passed := ⟨h.setTap hy hdropped, hop, hout, by rw [State.tap_setTap_same]; exact hpaid⟩

/-- The binding of an entry. -/
theorem Bound.bindEntry (e : TimelineEntry) (adjust p : Bool) (hop : (v.tap i).op = (s.tap i).op)
    (howed : (v.tap i).stepErrorOwed = (s.tap i).stepErrorOwed) : Bound i s (v.bindEntry i e adjust p) passed := by
  have hmet : (v.tap i).Plays ((v.tap i).met e) := ⟨rfl, fun _ h => h⟩
  obtain ⟨flags, hflags, hbind⟩ | ⟨p', -, -, hbind⟩ := v.bindEntry_cases i adjust p e
  · rw [hbind]
    refine .of_setTap h (hmet.trans (.countRepeat _)) ?_ ?_ ?_ ?_
    · rw [Tap.countRepeat_eq]; rfl
    · rw [Tap.repeatBinding_op]; exact hop
    · rw [Tap.repeatBinding_outOfStep, hflags, howed]
    · rw [Tap.countRepeat_eq]; rfl
  · rw [hbind]
    exact .of_setTap h (hmet.trans ⟨rfl, fun _ h => h⟩) rfl hop howed rfl

end

theorem foldl_passOver_tap (i : Fin 4) (l : List TimelineEntry) (s : State) :
    ∃ dropped latch, (l.foldl (State.passOver i) s).tap i = { s.tap i with dropped := dropped, latch := latch } := by
  induction l generalizing s with
  | nil => exact ⟨(s.tap i).dropped, (s.tap i).latch, rfl⟩
  | cons e l ih =>
    have hstep : ∃ dropped latch, (State.passOver i s e).tap i = { s.tap i with dropped := dropped, latch := latch } := by
      unfold State.passOver
      split
      · exact ⟨(s.tap i).dropped, (s.tap i).latch, rfl⟩
      · rw [State.tap_modifyTap_same, State.markWithheld_eq, Tap.countDropped_eq]
        exact ⟨_, _, rfl⟩
    obtain ⟨d, l1, hd⟩ := hstep
    obtain ⟨d', l', hd'⟩ := ih (State.passOver i s e)
    rw [hd] at hd'
    exact ⟨d', l', hd'⟩

/-- A list cut before its first element without a property. -/
theorem span_of_first {α : Type} {p : α → Bool} {l after : List α} {a : α} (hl : ∀ b ∈ l, p b = true) (ha : p a = false) :
    (l ++ a :: after).dropWhile p = a :: after ∧ (l ++ a :: after).takeWhile p = l := by
  rw [List.dropWhile_append_of_pos hl, List.takeWhile_append_of_pos hl, List.dropWhile_cons_of_neg (Bool.eq_false_iff.mp ha),
    List.takeWhile_cons_of_neg (Bool.eq_false_iff.mp ha), List.append_nil]
  exact ⟨rfl, rfl⟩

/-! ### An advance of a tap that runs, or that is at its target (R113, R114) -/

/-- Tap `i` runs, or it is primed: its d has reached Dt. -/
def State.runs (s : State) (i : Fin 4) : Prop := (s.tap i).state = .run ∨ ((s.tap i).state = .priming ∧ (s.tap i).dt ≤ s.delay i)

/-- The state with tap `i` in RUN. -/
def State.setRunning (s : State) (i : Fin 4) : State := s.setTap i { s.tap i with state := .run }

section
variable {s : State} {i : Fin 4} (hruns : s.runs i)
include hruns

theorem State.runs.active : (s.tap i).active = true := by
  rw [Tap.active_iff]
  obtain h | ⟨h, -⟩ := hruns
  · rw [h]; decide
  · rw [h]; decide

theorem State.runs.delay_setRunning : (s.setRunning i).delay i = s.delay i := by
  unfold State.delay
  rw [if_pos hruns.active, if_pos (by unfold State.setRunning; rw [State.tap_setTap_same]; rfl)]
  unfold State.setRunning
  rw [State.tap_setTap_same]
  rfl

theorem State.bindPosition_of_runs : s.bindPosition i = (s.setRunning i).bindRun i := by
  unfold State.bindPosition
  dsimp only
  obtain h | ⟨h, hdelay⟩ := hruns
  · have hsame : s.setRunning i = s := by
      unfold State.setRunning
      rw [← h]
      exact s.setTap_self i
    rw [h, hsame]
  · rw [h]
    exact if_neg (Nat.not_lt.mpr hdelay)

theorem State.bindPosition_of_empty (hahead : ∀ e ∈ s.above (s.tap i).bound, s.droppedFor i e.pi = true) :
    s.bindPosition i = ((s.above (s.tap i).bound).foldl (State.passOver i) (s.setRunning i)).bindUnderrun i := by
  have habove : (s.setRunning i).above ((s.setRunning i).tap i).bound = s.above (s.tap i).bound := by
    unfold State.setRunning
    rw [State.tap_setTap_same]
    rfl
  have hnone : (s.above (s.tap i).bound).dropWhile (fun e => (s.setRunning i).droppedFor i e.pi) = [] := dropWhile_of_forall hahead
  have hall : (s.above (s.tap i).bound).takeWhile (fun e => (s.setRunning i).droppedFor i e.pi) = s.above (s.tap i).bound :=
    takeWhile_of_forall hahead
  rw [State.bindPosition_of_runs hruns]
  unfold State.bindRun
  dsimp only
  rw [habove, hnone, hall]

theorem State.bindPosition_of_candidate {passed after : List TimelineEntry} {c : TimelineEntry}
    (hahead : s.above (s.tap i).bound = passed ++ c :: after) (hpassed : ∀ e ∈ passed, s.droppedFor i e.pi = true)
    (hc : s.droppedFor i c.pi = false) :
    s.bindPosition i =
      (passed.foldl (State.passOver i) (s.setRunning i)).bindPaced i (paceMode (s.delay i) (s.tap i).dt) c after (!passed.isEmpty) := by
  have htap : (s.setRunning i).tap i = { s.tap i with state := .run } := State.tap_setTap_same ..
  have habove : (s.setRunning i).above ((s.setRunning i).tap i).bound = passed ++ c :: after := by rw [htap]; exact hahead
  have hsame : (s.setRunning i).droppedFor = s.droppedFor := rfl
  obtain ⟨hdrop, htake⟩ := span_of_first (p := fun e : TimelineEntry => s.droppedFor i e.pi) (after := after) hpassed hc
  rw [State.bindPosition_of_runs hruns]
  unfold State.bindRun
  dsimp only
  rw [habove, hsame, hdrop, htake, hruns.delay_setRunning, htap]

end

end Sys2Proof.Machine

/-! SUPPORT. The pacer's decision at an advance with a candidate (Table 47; R116, R134 to R139). -/

namespace Sys2Proof.Machine

/-! ### Table 47 -/

theorem paceMode_of_eq (d : Nat) : paceMode d d = .steady := by
  unfold paceMode
  rw [if_neg (Nat.lt_irrefl _), if_neg (Nat.lt_irrefl _)]

theorem paceMode_of_lt {d dt : Nat} (h : d < dt) : paceMode d dt = .build := if_pos h

theorem paceMode_of_gt {d dt : Nat} (h : dt < d) : paceMode d dt = .shed := by
  unfold paceMode
  rw [if_neg (Nat.not_lt.mpr (Nat.le_of_lt h)), if_pos h]

/-- An adjustment is due. -/
def TapSettings.due (w : TapSettings) (x : Tap) : Prop := w.p ≤ x.acc + w.k ∧ w.g ≤ x.sinceLast

/-- The tap when no adjustment is made. -/
def Tap.heldAt (x : Tap) (mode : PacerMode) (w : TapSettings) : Tap :=
  { x with
    mode := mode, underrunRun := 0, stalled := false, acc := min (x.acc + w.k) w.p, sinceLast := bump Config.countMax x.sinceLast }

/-- The tap when an adjustment is made. -/
def Tap.adjusted (x : Tap) (mode : PacerMode) (w : TapSettings) : Tap :=
  { x with mode := mode, underrunRun := 0, stalled := false, acc := x.acc + w.k - w.p, sinceLast := 0 }

theorem due_eq_true {w : TapSettings} {x : Tap} (h : w.due x) : (decide (w.p ≤ x.acc + w.k) && decide (w.g ≤ x.sinceLast)) = true := by
  rw [Bool.and_eq_true, decide_eq_true_iff, decide_eq_true_iff]
  exact h

theorem due_eq_false {w : TapSettings} {x : Tap} (h : ¬ w.due x) : (decide (w.p ≤ x.acc + w.k) && decide (w.g ≤ x.sinceLast)) = false := by
  rw [← Bool.not_eq_true, Bool.and_eq_true, decide_eq_true_iff, decide_eq_true_iff]
  exact h

section
variable {v : State} {i : Fin 4} {x : Tap} (htap : v.tap i = x) (c : TimelineEntry) (after : List TimelineEntry) (p : Bool)
include htap

theorem State.bindPaced_steady :
    v.bindPaced i .steady c after p =
      (v.setTap i { x with mode := .steady, underrunRun := 0, stalled := false, acc := 0, sinceLast := min (x.sinceLast + 1) 255 }).bindEntry
        i c false p := by
  subst htap
  rfl

theorem State.bindPaced_insert (hdue : (v.settings i).due x) (hsource : x.repeatSource ≠ none) :
    v.bindPaced i .build c after p =
      (v.setTap i { x.adjusted .build (v.settings i) with stepErrorOwed := false }.countRepeat,
        x.repeatBinding { ServedFlags.none with adjust := true, outOfStep := x.stepErrorOwed }) := by
  subst htap
  unfold State.bindPaced
  dsimp only
  rw [due_eq_true hdue, Option.isSome_iff_ne_none.mpr hsource]
  rfl

theorem State.bindPaced_build (hnot : ¬ ((v.settings i).due x ∧ x.repeatSource ≠ none)) :
    v.bindPaced i .build c after p = (v.setTap i (x.heldAt .build (v.settings i))).bindEntry i c false p := by
  subst htap
  have hno : ((decide ((v.settings i).p ≤ (v.tap i).acc + (v.settings i).k) && decide ((v.settings i).g ≤ (v.tap i).sinceLast)) &&
      (v.tap i).repeatSource.isSome) = false := by
    by_cases hdue : (v.settings i).due (v.tap i)
    · rw [Option.isSome_eq_false_iff.mpr (Option.isNone_iff_eq_none.mpr (Classical.not_not.mp fun h => hnot ⟨hdue, h⟩)), Bool.and_false]
    · rw [due_eq_false hdue, Bool.false_and]
  unfold State.bindPaced
  dsimp only
  rw [hno]
  rfl

theorem State.bindPaced_shed (hdue : (v.settings i).due x) {between : List TimelineEntry} {c2 : TimelineEntry}
    (hcut : v.shedTarget i after = some (between, c2)) :
    v.bindPaced i .shed c after p =
      (between.foldl (State.passOver i) (v.setTap i (x.adjusted .shed (v.settings i)).countShed)).bindEntry i c2 true
        (p || !between.isEmpty) := by
  subst htap
  unfold State.bindPaced
  dsimp only
  rw [due_eq_true hdue, if_pos rfl, hcut]
  rfl

theorem State.bindPaced_unshed (hnot : (v.settings i).due x → v.shedTarget i after = none) :
    v.bindPaced i .shed c after p = (v.setTap i (x.heldAt .shed (v.settings i))).bindEntry i c false p := by
  subst htap
  unfold State.bindPaced
  dsimp only
  by_cases hdue : (v.settings i).due (v.tap i)
  · rw [due_eq_true hdue, if_pos rfl, hnot hdue]
    rfl
  · rw [due_eq_false hdue, if_neg Bool.false_ne_true]
    rfl

end

/-- The cut point that a SHED would bind: the first entry after the candidate that is not dropped. -/
structure State.ShedsTo (s : State) (i : Fin 4) (after between : List TimelineEntry) (c2 : TimelineEntry) : Prop where
  found : ∃ rest, after = between ++ c2 :: rest
  between : ∀ e ∈ between, s.droppedFor i e.pi = true
  undropped : s.droppedFor i c2.pi = false
  cutOk : c2.cutOk = true

theorem State.shedTarget_iff (s : State) (i : Fin 4) (after between : List TimelineEntry) (c2 : TimelineEntry) :
    s.shedTarget i after = some (between, c2) ↔ s.ShedsTo i after between c2 := by
  constructor
  · intro h
    unfold State.shedTarget at h
    split at h
    · cases h
    · next e rest hdrop =>
      rw [Option.ite_none_right_eq_some] at h
      obtain ⟨hcut, h⟩ := h
      cases h
      obtain ⟨hne, hfirst⟩ : ∃ hne, (after.dropWhile fun e => s.droppedFor i e.pi).head hne = c2 := ⟨by rw [hdrop]; exact nofun, by simp [hdrop]⟩
      refine ⟨⟨rest, ?_⟩, fun e he => of_mem_takeWhile (p := fun e : TimelineEntry => s.droppedFor i e.pi) he, ?_, hcut⟩
      · rw [← hdrop, List.takeWhile_append_dropWhile]
      · rw [← hfirst]
        exact List.head_dropWhile_not (fun e : TimelineEntry => s.droppedFor i e.pi) hne
  · rintro ⟨⟨rest, rfl⟩, hbetween, hundropped, hcut⟩
    obtain ⟨hdrop, htake⟩ := span_of_first (p := fun e : TimelineEntry => s.droppedFor i e.pi) (after := rest) hbetween hundropped
    unfold State.shedTarget
    rw [hdrop, htake]
    exact if_pos hcut

theorem State.setTap_setTap (s : State) (i : Fin 4) (x y : Tap) : (s.setTap i x).setTap i y = s.setTap i y := by
  have htaps : (s.taps.set i x).set i y = s.taps.set i y := PerTap.ext_get fun k => by
    rw [PerTap.get_set, PerTap.get_set, PerTap.get_set]
    split <;> rfl
  exact congrArg (fun v => ({ s with taps := v } : State)) htaps

/-- `Moved` with the pacer's mark on the tap: its mode, its accumulator, the advances since the last adjustment and SHED. -/
structure Paced (i : Fin 4) (s t : State) (passed : List TimelineEntry) (mode : PacerMode) (acc since shed : Nat) : Prop
    extends Moved i s t passed where
  tap : ∃ dropped latch, t.tap i = (s.tap i).paced mode acc since shed dropped latch

theorem Paced.foldl {i : Fin 4} {s t : State} {passed : List TimelineEntry} {mode : PacerMode} {acc since shed : Nat}
    (h : Paced i s t passed mode acc since shed) (l : List TimelineEntry) :
    Paced i s (l.foldl (State.passOver i) t) (passed ++ l) mode acc since shed := by
  obtain ⟨d, w, htap⟩ := h.tap
  obtain ⟨d', w', htap'⟩ := foldl_passOver_tap i l t
  rw [htap] at htap'
  exact ⟨h.toMoved.foldl l, d', w', htap'⟩

section
variable {s : State} {i : Fin 4}

/-- The state that the pacer finds: the tap in RUN, the entries before the candidate passed over. -/
theorem State.readied (s : State) (i : Fin 4) (passed : List TimelineEntry) :
    Moved i s (passed.foldl (State.passOver i) (s.setRunning i)) passed ∧
      ∃ dropped latch,
        (passed.foldl (State.passOver i) (s.setRunning i)).tap i = { s.tap i with state := .run, dropped := dropped, latch := latch } := by
  have hrun : (s.tap i).Plays { s.tap i with state := .run } := ⟨rfl, fun _ h => h⟩
  refine ⟨((Moved.refl i s).setTap hrun rfl).foldl passed, ?_⟩
  obtain ⟨d, w, htap⟩ := foldl_passOver_tap i passed (s.setRunning i)
  rw [show (s.setRunning i).tap i = { s.tap i with state := .run } from State.tap_setTap_same ..] at htap
  exact ⟨d, w, htap⟩

/-- The pacer's mark is put on the tap. -/
theorem Moved.paced {t : State} {passed : List TimelineEntry} (h : Moved i s t passed) {d : Nat} {w : Word}
    (htap : t.tap i = { s.tap i with state := .run, dropped := d, latch := w }) (mode : PacerMode) (acc since shed : Nat) {w' : Word}
    (hlatch : ∀ n, w.getLsbD n = true → w'.getLsbD n = true) :
    Paced i s (t.setTap i ((s.tap i).paced mode acc since shed d w')) passed mode acc since shed := by
  refine ⟨h.setTap ?_ (by rw [htap]; rfl), d, w', State.tap_setTap_same ..⟩
  rw [htap]
  exact ⟨rfl, hlatch⟩

variable (hruns : s.runs i) {passed after : List TimelineEntry} {c : TimelineEntry}
  (hahead : s.above (s.tap i).bound = passed ++ c :: after) (hpassed : ∀ e ∈ passed, s.droppedFor i e.pi = true)
  (hc : s.droppedFor i c.pi = false)
include hruns hahead hpassed hc

/-- STEADY binds the candidate and empties the accumulator. -/
theorem State.bindPosition_of_steady (hd : s.delay i = (s.tap i).dt) :
    ∃ v, Paced i s v passed .steady 0 (min ((s.tap i).sinceLast + 1) 255) (s.tap i).shed ∧
      s.bindPosition i = v.bindEntry i c false (!passed.isEmpty) := by
  obtain ⟨hmoved, d, w, htap⟩ := s.readied i passed
  refine ⟨_, hmoved.paced htap .steady 0 (min ((s.tap i).sinceLast + 1) 255) (s.tap i).shed fun _ h => h, ?_⟩
  rw [State.bindPosition_of_candidate hruns hahead hpassed hc, hd]
  rw [paceMode_of_eq, State.bindPaced_steady htap]
  rfl

/-- A due INSERT repeats. -/
theorem State.bindPosition_of_insert (hd : s.delay i < (s.tap i).dt) (hdue : (s.settings i).due (s.tap i))
    (hsource : (s.tap i).repeatSource ≠ none) :
    ∃ v, Paced i s v passed .build ((s.tap i).acc + (s.settings i).k - (s.settings i).p) 0 (s.tap i).shed ∧
      s.bindPosition i =
        (v.setTap i { v.tap i with stepErrorOwed := false }.countRepeat,
          (s.tap i).repeatBinding { ServedFlags.none with adjust := true, outOfStep := (s.tap i).stepErrorOwed }) := by
  obtain ⟨hmoved, d, w, htap⟩ := s.readied i passed
  refine ⟨_, hmoved.paced htap .build ((s.tap i).acc + (s.settings i).k - (s.settings i).p) 0 (s.tap i).shed fun _ h => h, ?_⟩
  rw [State.bindPosition_of_candidate hruns hahead hpassed hc, paceMode_of_lt hd,
    State.bindPaced_insert htap c after _ (by rw [hmoved.settings]; exact hdue) hsource, State.tap_setTap_same, State.setTap_setTap,
    hmoved.settings]
  rfl

/-- A BUILD advance without a due INSERT binds the candidate. -/
theorem State.bindPosition_of_build (hd : s.delay i < (s.tap i).dt)
    (hnot : ¬ ((s.settings i).due (s.tap i) ∧ (s.tap i).repeatSource ≠ none)) :
    ∃ v, Paced i s v passed .build (min ((s.tap i).acc + (s.settings i).k) (s.settings i).p) (min ((s.tap i).sinceLast + 1) 255)
        (s.tap i).shed ∧
      s.bindPosition i = v.bindEntry i c false (!passed.isEmpty) := by
  obtain ⟨hmoved, d, w, htap⟩ := s.readied i passed
  refine ⟨_, hmoved.paced htap .build (min ((s.tap i).acc + (s.settings i).k) (s.settings i).p) (min ((s.tap i).sinceLast + 1) 255)
    (s.tap i).shed fun _ h => h, ?_⟩
  rw [State.bindPosition_of_candidate hruns hahead hpassed hc, paceMode_of_lt hd,
    State.bindPaced_build htap c after _ (by rw [hmoved.settings]; exact hnot), hmoved.settings]
  rfl

/-- A due SHED passes over the candidate and binds the cut point after it. -/
theorem State.bindPosition_of_shed (hd : (s.tap i).dt < s.delay i) (hdue : (s.settings i).due (s.tap i))
    {between : List TimelineEntry} {c2 : TimelineEntry} (hcut : s.ShedsTo i after between c2) :
    ∃ v, Paced i s v (passed ++ between) .shed ((s.tap i).acc + (s.settings i).k - (s.settings i).p) 0 (min ((s.tap i).shed + 1) 65535) ∧
      s.bindPosition i = v.bindEntry i c2 true (!(passed ++ between).isEmpty) := by
  obtain ⟨hmoved, d, w, htap⟩ := s.readied i passed
  generalize hv : passed.foldl (State.passOver i) (s.setRunning i) = v at hmoved htap
  have hcut' : v.shedTarget i after = some (between, c2) := by
    have hsame : v.droppedFor i = s.droppedFor i := funext (hmoved.droppedFor i)
    rw [← s.shedTarget_iff] at hcut
    unfold State.shedTarget at hcut ⊢
    rw [hsame]
    exact hcut
  have hlatch := Tap.countShed_latchKept (({ s.tap i with state := .run, dropped := d, latch := w } : Tap).adjusted .shed (s.settings i))
  have hpaced := hmoved.paced htap .shed ((s.tap i).acc + (s.settings i).k - (s.settings i).p) 0 (min ((s.tap i).shed + 1) 65535) hlatch
  have hempty : (!(passed ++ between).isEmpty) = (!passed.isEmpty || !between.isEmpty) := by cases passed <;> rfl
  refine ⟨_, hpaced.foldl between, ?_⟩
  rw [State.bindPosition_of_candidate hruns hahead hpassed hc, paceMode_of_gt hd, hv,
    State.bindPaced_shed htap c after _ (by rw [hmoved.settings]; exact hdue) hcut', hmoved.settings, Tap.countShed_eq, hempty]
  rfl

/-- A SHED advance without a due SHED or without a cut point binds the candidate. -/
theorem State.bindPosition_of_unshed (hd : (s.tap i).dt < s.delay i)
    (hnot : ¬ ((s.settings i).due (s.tap i) ∧ ∃ between c2, s.ShedsTo i after between c2)) :
    ∃ v, Paced i s v passed .shed (min ((s.tap i).acc + (s.settings i).k) (s.settings i).p) (min ((s.tap i).sinceLast + 1) 255)
        (s.tap i).shed ∧
      s.bindPosition i = v.bindEntry i c false (!passed.isEmpty) := by
  obtain ⟨hmoved, d, w, htap⟩ := s.readied i passed
  generalize hv : passed.foldl (State.passOver i) (s.setRunning i) = v at hmoved htap
  have hnone (hdue : (v.settings i).due { s.tap i with state := .run, dropped := d, latch := w }) : v.shedTarget i after = none := by
    rw [hmoved.settings] at hdue
    refine Option.eq_none_iff_forall_ne_some.mpr fun r hr => hnot ⟨hdue, r.1, r.2, ?_⟩
    have hsame : v.droppedFor i = s.droppedFor i := funext (hmoved.droppedFor i)
    rw [← s.shedTarget_iff]
    unfold State.shedTarget at hr ⊢
    rw [hsame] at hr
    exact hr
  refine ⟨_, hmoved.paced htap .shed (min ((s.tap i).acc + (s.settings i).k) (s.settings i).p) (min ((s.tap i).sinceLast + 1) 255)
    (s.tap i).shed fun _ h => h, ?_⟩
  rw [State.bindPosition_of_candidate hruns hahead hpassed hc, paceMode_of_gt hd, hv, State.bindPaced_unshed htap c after _ hnone,
    hmoved.settings]
  rfl

end

end Sys2Proof.Machine

/-! SUPPORT. The references that an advance moves (R47, R119, R121) and the advance as a step of the machine (R111, R120, R122, R172). -/

namespace Sys2Proof.Machine

/-! ### Pins -/

theorem Rehomes.handOver {Q : Nat → Prop} (s : State) (p : Nat) (r : Option SegmentRecord) (hQ : ∀ p, Q p) : Rehomes Q s (s.handOver p r) := by
  unfold State.handOver
  split
  · exact .freeSeg s (hQ _)
  · exact .ite (.freeSeg s (hQ _)) (.offer _ s (hQ _))

/-- From `s` to `t` every segment's count of pins changes by `f`, and of the segment records else only states and departure records. -/
structure Repins (f : Nat → Nat → Nat) (s t : State) : Prop where
  core : ∀ p, (t.seg? p).map Segment.core = (s.seg? p).map fun g => ({ g with pins := f p g.pins }).core
  unheld : (∀ p g, s.seg? p = some g → g.state ≠ .held) →
    t = { s with pool := { s.pool with segs := t.pool.segs } } ∧ ∀ p, t.seg? p = (s.seg? p).map fun g => { g with pins := f p g.pins }

theorem Segment.core_pins {g g' : Segment} (h : g'.core = g.core) (n : Nat) : ({ g' with pins := n }).core = ({ g with pins := n }).core := by
  unfold Segment.core at *
  injection h
  simp [*]

theorem Segment.core_pins_eq {g g' : Segment} (h : g'.core = g.core) : g'.pins = g.pins :=
  show g'.core.pins = g.core.pins by rw [h]

theorem Repins.trans {f k : Nat → Nat → Nat} {s t u : State} (h : Repins f s t) (h' : Repins k t u) :
    Repins (fun p n => k p (f p n)) s u where
  core := fun p => by
    rw [h'.core]
    have hst := h.core p
    cases hs : s.seg? p with
    | none =>
      rw [hs, Option.map_none, Option.map_eq_none_iff] at hst
      rw [hst]
      rfl
    | some g =>
      rw [hs, Option.map_some, Option.map_eq_some_iff] at hst
      obtain ⟨g', ht, hcore⟩ := hst
      rw [ht]
      simp only [Option.map_some, Option.some.injEq]
      rw [Segment.core_pins_eq hcore, Segment.core_pins hcore]
  unheld := fun hs => by
    obtain ⟨hst, hseg⟩ := h.unheld hs
    obtain ⟨htu, hseg'⟩ := h'.unheld fun p g hg => by
      rw [hseg, Option.map_eq_some_iff] at hg
      obtain ⟨g0, hg0, rfl⟩ := hg
      exact hs p g0 hg0
    refine ⟨?_, fun p => ?_⟩
    · rw [htu, hst]
    · rw [hseg', hseg, Option.map_map]
      rfl

theorem Repins.refl (s : State) : Repins (fun _ n => n) s s where
  core := fun _ => rfl
  unheld := fun _ => ⟨rfl, fun _ => Option.map_id'.symm⟩

theorem Repins.congr {f k : Nat → Nat → Nat} {s t : State} (h : Repins f s t) (hf : ∀ p n, f p n = k p n) : Repins k s t :=
  (funext fun p => funext (hf p) : f = k) ▸ h

/-- The number of references to segment `p` in `o`. -/
def refers (o : Option Nat) (p : Nat) : Nat := if o = some p then 1 else 0

theorem Repins.modifySeg (s : State) (p : Nat) (f : Nat → Nat) :
    Repins (fun q n => if p = q then f n else n) s (s.modifySeg p fun g => { g with pins := f g.pins }) := by
  have hseg (q : Nat) : (s.modifySeg p fun g => { g with pins := f g.pins }).seg? q =
      (s.seg? q).map fun g => { g with pins := if p = q then f g.pins else g.pins } := by
    rw [State.seg_modifySeg]
    split
    · rfl
    · exact Option.map_id'.symm
  exact ⟨fun q => by rw [hseg, Option.map_map]; rfl, fun _ => ⟨rfl, hseg⟩⟩

theorem Repins.pinOpt (s : State) (o : Option Nat) : Repins (fun p n => n + refers o p) s (s.pinOpt o) := by
  cases o with
  | none => exact .refl s
  | some p =>
    refine (Repins.modifySeg s p (· + 1)).congr fun q n => ?_
    unfold refers
    simp only [Option.some.injEq]
    split <;> rfl

theorem Repins.unpinOpt (s : State) (o : Option Nat) : Repins (fun p n => n - refers o p) s (s.unpinOpt o) := by
  cases o with
  | none => exact .refl s
  | some p =>
    have hless := (Repins.modifySeg s p (· - 1)).congr (k := fun q n => n - refers (some p) q) fun q n => by
      unfold refers
      simp only [Option.some.injEq]
      split <;> rfl
    show Repins _ s (s.unpin p)
    unfold State.unpin
    split
    · next hnone =>
      have hsame : (s.modifySeg p fun g => { g with pins := g.pins - 1 }) = s := by
        unfold State.modifySeg
        rw [List.modify_eq_self (List.getElem?_eq_none_iff.mp hnone)]
      rwa [hsame] at hless
    · next g hg =>
      split
      · next hheld =>
        have hover := Rehomes.handOver (Q := fun _ => True) (s.modifySeg p fun g => { g with pins := g.pins - 1 }) p g.departure fun _ => trivial
        exact ⟨fun q => (hover.core q).trans (hless.core q), fun hs => absurd hheld.1 (hs p g hg)⟩
      · exact hless

/-- The references that an advance takes and drops. -/
theorem Repins.movePins (s : State) (b : Binding) (previous : Option SlotBinding) (before after : Option RepeatSource) :
    Repins
      (fun p n =>
        n + (refers b.phys p + if b.kind = .program then refers (after.map (·.phys)) p else 0) -
          (refers (previous.bind (·.binding.phys)) p + if b.kind = .program then refers (before.map (·.phys)) p else 0))
      s (s.movePins b previous before after) := by
  unfold State.movePins
  by_cases hkind : b.kind = .program
  · simp only [if_pos hkind]
    refine ((((Repins.pinOpt s b.phys).trans (.pinOpt _ (after.map (·.phys)))).trans
      (.unpinOpt _ (previous.bind (·.binding.phys)))).trans (.unpinOpt _ (before.map (·.phys)))).congr fun p n => ?_
    rw [Nat.add_assoc, Nat.sub_sub]
  · simp only [if_neg hkind]
    exact ((Repins.pinOpt s b.phys).trans (.unpinOpt _ (previous.bind (·.binding.phys)))).congr fun p n => rfl

theorem Tap.pinsTaken_eq (u : Tap) (b : Binding) (p : Nat) :
    u.pinsTaken b p = refers b.phys p + if b.kind = .program then refers (u.repeatSource.map (·.phys)) p else 0 := by
  unfold Tap.pinsTaken refers
  rw [ite_of_and]

theorem Tap.pinsDropped_eq (x : Tap) (b : Binding) (p : Nat) :
    x.pinsDropped b p =
      refers (x.previous.bind (·.binding.phys)) p + if b.kind = .program then refers (x.repeatSource.map (·.phys)) p else 0 := by
  unfold Tap.pinsDropped refers
  rw [ite_of_and]

theorem Frees.movePins (s : State) (b : Binding) (previous : Option SlotBinding) (before after : Option RepeatSource) :
    Frees s (s.movePins b previous before after) := by
  unfold State.movePins
  have hpinned : Frees s (if b.kind = .program then (s.pinOpt b.phys).pinOpt (after.map (·.phys)) else s.pinOpt b.phys) :=
    .ite ((Frees.pinOpt ..).trans (.pinOpt ..)) (.pinOpt ..)
  have hdropped := hpinned.trans (.unpinOpt _ (previous.bind (·.binding.phys)))
  exact .ite (hdropped.trans (.unpinOpt ..)) hdropped

/-! ### The advance (R111, R120) -/

/-- Tap `i` at its next position, without a binding yet. -/
def State.stepped (s : State) (i : Fin 4) : State :=
  s.setTap i { s.tap i with previous := (s.tap i).current, current := none, op := (s.tap i).op + 1#32 }

/-- An advance up to the floor test: the tap binds its position and moves its references. -/
def State.bound (s : State) (i : Fin 4) : State :=
  ((s.stepped i).bindPosition i).1.movePins ((s.stepped i).bindPosition i).2 (s.tap i).previous (s.tap i).repeatSource
    (((s.stepped i).bindPosition i).1.tap i).repeatSource

/-- The binding of an advance with its header. -/
def State.advanced (s : State) (i : Fin 4) : Binding :=
  { ((s.stepped i).bindPosition i).2 with header := (s.bound i).settle.servedHeader i ((s.stepped i).bindPosition i).2 }

theorem State.advance_eq (s : State) (i : Fin 4) (j : Nat) :
    s.advance i j =
      (s.bound i).settle.setTap i { (s.bound i).settle.tap i with current := some ⟨j, s.advanced i⟩, latch := 0#32, report := none } := rfl

theorem State.serveCurrent_of_some {s : State} {i : Fin 4} {sb : SlotBinding} (h : (s.tap i).current = some sb) (g : Geometry)
    (r : LinkRequest) (off : Nat) :
    s.serveCurrent g r i off =
      (s.setTap i { s.tap i with current := some (sb.readArrives r.tag off r.length) }).servePlan r.tag g
        (s.bindingPlan sb.binding off r.length) (tapUse r.tag i) := by
  unfold State.serveCurrent
  rw [h]
  rfl

/-- The state after an advance whose read under `tag` asks for `len` bytes. -/
def State.served (s : State) (i : Fin 4) (sb : SlotBinding) (tag : Fin 64) (g : Geometry) (plan : FillPlan) : State :=
  (((s.bound i).settle.setTap i
    { (s.bound i).settle.tap i with current := some sb, latch := 0#32, report := none }).servePlan tag g plan (tapUse tag i)).refreshTally

theorem exec_tapReadArrival_of_advance {s : State} {tag : Fin 64} {g : Geometry} {f : InFlight} {i : Fin 4} {j : Nat}
    (hwaits : s.tapReadWaits tag g f i j 0) (hactive : (s.tap i).active = true)
    (hcurrent : ∀ b, (s.tap i).current = some b → b.slot ≠ j) (hprevious : ∀ b, (s.tap i).previous = some b → b.slot ≠ j) :
    exec (.tapReadArrival tag) s =
      .next (s.served i ((⟨j, s.advanced i⟩ : SlotBinding).readArrives tag 0 f.req.length) tag g
        ((s.bound i).settle.bindingPlan (s.advanced i) 0 f.req.length)) := by
  have hkind : (s.tap i).classifyRead j 0 = .advance :=
    (Tap.classifyRead_of_elsewhere 0 hactive hcurrent hprevious).trans (if_pos rfl)
  rw [exec_tapReadArrival_of_waits hwaits, State.tapRead, hkind]
  dsimp only
  rw [State.advance_eq, State.serveCurrent_of_some (sb := ⟨j, s.advanced i⟩) (by rw [State.tap_setTap_same]), State.tap_setTap_same,
    State.tag_of_tapReadWaits hwaits, State.setTap_setTap]
  rfl

end Sys2Proof.Machine

/-! SUPPORT. What an advance leaves, as its obligations say it: the tap, the others, the marks and pins, and the plan of its read
(R47, R68, R71, R111, R114, R122). -/

namespace Sys2Proof.Machine

/-! ### The binding once its read has arrived -/

/-- The binding of an advance once the read of `len` bytes that made it has arrived. -/
def Binding.opened (b : Binding) (header : List Byte) (tag : Fin 64) (len : Nat) : Binding :=
  ({ b with header := header }).readArrives tag 0 len

section
variable (b : Binding) (header : List Byte) (tag : Fin 64) (len : Nat)

theorem Binding.opened_slot (j : Nat) :
    (⟨j, { b with header := header }⟩ : SlotBinding).readArrives tag 0 len = ⟨j, b.opened header tag len⟩ := rfl

theorem Binding.opened_eq : b.opened header tag len = { b with header := header, readback := (b.opened header tag len).readback } :=
  congrArg SlotBinding.binding (SlotBinding.readArrives_eq ⟨0, { b with header := header }⟩ tag 0 len)

theorem Binding.opened_of_none (h : b.readback.state = .none) : (b.opened header tag len).readback = b.readback := by
  have hstays := SlotBinding.readArrives_of_none (sb := ⟨0, { b with header := header }⟩) tag (o := 0) (len := len)
    (.inr (by rw [h]; decide))
  rw [Binding.opened_slot] at hstays
  exact congrArg (fun sb : SlotBinding => sb.binding.readback) hstays

/-- The read that makes an eligible binding begins its check. -/
theorem Binding.opened_of_start (h : b.readback = .start) :
    (b.opened header tag len).readback.state = .expecting ∧
      (b.opened header tag len).readback.next = max 64 (min len (64 + b.la + b.lv)) ∧
      (b.opened header tag len).readback.running = 0xFFFFFFFF#32 := by
  have hexpecting : b.readback.state = .expecting := by rw [h]; rfl
  by_cases hrun : 64 < min len (64 + b.la + b.lv)
  · obtain ⟨hstate, hnext, hrunning⟩ := (SlotBinding.readArrives_of_expecting (sb := ⟨0, { b with header := header }⟩) tag (o := 0) (len := len)
      (by rw [Nat.zero_add]; exact hrun) hexpecting).1 (by rw [h]; rfl)
    rw [Binding.opened_slot] at hstate hnext hrunning
    refine ⟨hstate, hnext.trans ?_, hrunning.trans ?_⟩
    · rw [Nat.zero_add, Nat.max_eq_right (Nat.le_of_lt hrun)]
    · rw [h]
      rfl
  · have hstays := SlotBinding.readArrives_of_none (sb := ⟨0, { b with header := header }⟩) tag (o := 0) (len := len)
      (.inl (by rw [Nat.zero_add]; exact Nat.not_lt.mp hrun))
    rw [Binding.opened_slot] at hstays
    have hreadback : (b.opened header tag len).readback = .start :=
      (congrArg (fun sb : SlotBinding => sb.binding.readback) hstays).trans h
    rw [hreadback, Nat.max_eq_left (Nat.not_lt.mp hrun)]
    exact ⟨rfl, rfl, rfl⟩

theorem Tap.repeatsAs_opened {x : Tap} {flags : ServedFlags} (h : x.repeatsAs flags b) : x.repeatsAs flags (b.opened header tag len) := by
  have hnone : b.readback.state = .none := by
    unfold Tap.repeatsAs at h
    split at h
    · obtain ⟨-, -, -, -, -, -, -, -, -, hreadback⟩ := h
      exact hreadback
    · obtain ⟨-, -, -, -, -, -, -, -, -, hreadback⟩ := h
      exact hreadback
  rw [Binding.opened_eq, Binding.opened_of_none _ _ _ _ hnone]
  unfold Tap.repeatsAs at *
  exact h

end

/-! ### The state after the read of an advance -/

section
variable (s : State) (i : Fin 4) (sb : SlotBinding) (tag : Fin 64) (g : Geometry) (plan : FillPlan)

theorem State.served_eq :
    s.served i sb tag g plan =
      State.refreshTally
        { (s.bound i).settle with
          link := (s.served i sb tag g plan).link
          pool := (s.served i sb tag g plan).pool
          taps := (s.bound i).settle.taps.set i { (s.bound i).settle.tap i with current := some sb, latch := 0#32, report := none } } := by
  unfold State.served
  rw [State.servePlan_eq]
  rfl

theorem State.served_rest :
    (s.served i sb tag g plan).timeline = (s.bound i).settle.timeline ∧ (s.served i sb tag g plan).edits = (s.bound i).settle.edits ∧
      (s.served i sb tag g plan).quarantine = (s.bound i).settle.quarantine ∧
      (s.served i sb tag g plan).capture = (s.bound i).settle.capture ∧
      (s.served i sb tag g plan).guardStep = (s.bound i).settle.guardStep := by
  rw [State.served_eq]
  exact ⟨rfl, rfl, rfl, rfl, rfl⟩

theorem State.tap_served (k : Fin 4) :
    (s.served i sb tag g plan).tap k =
      if k = i then { (s.bound i).settle.tap i with current := some sb, latch := 0#32, report := none } else (s.bound i).settle.tap k := by
  rw [State.served_eq]
  exact PerTap.get_set ..

theorem State.seg?_served (p : Nat) :
    (s.served i sb tag g plan).seg? p =
      ((s.bound i).settle.seg? p).map fun q => { q with outstanding := q.outstanding + plan.readsOn p } := State.seg?_servePlan ..

end

section
variable {s : State} {i : Fin 4} {passed : List TimelineEntry}

theorem State.bound_frees (s : State) (i : Fin 4) : Frees ((s.stepped i).bindPosition i).1 (s.bound i) := .movePins ..

theorem State.bound_settles (s : State) (i : Fin 4) : Eased ((s.stepped i).bindPosition i).1 (s.bound i).settle :=
  (s.bound_frees i).toEased.trans (.settle _)

theorem State.bound_interior (s : State) (i : Fin 4) : Interior s (s.bound i).settle :=
  (((Interior.setTap s i _).trans (.bindPosition _ i)).trans (.movePins ..)).trans (.settle _)

theorem State.tap_stepped (s : State) (i : Fin 4) :
    (s.stepped i).tap i = { s.tap i with previous := (s.tap i).current, current := none, op := (s.tap i).op + 1#32 } :=
  State.tap_setTap_same ..

/-- The tap after its advance. -/
theorem State.tap_served_self (s : State) (i : Fin 4) (sb : SlotBinding) (tag : Fin 64) (g : Geometry) (plan : FillPlan) :
    ∃ dt flag, (s.served i sb tag g plan).tap i =
      { ((s.stepped i).bindPosition i).1.tap i with current := some sb, latch := 0#32, report := none, dt := dt, clampFlag := flag } := by
  rw [State.tap_served, if_pos rfl, (s.bound_settles i).tap i]
  exact ⟨_, _, rfl⟩

/-- Every other tap after the advance. -/
theorem State.tap_served_other (h : Moved i (s.stepped i) ((s.stepped i).bindPosition i).1 passed) {k : Fin 4} (hk : k ≠ i)
    (sb : SlotBinding) (tag : Fin 64) (g : Geometry) (plan : FillPlan) :
    ∃ dt flag latch, (s.served i sb tag g plan).tap k = { s.tap k with dt := dt, clampFlag := flag, latch := latch } := by
  rw [State.tap_served, if_neg hk, (s.bound_settles i).tap k, h.other k hk,
    show (s.stepped i).tap k = s.tap k from (State.tap_setTap ..).trans (if_neg hk)]
  exact ⟨_, _, _, rfl⟩

/-- What the advance passed over, marked and counted, the pins that it moved, and the floor test after it. -/
theorem State.passes_served (h : Moved i (s.stepped i) ((s.stepped i).bindPosition i).1 passed)
    (hpassed : ∀ e ∈ passed, e ∈ s.timeline.entries ∧ s.droppedFor i e.pi = true) (sb : SlotBinding) (tag : Fin 64) (g : Geometry)
    (plan : FillPlan) {b : Binding} (hphys : b.phys = ((s.stepped i).bindPosition i).2.phys)
    (hkind : b.kind = ((s.stepped i).bindPosition i).2.kind) : s.passes (s.served i sb tag g plan) i b passed := by
  obtain ⟨htimeline, hedits, hquarantine, -, -⟩ := s.served_rest i sb tag g plan
  obtain ⟨dt, flag, htap⟩ := s.tap_served_self i sb tag g plan
  have hfrees := s.bound_frees i
  have hstepped : (s.stepped i).droppedFor = s.droppedFor := rfl
  have hnext : ((s.stepped i).bindPosition i).1.timeline =
      { s.timeline with entries := ((s.stepped i).bindPosition i).1.timeline.entries } := congrArg State.timeline h.rest
  refine ⟨fun hle => ?_, fun hordered => ⟨s.bound i, ?_, hfrees.edits.trans h.edits, fun k => ?_, fun hheld => ?_, htimeline, hedits, hquarantine⟩⟩
  · have hdropped := h.dropped (by rw [State.tap_stepped]; exact hle)
    rw [State.tap_stepped] at hdropped
    rw [htap]
    exact hdropped
  · rw [hfrees.timeline, hnext, h.marks (hordered.congr rfl) hpassed]
    rfl
  · have hsettle := (Eased.settle (s.bound i)).tap k
    rw [State.tap_served]
    split
    · next hk =>
      subst hk
      rw [hsettle]
      exact ⟨rfl, rfl⟩
    · rw [hsettle]
      exact ⟨rfl, rfl⟩
  · have hpool := h.pool
    have hrest := h.rest
    generalize hr : (s.stepped i).bindPosition i = r at *
    have hseg (p : Nat) : r.1.seg? p = s.seg? p := by
      unfold State.seg?
      rw [hpool]
      rfl
    obtain ⟨hrepinned, hpins⟩ := (Repins.movePins r.1 r.2 (s.tap i).previous (s.tap i).repeatSource (r.1.tap i).repeatSource).unheld
      fun p g hg => hheld g (List.mem_of_getElem? ((hseg p).symm.trans hg))
    have hbound : s.bound i = r.1.movePins r.2 (s.tap i).previous (s.tap i).repeatSource (r.1.tap i).repeatSource := by
      unfold State.bound
      rw [hr]
    rw [hbound]
    refine ⟨?_, ?_, fun p => ?_⟩
    · rw [hrepinned, hrest]
      rfl
    · rw [hrepinned, hrest]
      rfl
    · rw [hpins, hseg, htap]
      refine congrArg (fun f => Option.map f _) (funext fun q => ?_)
      rw [Tap.pinsTaken_eq, Tap.pinsDropped_eq, hphys, hkind]

end

end Sys2Proof.Machine

/-! SUPPORT. The position that an advance binds, case by case, and what is served as PROGRAM (R82, R111, R114, R117). -/

namespace Sys2Proof.Machine

/-! ### The cases of an advance -/

/-- An advance with a candidate binds an entry, or repeats by a due INSERT. -/
inductive State.Decides (s : State) (i : Fin 4) (r : State × Binding) : Prop
  | entry (v : State) (y : TimelineEntry) (adjust : Bool) (skipped : List TimelineEntry) (mode : PacerMode) (acc since shed : Nat)
      (paced : Paced i s v skipped mode acc since shed) (above : y ∈ s.above (s.tap i).bound) (undropped : s.droppedFor i y.pi = false)
      (skips : ∀ e ∈ skipped, e ∈ s.timeline.entries ∧ s.droppedFor i e.pi = true)
      (bound : r = v.bindEntry i y adjust (!skipped.isEmpty))
  | insert (v : State) (skipped : List TimelineEntry) (mode : PacerMode) (acc since shed : Nat)
      (paced : Paced i s v skipped mode acc since shed)
      (skips : ∀ e ∈ skipped, e ∈ s.timeline.entries ∧ s.droppedFor i e.pi = true)
      (bound : r = (v.setTap i { v.tap i with stepErrorOwed := false }.countRepeat,
        (s.tap i).repeatBinding { ServedFlags.none with adjust := true, outOfStep := (s.tap i).stepErrorOwed }))

theorem State.mem_of_above {s : State} {x : Word} {e : TimelineEntry} (h : e ∈ s.above x) :
    e ∈ s.timeline.entries ∧ serialLt x e.pi = true := List.mem_filter.mp h

section
variable {s : State} {i : Fin 4} (hruns : s.runs i) {passed after : List TimelineEntry} {c : TimelineEntry}
  (hahead : s.above (s.tap i).bound = passed ++ c :: after) (hpassed : ∀ e ∈ passed, s.droppedFor i e.pi = true)
  (hc : s.droppedFor i c.pi = false)
include hruns hahead hpassed hc

theorem State.bindPosition_decides : s.Decides i (s.bindPosition i) := by
  have hmem (l : List TimelineEntry) (hl : ∀ e ∈ l, e ∈ passed ++ c :: after ∧ s.droppedFor i e.pi = true) :
      ∀ e ∈ l, e ∈ s.timeline.entries ∧ s.droppedFor i e.pi = true := fun e he =>
    ⟨(State.mem_of_above (hahead ▸ (hl e he).1)).1, (hl e he).2⟩
  have hskips := hmem passed fun e he => ⟨List.mem_append_left _ he, hpassed e he⟩
  have habove : c ∈ s.above (s.tap i).bound := by rw [hahead]; exact List.mem_append_right _ List.mem_cons_self
  rcases Nat.lt_trichotomy (s.delay i) (s.tap i).dt with hd | hd | hd
  · by_cases hdue : (s.settings i).due (s.tap i) ∧ (s.tap i).repeatSource ≠ none
    · obtain ⟨v, hpaced, hbound⟩ := State.bindPosition_of_insert hruns hahead hpassed hc hd hdue.1 hdue.2
      exact .insert v passed _ _ _ _ hpaced hskips hbound
    · obtain ⟨v, hpaced, hbound⟩ := State.bindPosition_of_build hruns hahead hpassed hc hd hdue
      exact .entry v c false passed _ _ _ _ hpaced habove hc hskips hbound
  · obtain ⟨v, hpaced, hbound⟩ := State.bindPosition_of_steady hruns hahead hpassed hc hd
    exact .entry v c false passed _ _ _ _ hpaced habove hc hskips hbound
  · by_cases hdue : (s.settings i).due (s.tap i) ∧ ∃ between c2, s.ShedsTo i after between c2
    · obtain ⟨hdue, between, c2, hcut⟩ := hdue
      obtain ⟨v, hpaced, hbound⟩ := State.bindPosition_of_shed hruns hahead hpassed hc hd hdue hcut
      obtain ⟨⟨rest, rfl⟩, hbetween, hundropped, -⟩ := hcut
      refine .entry v c2 true (passed ++ between) _ _ _ _ hpaced ?_ hundropped (hmem _ fun e he => ?_) hbound
      · rw [hahead]
        simp
      · obtain he | he := List.mem_append.mp he
        · exact ⟨List.mem_append_left _ he, hpassed e he⟩
        · exact ⟨by simp [he], hbetween e he⟩
    · obtain ⟨v, hpaced, hbound⟩ := State.bindPosition_of_unshed hruns hahead hpassed hc hd hdue
      exact .entry v c false passed _ _ _ _ hpaced habove hc hskips hbound

end

/-- The search from a bound finds a candidate, or nothing that is not dropped. -/
theorem State.search_cases (s : State) (i : Fin 4) (l : List TimelineEntry) :
    (∀ e ∈ l, s.droppedFor i e.pi = true) ∨
      ∃ passed c after, l = passed ++ c :: after ∧ (∀ e ∈ passed, s.droppedFor i e.pi = true) ∧ s.droppedFor i c.pi = false := by
  induction l with
  | nil => exact .inl fun _ h => absurd h List.not_mem_nil
  | cons e l ih =>
    cases he : s.droppedFor i e.pi with
    | false => exact .inr ⟨[], e, l, rfl, fun _ h => absurd h List.not_mem_nil, he⟩
    | true =>
      obtain hall | ⟨passed, c, after, rfl, hpassed, hc⟩ := ih
      · exact .inl (List.forall_mem_cons.mpr ⟨he, hall⟩)
      · exact .inr ⟨e :: passed, c, after, rfl, List.forall_mem_cons.mpr ⟨he, hpassed⟩, hc⟩

/-! ### Underruns and primed taps (R113, R115) -/

/-- The binding and the tap of an underrun. -/
theorem State.bindUnderrun_binding (s : State) (i : Fin 4) :
    (s.bindUnderrun i).2 = (s.tap i).repeatBinding { ServedFlags.none with underrun := true, outOfStep := (s.tap i).stepErrorOwed } := rfl

/-- A PRIMING tap below its target gets FILL. -/
theorem State.bindPosition_of_priming {s : State} {i : Fin 4} (h : (s.tap i).state = .priming) (hd : s.delay i < (s.tap i).dt) :
    s.bindPosition i =
      (s.setTap i { s.tap i with mode := .build, stepErrorOwed := false },
        .fill (s.tap i).op { ServedFlags.none with outOfStep := (s.tap i).stepErrorOwed }) := by
  unfold State.bindPosition
  dsimp only
  rw [h]
  exact if_pos hd

theorem State.priming_or_runs {s : State} {i : Fin 4} (h : (s.tap i).active = true) :
    ((s.tap i).state = .priming ∧ s.delay i < (s.tap i).dt) ∨ s.runs i := by
  rw [Tap.active_iff] at h
  cases hstate : (s.tap i).state with
  | off => exact absurd hstate h
  | run => exact .inr (.inl hstate)
  | priming =>
    by_cases hd : s.delay i < (s.tap i).dt
    · exact .inl ⟨rfl, hd⟩
    · exact .inr (.inr ⟨hstate, Nat.not_lt.mp hd⟩)

/-! ### PROGRAM (R117) -/

/-- What is served as PROGRAM is an entry of the timeline above the bound that no DROP for the tap covers. -/
theorem State.bindPosition_program {s : State} {i : Fin 4} (hactive : (s.tap i).active = true) (hkind : (s.bindPosition i).2.kind = .program) :
    ∃ (v : State) (y : TimelineEntry) (adjust p : Bool) (skipped : List TimelineEntry) (mode : PacerMode) (acc since shed phys : Nat),
      Paced i s v skipped mode acc since shed ∧ y ∈ s.above (s.tap i).bound ∧ s.droppedFor i y.pi = false ∧ y.phys = some phys ∧
        ¬ (y.checkPass = some false ∧ s.store.config.checkPolicy = .repeatSource) ∧
        s.bindPosition i =
          (v.setTap i { (v.tap i).met y with repeatSource := some (repeatOf y phys (v.maskedFor i y.pi)) },
            ((v.tap i).met y).programBinding y phys (v.maskedFor i y.pi)
              { (v.tap i).metFlags y adjust p with checkFail := y.checkPass == some false }) := by
  obtain ⟨hstate, hd⟩ | hruns := State.priming_or_runs hactive
  · rw [State.bindPosition_of_priming hstate hd] at hkind
    cases hkind
  obtain hall | ⟨passed, c, after, hahead, hpassed, hc⟩ := s.search_cases i (s.above (s.tap i).bound)
  · rw [State.bindPosition_of_empty hruns hall, State.bindUnderrun_binding] at hkind
    exact (Tap.repeatBinding_kind _ _ hkind).elim
  cases State.bindPosition_decides hruns hahead hpassed hc with
  | insert v skipped mode acc since shed paced skips bound =>
    rw [bound] at hkind
    exact (Tap.repeatBinding_kind _ _ hkind).elim
  | entry v y adjust skipped mode acc since shed paced above undropped skips bound =>
    obtain ⟨flags, -, hbind⟩ | ⟨phys, hphys, hserved, hbind⟩ := v.bindEntry_cases i adjust (!skipped.isEmpty) y
    · rw [bound, hbind] at hkind
      exact (Tap.repeatBinding_kind _ _ hkind).elim
    · refine ⟨v, y, adjust, !skipped.isEmpty, skipped, mode, acc, since, shed, phys, paced, above, undropped, hphys, ?_, bound.trans hbind⟩
      rw [← paced.store]
      exact hserved

/-- Settles O46: the position's binding, opened by its read, and the tap as the advance leaves it. -/
theorem programIsUndroppedAndAboveTheBound : Obligations.ProgramIsUndroppedAndAboveTheBound := by
  intro s t tag g f i j sb hwaits hactive hcurrent hprevious hexec hsb hkind
  rw [exec_tapReadArrival_of_advance hwaits hactive hcurrent hprevious] at hexec
  cases hexec
  obtain ⟨dt, flag, htap⟩ := s.tap_served_self i ((⟨j, s.advanced i⟩ : SlotBinding).readArrives tag 0 f.req.length) tag g
    ((s.bound i).settle.bindingPlan (s.advanced i) 0 f.req.length)
  rw [htap] at hsb ⊢
  obtain rfl := Option.some.inj hsb
  have hopened : ((⟨j, s.advanced i⟩ : SlotBinding).readArrives tag 0 f.req.length).binding =
      { ((s.stepped i).bindPosition i).2 with
        header := (s.advanced i).header
        readback := ((⟨j, s.advanced i⟩ : SlotBinding).readArrives tag 0 f.req.length).binding.readback } :=
    Binding.opened_eq ((s.stepped i).bindPosition i).2 _ tag f.req.length
  rw [hopened] at hkind
  rw [hopened]
  obtain ⟨v, y, adjust, p, skipped, mode, acc, since, shed, phys, hpaced, habove, hundropped, hphys, hserved, hbind⟩ :=
    State.bindPosition_program (s := s.stepped i) (i := i) (by rw [State.tap_stepped]; exact hactive) hkind
  obtain ⟨d, w, hv⟩ := hpaced.tap
  obtain ⟨hentry, hlt⟩ := State.mem_of_above habove
  rw [State.tap_stepped] at hlt
  have hmasked : v.maskedFor i y.pi = s.maskedFor i y.pi := hpaced.maskedFor i y.pi
  rw [hbind, hmasked, State.tap_setTap_same, hv]
  refine ⟨y, hentry, hlt, hundropped, rfl, rfl, hphys.symm, by rw [hphys]; exact nofun, rfl, rfl, rfl, rfl, rfl, rfl, rfl, fun hfails => ?_⟩
  constructor
  · cases hpolicy : s.store.config.checkPolicy with
    | serve => rfl
    | repeatSource => exact absurd ⟨hfails, hpolicy⟩ hserved
  · show (y.checkPass == some false) = true
    rw [hfails]
    rfl

end Sys2Proof.Machine

/-! SUPPORT. The header of a served position (Table 13; R21, R22, R120, R172) and underruns (R115, R134, R140). -/

namespace Sys2Proof.Machine

/-! ### The served header -/

/-- A refusal report as the header shows it: its code, its result and its SEQ. -/
def shownReport (r : Option RefusalReport) : Nat × Nat × Nat := r.elim (0, 0, 0) fun r => (r.code.toNat, r.result.value, r.seq.toNat)

/-- The chunks of a served header. -/
def State.headerChunks (s : State) (i : Fin 4) (b : Binding) : List (List Byte) :=
  [outMark, toLE 4 b.op.toNat, toLE 4 (b.srcSeq.getD 0#32).toNat, toLE 4 (b.srcPi.getD 0#32).toNat, toLE 1 b.kind.value,
    toLE 1 b.flags.value, toLE 1 ((s.tap i).state.value + 4 * (s.tap i).mode.value), toLE 1 i.val, toLE 4 b.la, toLE 4 b.lv,
    toLE 4 (if b.masked || b.kind == .fill then 0 else b.check.toNat), toLE 4 (s.delay i), toLE 4 (s.tap i).dt,
    toLE 4 (s.tap i).latch.toNat, toLE 2 (s.tap i).dropped, toLE 2 (s.tap i).repeats, toLE 2 (s.tap i).shed, toLE 2 (s.tap i).stepErrors,
    toLE 2 s.quarantine.records.length, toLE 1 s.quarantine.lock.value, toLE 1 s.edits.length, toLE 1 (shownReport (s.tap i).report).1,
    toLE 1 (shownReport (s.tap i).report).2.1, toLE 1 (s.tap i).executed, toLE 1 s.pool.patternFailures,
    toLE 4 (shownReport (s.tap i).report).2.2]

theorem State.servedHeader_eq (s : State) (i : Fin 4) (b : Binding) : s.servedHeader i b = (s.headerChunks i b ++ []).flatten := by
  unfold State.servedHeader State.statusBytes State.headerChunks shownReport
  dsimp only
  cases (s.tap i).report with
  | none => simp only [List.append_assoc, List.flatten_cons, List.flatten_nil, List.append_nil, Option.elim_none]
  | some r => simp only [List.append_assoc, List.flatten_cons, List.flatten_nil, List.append_nil, Option.elim_some]

/-- The lengths of those chunks. -/
def headerLengths : List Nat := [4, 4, 4, 4, 1, 1, 1, 1, 4, 4, 4, 4, 4, 4, 2, 2, 2, 2, 2, 1, 1, 1, 1, 1, 1, 4]

theorem State.headerChunks_lengths (s : State) (i : Fin 4) (b : Binding) : (s.headerChunks i b).map List.length = headerLengths := by
  simp only [State.headerChunks, headerLengths, List.map_cons, List.map_nil, toLE_length]
  rfl

section
variable (s : State) (i : Fin 4) (b : Binding)

theorem State.servedHeader_length : (s.servedHeader i b).length = 64 := by
  rw [State.servedHeader_eq, List.append_nil, List.length_flatten, State.headerChunks_lengths]
  rfl

theorem State.servedHeader_field_mod {k off n v : Nat} (hc : (s.headerChunks i b)[k]? = some (toLE n v))
    (hoff : (headerLengths.take k).sum = off) : field (s.servedHeader i b) off n = v % 256 ^ n := by
  rw [State.servedHeader_eq, field_chunk hc (by rw [State.headerChunks_lengths]; exact hoff)]

theorem State.servedHeader_field {k off n v : Nat} (hc : (s.headerChunks i b)[k]? = some (toLE n v))
    (hoff : (headerLengths.take k).sum = off) (hv : v < 256 ^ n) : field (s.servedHeader i b) off n = v := by
  rw [s.servedHeader_field_mod i b hc hoff, Nat.mod_eq_of_lt hv]

theorem State.servedHeader_latch : field (s.servedHeader i b) 40 4 = (s.tap i).latch.toNat :=
  s.servedHeader_field i b (k := 13) rfl rfl (s.tap i).latch.isLt

end

/-! ### Underruns -/

/-- The tap of an underrun before REPEATS rises. -/
def Tap.starved (x : Tap) (limit : Nat) : Tap :=
  let n := min (x.underrunRun + 1) 255
  let low : Word := if x.underrunRun = 0 then 1#32 else 0#32
  let stall : Word := if limit ≤ n ∧ x.stalled = false then 2#32 else 0#32
  { x with
    underrunRun := n
    mode := if 0 < x.dt then .build else .steady
    sinceLast := min (x.sinceLast + 1) 255
    stepErrorOwed := false
    stalled := x.stalled || decide (limit ≤ n)
    latch := x.latch ||| low ||| stall }

theorem Tap.raise_ite (x : Tap) (p : Prop) [Decidable p] (e : Event) :
    (if p then x.raise e else x) = { x with latch := x.latch ||| (if p then 1#32 <<< e.bit else 0#32) } := by
  split
  · rfl
  · rw [BitVec.or_zero]

theorem Tap.stall_ite (x : Tap) (p : Prop) [Decidable p] :
    (if p ∧ (!x.stalled) = true then ({ x with stalled := true } : Tap).raise .captureStall else x) =
      { x with stalled := x.stalled || decide p, latch := x.latch ||| (if p ∧ x.stalled = false then 2#32 else 0#32) } := by
  cases hstalled : x.stalled with
  | true =>
    have hno : ¬ (p ∧ true = false) := fun h => Bool.noConfusion h.2
    rw [if_neg (by simp), if_neg hno, BitVec.or_zero, Bool.true_or, ← hstalled]
  | false =>
    by_cases hp : p
    · rw [if_pos ⟨hp, rfl⟩, if_pos ⟨hp, rfl⟩, decide_eq_true hp]
      rfl
    · rw [if_neg fun h => hp h.1, if_neg fun h => hp h.1, decide_eq_false hp, BitVec.or_zero, Bool.false_or, ← hstalled]

theorem State.bindUnderrun_tap (s : State) (i : Fin 4) :
    (s.bindUnderrun i).1 = s.setTap i ((s.tap i).starved s.store.config.stallLimit).countRepeat := by
  unfold State.bindUnderrun
  dsimp only
  rw [Tap.raise_ite]
  refine congrArg (fun y : Tap => s.setTap i y.countRepeat) ?_
  exact Tap.stall_ite
    { s.tap i with
      underrunRun := min ((s.tap i).underrunRun + 1) 255
      mode := if 0 < (s.tap i).dt then .build else .steady
      sinceLast := min ((s.tap i).sinceLast + 1) 255
      stepErrorOwed := false
      latch := (s.tap i).latch ||| (if (s.tap i).underrunRun = 0 then 1#32 else 0#32) }
    (s.store.config.stallLimit ≤ min ((s.tap i).underrunRun + 1) 255)

theorem Tap.starved_latchKept (x : Tap) (limit : Nat) : LatchKept x (x.starved limit) := fun n hn => by
  show (x.latch ||| _ ||| _).getLsbD n = true
  rw [BitVec.getLsbD_or, BitVec.getLsbD_or, hn]
  rfl

/-- An underrun that begins a run latches UNDERRUN. -/
theorem Tap.starved_underrun {x : Tap} (limit : Nat) (h : x.underrunRun = 0) : (x.starved limit).latch.getLsbD 0 = true := by
  show (x.latch ||| (if x.underrunRun = 0 then 1#32 else 0#32) ||| _).getLsbD 0 = true
  rw [BitVec.getLsbD_or, BitVec.getLsbD_or, if_pos h, show (1#32).getLsbD 0 = true from rfl, Bool.or_true, Bool.true_or]

/-- An underrun at the stall limit latches CAPTURE_STALL. -/
theorem Tap.starved_stalls {x : Tap} {limit : Nat} (hno : x.stalled = false) (hlimit : limit ≤ min (x.underrunRun + 1) 255) :
    (x.starved limit).latch.getLsbD 1 = true := by
  show (_ ||| (if limit ≤ min (x.underrunRun + 1) 255 ∧ x.stalled = false then 2#32 else 0#32)).getLsbD 1 = true
  have hyes : limit ≤ min (x.underrunRun + 1) 255 ∧ x.stalled = false := ⟨hlimit, hno⟩
  rw [BitVec.getLsbD_or, if_pos hyes, show (2#32).getLsbD 1 = true from rfl, Bool.or_true]

theorem Tap.Plays.starved (x : Tap) (limit : Nat) : x.Plays (x.starved limit) := ⟨rfl, x.starved_latchKept limit⟩

/-! ### The advance of a tap below its target, and of one that finds nothing to play -/

theorem State.delay_stepped (s : State) (i : Fin 4) : (s.stepped i).delay i = s.delay i := by
  unfold State.delay
  rw [State.tap_stepped]
  rfl

theorem State.above_stepped (s : State) (i : Fin 4) : (s.stepped i).above ((s.stepped i).tap i).bound = s.above (s.tap i).bound := by
  rw [State.tap_stepped]
  rfl

theorem State.runs_stepped {s : State} {i : Fin 4} (h : s.runs i) : (s.stepped i).runs i := by
  unfold State.runs
  rw [State.delay_stepped, State.tap_stepped]
  exact h

/-- What the tap has latched at its position stands in the header. -/
theorem State.advanced_latch (s : State) (i : Fin 4) {n : Nat}
    (h : (((s.stepped i).bindPosition i).1.tap i).latch.getLsbD n = true) : (field (s.advanced i).header 40 4).testBit n = true := by
  have hfield : field (s.advanced i).header 40 4 = ((s.bound i).settle.tap i).latch.toNat := State.servedHeader_latch ..
  rw [hfield]
  exact (s.bound_settles i).latch i n h

/-- The binding of an advance once its read has arrived. -/
theorem State.advanced_opened (s : State) (i : Fin 4) (j : Nat) (tag : Fin 64) (len : Nat) :
    ((⟨j, s.advanced i⟩ : SlotBinding).readArrives tag 0 len).binding =
      { ((s.stepped i).bindPosition i).2 with
        header := (s.advanced i).header
        readback := ((⟨j, s.advanced i⟩ : SlotBinding).readArrives tag 0 len).binding.readback } :=
  Binding.opened_eq ((s.stepped i).bindPosition i).2 _ tag len

/-- The state after the underrun of tap `i`. -/
theorem State.bindPosition_underruns {s : State} {i : Fin 4} (hruns : s.runs i)
    (hall : ∀ e ∈ s.above (s.tap i).bound, s.droppedFor i e.pi = true) :
    ∃ dropped latch, LatchKept (({ s.tap i with state := .run, dropped := dropped, latch := latch } : Tap).starved s.store.config.stallLimit)
        ((s.bindPosition i).1.tap i) ∧
      Moved i s (s.bindPosition i).1 (s.above (s.tap i).bound) ∧
      (s.bindPosition i).2 = (s.tap i).repeatBinding { ServedFlags.none with underrun := true, outOfStep := (s.tap i).stepErrorOwed } ∧
      (s.bindPosition i).1.tap i =
        { ({ s.tap i with state := .run, dropped := dropped, latch := latch } : Tap).starved s.store.config.stallLimit with
          repeats := min ((s.tap i).repeats + 1) 65535
          latch := ((s.bindPosition i).1.tap i).latch } := by
  obtain ⟨hmoved, d, w, htap⟩ := s.readied i (s.above (s.tap i).bound)
  have hstarved (x : Tap) (limit : Nat) : x.Plays (x.starved limit).countRepeat := (Tap.Plays.starved x limit).trans (.countRepeat _)
  have hsame (x : Tap) (limit : Nat) : (x.starved limit).countRepeat.dropped = x.dropped := by
    rw [Tap.countRepeat_eq]
    rfl
  rw [State.bindPosition_of_empty hruns hall, State.bindUnderrun_tap, State.bindUnderrun_binding, State.tap_setTap_same, hmoved.store]
  refine ⟨d, w, ?_, hmoved.setTap (hstarved ..) (hsame ..), ?_, ?_⟩
  · rw [htap]
    exact Tap.countRepeat_latchKept _
  · rw [htap]
    rfl
  · rw [htap]
    exact Tap.countRepeat_eq _

/-- Settles O45: the tap is primed, or its search ends at the live edge. -/
theorem primingFillsAndEmptySearchesUnderrun : Obligations.PrimingFillsAndEmptySearchesUnderrun := by
  intro s tag g f i j hwaits hcurrent hprevious x
  refine ⟨fun ⟨hstate, hd⟩ => ?_, fun hruns hall => ?_⟩
  · have hactive : (s.tap i).active = true := by
      rw [Tap.active_iff, hstate]
      decide
    obtain ⟨dt, flag, htap⟩ := s.tap_served_self i ((⟨j, s.advanced i⟩ : SlotBinding).readArrives tag 0 f.req.length) tag g
      ((s.bound i).settle.bindingPlan (s.advanced i) 0 f.req.length)
    refine ⟨_, _, exec_tapReadArrival_of_advance hwaits hactive hcurrent hprevious, by rw [htap], ?_⟩
    rw [htap, State.advanced_opened,
      State.bindPosition_of_priming (s := s.stepped i) (i := i) (by rw [State.tap_stepped]; exact hstate)
        (by rw [State.delay_stepped, State.tap_stepped]; exact hd), State.tap_setTap_same, State.tap_stepped]
    exact ⟨rfl, rfl, rfl, hstate, rfl, rfl, rfl, rfl, rfl, rfl, rfl, rfl⟩
  · intro n
    have hactive : (s.tap i).active = true := State.runs.active hruns
    obtain ⟨dt, flag, htap⟩ := s.tap_served_self i ((⟨j, s.advanced i⟩ : SlotBinding).readArrives tag 0 f.req.length) tag g
      ((s.bound i).settle.bindingPlan (s.advanced i) 0 f.req.length)
    have hskips : ∀ e ∈ s.above x.bound, e ∈ s.timeline.entries ∧ s.droppedFor i e.pi = true := fun e he =>
      ⟨(State.mem_of_above he).1, hall e (State.mem_of_above he).1 (State.mem_of_above he).2⟩
    obtain ⟨d, w, hkept, hmoved, hbinding, hplayed⟩ := State.bindPosition_underruns (State.runs_stepped hruns) (by
      rw [State.above_stepped]
      exact fun e he => (hskips e he).2)
    rw [State.above_stepped] at hmoved
    have hlatch (m : Nat) (hm : (({ (s.stepped i).tap i with state := .run, dropped := d, latch := w } : Tap).starved
        s.store.config.stallLimit).latch.getLsbD m = true) : (field (s.advanced i).header 40 4).testBit m = true :=
      s.advanced_latch i (hkept m hm)
    have hunderrun := hlatch 0
    have hstalls := hlatch 1
    rw [State.tap_stepped] at hbinding hplayed hunderrun hstalls
    refine ⟨_, _, exec_tapReadArrival_of_advance hwaits hactive hcurrent hprevious, by rw [htap], ?_⟩
    have hpasses := State.passes_served hmoved hskips ((⟨j, s.advanced i⟩ : SlotBinding).readArrives tag 0 f.req.length) tag g
      ((s.bound i).settle.bindingPlan (s.advanced i) 0 f.req.length)
      (b := ((⟨j, s.advanced i⟩ : SlotBinding).readArrives tag 0 f.req.length).binding) (by rw [State.advanced_opened])
      (by rw [State.advanced_opened])
    refine ⟨fun r hr => ?_, fun hr => ?_, ?_⟩
    · rw [State.advanced_opened, hbinding]
      unfold Tap.repeatBinding
      rw [show x.repeatSource = some r from hr]
      exact ⟨rfl, rfl, rfl, rfl, rfl, rfl, rfl, rfl⟩
    · rw [State.advanced_opened, hbinding]
      unfold Tap.repeatBinding
      rw [show x.repeatSource = none from hr]
      exact ⟨rfl, rfl, rfl⟩
    · have hheader : ((⟨j, s.advanced i⟩ : SlotBinding).readArrives tag 0 f.req.length).binding.header = (s.advanced i).header := by
        rw [State.advanced_opened]
      rw [hheader]
      rw [htap, hplayed]
      refine ⟨rfl, rfl, rfl, rfl, rfl, rfl, rfl, rfl, rfl, rfl, hpasses, fun h => hunderrun ?_, fun hno hlimit => hstalls ?_⟩
      · exact Tap.starved_underrun _ h
      · exact Tap.starved_stalls hno hlimit

end Sys2Proof.Machine

/-! SUPPORT. The tap and the binding that an advance with a candidate leaves (Tables 44 and 47; R116 to R119, R125, R134 to R139). -/

namespace Sys2Proof.Machine

/-! ### An entry bound by Table 44 -/

/-- The tap that has bound an entry. -/
theorem State.bindEntry_tap (v : State) (i : Fin 4) (e : TimelineEntry) (adjust p : Bool) :
    ∃ source repeats latch, (v.bindEntry i e adjust p).1.tap i =
      { (v.tap i).met e with repeatSource := source, repeats := repeats, latch := latch } := by
  obtain ⟨flags, -, hbind⟩ | ⟨p', -, -, hbind⟩ := v.bindEntry_cases i adjust p e
  · rw [hbind, State.tap_setTap_same, Tap.countRepeat_eq]
    exact ⟨_, _, _, rfl⟩
  · rw [hbind, State.tap_setTap_same]
    exact ⟨_, _, _, rfl⟩

theorem State.maskedFor_of_undropped {s : State} {i : Fin 4} {x : Word} (h : s.droppedFor i x = false) :
    s.maskedFor i x = s.edits.any fun d => d.kind == .mask && hasTap d.taps i && d.covers x := by
  unfold State.maskedFor
  rw [h]
  rfl

/-- The binding of an entry is the normal one of Table 44. -/
theorem State.bindsAs_of_bindEntry {s v : State} {i : Fin 4} {y : TimelineEntry} {adjust p : Bool} {x : Tap} (hv : v.tap i = x)
    (hedits : v.edits = s.edits) (hstore : v.store = s.store) (hop : x.op = (s.tap i).op + 1#32)
    (howed : x.spliceOwed = (s.tap i).spliceOwed) (herror : x.stepErrorOwed = (s.tap i).stepErrorOwed)
    (hsource : x.repeatSource = (s.tap i).repeatSource) (hrepeats : x.repeats = (s.tap i).repeats) (hy : s.droppedFor i y.pi = false)
    (header : List Byte) (tag : Fin 64) (len : Nat) {u : Tap} (hbound : u.bound = ((v.bindEntry i y adjust p).1.tap i).bound)
    (hpaid : u.spliceOwed = ((v.bindEntry i y adjust p).1.tap i).spliceOwed)
    (husource : u.repeatSource = ((v.bindEntry i y adjust p).1.tap i).repeatSource)
    (hurepeats : u.repeats = ((v.bindEntry i y adjust p).1.tap i).repeats) :
    s.bindsAs i y adjust (p || (s.tap i).spliceOwed) len u ((v.bindEntry i y adjust p).2.opened header tag len) := by
  obtain ⟨source, repeats, latch, htap⟩ := v.bindEntry_tap i y adjust p
  have hmasked : v.maskedFor i y.pi = s.edits.any fun d => d.kind == .mask && hasTap d.taps i && d.covers y.pi := by
    rw [← State.maskedFor_of_undropped hy]
    unfold State.maskedFor State.droppedFor State.dropFor
    rw [hedits]
  have hflags : x.metFlags y adjust p =
      { ServedFlags.none with
        adjust := adjust, splice := p || (s.tap i).spliceOwed, rough := (p || (s.tap i).spliceOwed) && !y.cutOk,
        outOfStep := (s.tap i).stepErrorOwed } := by
    unfold Tap.metFlags
    rw [howed, herror]
  have hrepeated (flags : ServedFlags) (hbind : v.bindEntry i y adjust p = (v.setTap i (x.met y).countRepeat, (x.met y).repeatBinding flags)) :
      (s.tap i).repeatsAs flags ((v.bindEntry i y adjust p).2.opened header tag len) ∧ u.repeatSource = (s.tap i).repeatSource ∧
        u.repeats = min ((s.tap i).repeats + 1) 65535 := by
    rw [husource, hurepeats, hbind, State.tap_setTap_same, Tap.countRepeat_eq]
    refine ⟨Tap.repeatsAs_opened _ _ _ _ (Tap.repeatBinding_repeatsAs flags hsource), hsource, ?_⟩
    show min (x.repeats + 1) 65535 = _
    rw [hrepeats]
  refine ⟨hbound.trans (by rw [htap]; rfl), hpaid.trans (by rw [htap]; rfl), fun _ hphys => ?_, fun phys _ hphys => ⟨fun hrefused => ?_, fun hserved => ?_⟩⟩
  · refine hrepeated _ ?_
    rw [v.bindEntry_of_no_phys i adjust p hphys, hv, hflags]
  · refine hrepeated _ ?_
    rw [v.bindEntry_of_refused i adjust p hphys hrefused.1 (by rw [hstore]; exact hrefused.2), hv, hflags]
  · have hbind := v.bindEntry_of_served i adjust p hphys (by rw [hstore]; exact hserved)
    rw [hv, hflags, hmasked] at hbind
    have hstart (hyes : (s.edits.any fun d => d.kind == .mask && hasTap d.taps i && d.covers y.pi) = false ∧ y.checkPass = some true ∧
        0 < y.la + y.lv) : (v.bindEntry i y adjust p).2.readback = .start := by
      rw [hbind]
      obtain ⟨hunmasked, hpass, hpayload⟩ := hyes
      show (if !(s.edits.any _) && y.checkPass == some true && decide (0 < y.la + y.lv) then Readback.start else Readback.none) = _
      rw [hunmasked, hpass, decide_eq_true hpayload]
      rfl
    have hnone (hno : ¬ ((s.edits.any fun d => d.kind == .mask && hasTap d.taps i && d.covers y.pi) = false ∧ y.checkPass = some true ∧
        0 < y.la + y.lv)) : (v.bindEntry i y adjust p).2.readback = .none := by
      rw [hbind]
      refine if_neg fun hc => hno ?_
      rw [Bool.and_eq_true, Bool.and_eq_true, Bool.not_eq_true', beq_iff_eq, decide_eq_true_iff] at hc
      obtain ⟨⟨hunmasked, hpass⟩, hpayload⟩ := hc
      exact ⟨hunmasked, hpass, hpayload⟩
    refine ⟨?_, ?_, ?_, fun hyes => ?_, fun hno => ?_⟩
    · rw [Binding.opened_eq]
      rw [hbind, ← hop]
      rfl
    · rw [husource, hbind, State.tap_setTap_same]
      rfl
    · rw [hurepeats, hbind, State.tap_setTap_same]
      exact hrepeats
    · have hopened := Binding.opened_of_start _ header tag len (hstart hyes)
      rw [hbind] at hopened ⊢
      exact hopened
    · rw [Binding.opened_of_none _ _ _ _ (by rw [hnone hno]; rfl), hnone hno]
      rfl

/-! ### The tap after the pacer's decision -/

/-- The tap plays in RUN, with the pacer's marks. -/
structure Tap.PlaysAs (u : Tap) (mode : PacerMode) (acc since shed : Nat) : Prop where
  state : u.state = .run
  underrunRun : u.underrunRun = 0
  stalled : u.stalled = false
  mode : u.mode = mode
  acc : u.acc = acc
  since : u.sinceLast = since
  shed : u.shed = shed

section
variable {s v : State} {i : Fin 4} {skipped : List TimelineEntry} {mode : PacerMode} {acc since shed : Nat}
  (h : Paced i (s.stepped i) v skipped mode acc since shed)
include h

/-- An advance that binds an entry. -/
theorem Paced.binds {y : TimelineEntry} {adjust : Bool} (hbind : (s.stepped i).bindPosition i = v.bindEntry i y adjust (!skipped.isEmpty))
    (hy : s.droppedFor i y.pi = false) (hskips : ∀ e ∈ skipped, e ∈ s.timeline.entries ∧ s.droppedFor i e.pi = true) (j : Nat)
    (tag : Fin 64) (g : Geometry) (len : Nat) (plan : FillPlan) (sb : SlotBinding)
    (hsb : sb = (⟨j, s.advanced i⟩ : SlotBinding).readArrives tag 0 len) :
    s.bindsAs i y adjust (!skipped.isEmpty || (s.tap i).spliceOwed) len ((s.served i sb tag g plan).tap i) sb.binding ∧
      s.passes (s.served i sb tag g plan) i sb.binding skipped ∧ ((s.served i sb tag g plan).tap i).PlaysAs mode acc since shed := by
  obtain ⟨d, w, hv⟩ := h.tap
  obtain ⟨source, repeats, latch, htap⟩ := v.bindEntry_tap i y adjust (!skipped.isEmpty)
  obtain ⟨dt, flag, hserved⟩ := s.tap_served_self i sb tag g plan
  have hop : (v.tap i).op = ((s.stepped i).tap i).op := by rw [hv]; rfl
  have howed : (v.tap i).stepErrorOwed = ((s.stepped i).tap i).stepErrorOwed := by rw [hv]; rfl
  have hmoved := (Bound.bindEntry h.toMoved y adjust (!skipped.isEmpty) hop howed).toMoved
  rw [← hbind] at hmoved
  have hopened : sb.binding = ((s.stepped i).bindPosition i).2.opened (s.advanced i).header tag len := by rw [hsb]; rfl
  refine ⟨?_, State.passes_served hmoved hskips sb tag g plan (by rw [hopened, Binding.opened_eq]) (by rw [hopened, Binding.opened_eq]), ?_⟩
  · rw [State.tap_stepped] at hv
    rw [hopened, hbind]
    rw [hbind] at hserved
    rw [hserved]
    exact State.bindsAs_of_bindEntry (s := s) hv h.edits h.store rfl rfl rfl rfl rfl hy _ tag len rfl rfl rfl rfl
  · rw [hserved, hbind, htap, hv]
    exact ⟨rfl, rfl, rfl, rfl, rfl, rfl, rfl⟩

/-- An advance that repeats by a due INSERT. -/
theorem Paced.repeats
    (hbind : (s.stepped i).bindPosition i =
      (v.setTap i { v.tap i with stepErrorOwed := false }.countRepeat,
        ((s.stepped i).tap i).repeatBinding { ServedFlags.none with adjust := true, outOfStep := ((s.stepped i).tap i).stepErrorOwed }))
    (hskips : ∀ e ∈ skipped, e ∈ s.timeline.entries ∧ s.droppedFor i e.pi = true) (j : Nat) (tag : Fin 64) (g : Geometry) (len : Nat)
    (plan : FillPlan) (sb : SlotBinding) (hsb : sb = (⟨j, s.advanced i⟩ : SlotBinding).readArrives tag 0 len) :
    let u := (s.served i sb tag g plan).tap i
    (s.tap i).repeatsAs { ServedFlags.none with adjust := true, outOfStep := (s.tap i).stepErrorOwed } sb.binding ∧
      u.bound = (s.tap i).bound ∧ u.repeats = min ((s.tap i).repeats + 1) 65535 ∧ u.repeatSource = (s.tap i).repeatSource ∧
      u.spliceOwed = (s.tap i).spliceOwed ∧ s.passes (s.served i sb tag g plan) i sb.binding skipped ∧
      u.PlaysAs mode acc since shed := by
  obtain ⟨d, w, hv⟩ := h.tap
  obtain ⟨dt, flag, hserved⟩ := s.tap_served_self i sb tag g plan
  have hplays : (v.tap i).Plays { v.tap i with stepErrorOwed := false }.countRepeat :=
    Tap.Plays.trans (y := { v.tap i with stepErrorOwed := false }) ⟨rfl, fun _ h => h⟩ (.countRepeat _)
  have hmoved : Moved i (s.stepped i) ((s.stepped i).bindPosition i).1 skipped := by
    rw [hbind]
    exact h.toMoved.setTap hplays (by rw [Tap.countRepeat_eq])
  have hopened : sb.binding = ((s.stepped i).bindPosition i).2.opened (s.advanced i).header tag len := by rw [hsb]; rfl
  have hpasses := State.passes_served hmoved hskips sb tag g plan (b := sb.binding) (by rw [hopened, Binding.opened_eq])
    (by rw [hopened, Binding.opened_eq])
  rw [State.tap_stepped] at hbind hv
  intro u
  have hu : u = _ := hserved
  rw [hbind, State.tap_setTap_same, Tap.countRepeat_eq, hv] at hu
  refine ⟨?_, ?_, ?_, ?_, ?_, hpasses, ?_⟩
  · rw [hopened, hbind]
    exact Tap.repeatsAs_opened _ _ _ _ (Tap.repeatBinding_repeatsAs _ rfl)
  · rw [hu]; rfl
  · rw [hu]; rfl
  · rw [hu]; rfl
  · rw [hu]; rfl
  · rw [hu]
    exact ⟨rfl, rfl, rfl, rfl, rfl, rfl, rfl⟩

end

/-- Settles O47: d against Dt, and within BUILD and SHED whether an adjustment is due and can be made. -/
theorem pacerFollowsItsTable : Obligations.PacerFollowsItsTable := by
  intro s tag g f i j passed after c hwaits hruns hcurrent hprevious hahead hpassed hc x w d sum ready shedTo
  have hruns' : (s.stepped i).runs i := State.runs_stepped hruns
  have htap := s.tap_stepped i
  have hahead' : (s.stepped i).above ((s.stepped i).tap i).bound = passed ++ c :: after := (s.above_stepped i).trans hahead
  have hdelay : (s.stepped i).delay i = d := s.delay_stepped i
  have hdt : ((s.stepped i).tap i).dt = x.dt := by rw [htap]
  have hdue : ((s.stepped i).settings i).due ((s.stepped i).tap i) ↔ ready := by rw [htap]; exact Iff.rfl
  have hshed (between : List TimelineEntry) (c2 : TimelineEntry) : (s.stepped i).ShedsTo i after between c2 ↔ shedTo between c2 :=
    ⟨fun ⟨hfound, hbetween, hundropped, hcut⟩ => ⟨hfound, hbetween, hundropped, hcut⟩,
      fun ⟨hfound, hbetween, hundropped, hcut⟩ => ⟨hfound, hbetween, hundropped, hcut⟩⟩
  have hmem (l : List TimelineEntry) (hl : ∀ e ∈ l, e ∈ passed ++ c :: after) : ∀ e ∈ l, e ∈ s.timeline.entries := fun e he =>
    (State.mem_of_above (hahead ▸ hl e he)).1
  have hskips : ∀ e ∈ passed, e ∈ s.timeline.entries ∧ s.droppedFor i e.pi = true := fun e he =>
    ⟨hmem passed (fun _ h => List.mem_append_left _ h) e he, hpassed e he⟩
  obtain ⟨dt, flag, hserved⟩ := s.tap_served_self i ((⟨j, s.advanced i⟩ : SlotBinding).readArrives tag 0 f.req.length) tag g
    ((s.bound i).settle.bindingPlan (s.advanced i) 0 f.req.length)
  refine ⟨_, _, exec_tapReadArrival_of_advance hwaits (State.runs.active hruns) hcurrent hprevious, by rw [hserved], ?_⟩
  generalize (s.bound i).settle.bindingPlan (s.advanced i) 0 f.req.length = plan
  intro binds
  rcases Nat.lt_trichotomy d x.dt with hd | hd | hd
  · by_cases hinsert : ready ∧ x.repeatSource ≠ none
    · obtain ⟨v, hpaced, hbind⟩ := State.bindPosition_of_insert hruns' hahead' hpassed hc (by rw [hdelay, hdt]; exact hd)
        (hdue.mpr hinsert.1) (by rw [htap]; exact hinsert.2)
      obtain ⟨hrepeats, hbound, hcount, hsource, howed, hpasses, hplays⟩ := hpaced.repeats hbind hskips j tag g f.req.length plan _ rfl
      rw [htap] at hplays
      refine ⟨hplays.state, hplays.underrunRun, hplays.stalled, fun h => absurd h (Nat.ne_of_lt hd), fun _ => hplays.mode,
        fun h => absurd h (Nat.lt_asymm hd), fun _ _ r hr => ⟨hrepeats, hbound, hplays.acc, hplays.since, hplays.shed, hcount, hsource.trans hr, howed, hpasses⟩,
        fun h => absurd h (Nat.lt_asymm hd), fun h => ?_⟩
      obtain ⟨-, hnot⟩ | ⟨h, -⟩ := h
      · exact absurd hinsert hnot
      · exact absurd h (Nat.lt_asymm hd)
    · obtain ⟨v, hpaced, hbind⟩ := State.bindPosition_of_build hruns' hahead' hpassed hc (by rw [hdelay, hdt]; exact hd)
        (by rw [hdue, htap]; exact hinsert)
      obtain ⟨hbinds, hpasses, hplays⟩ := hpaced.binds hbind hc hskips j tag g f.req.length plan _ rfl
      rw [htap] at hplays
      exact ⟨hplays.state, hplays.underrunRun, hplays.stalled, fun h => absurd h (Nat.ne_of_lt hd), fun _ => hplays.mode,
        fun h => absurd h (Nat.lt_asymm hd), fun _ hready r hr => absurd ⟨hready, by rw [hr]; exact nofun⟩ hinsert, fun h => absurd h (Nat.lt_asymm hd),
        fun _ => ⟨⟨hbinds, hpasses⟩, hplays.acc, hplays.since, hplays.shed⟩⟩
  · obtain ⟨v, hpaced, hbind⟩ := State.bindPosition_of_steady hruns' hahead' hpassed hc (by rw [hdelay, hdt]; exact hd)
    obtain ⟨hbinds, hpasses, hplays⟩ := hpaced.binds hbind hc hskips j tag g f.req.length plan _ rfl
    rw [htap] at hplays
    refine ⟨hplays.state, hplays.underrunRun, hplays.stalled,
      fun _ => ⟨hplays.mode, ⟨hbinds, hpasses⟩, hplays.acc, hplays.since, hplays.shed⟩, fun h => absurd hd (Nat.ne_of_lt h), fun h => absurd hd (Nat.ne_of_gt h),
      fun h => absurd hd (Nat.ne_of_lt h), fun h => absurd hd (Nat.ne_of_gt h), fun h => ?_⟩
    obtain ⟨h, -⟩ | ⟨h, -⟩ := h
    · exact absurd hd (Nat.ne_of_lt h)
    · exact absurd hd (Nat.ne_of_gt h)
  · have hsheds (hready : ready) (between : List TimelineEntry) (c2 : TimelineEntry) (hcut : shedTo between c2) :
        binds c2 true (passed ++ between) ∧
          ((s.served i ((⟨j, s.advanced i⟩ : SlotBinding).readArrives tag 0 f.req.length) tag g plan).tap i).PlaysAs .shed (sum - w.p) 0
            (min (x.shed + 1) 65535) := by
      obtain ⟨v, hpaced, hbind⟩ := State.bindPosition_of_shed hruns' hahead' hpassed hc (by rw [hdelay, hdt]; exact hd)
        (hdue.mpr hready) ((hshed between c2).mpr hcut)
      obtain ⟨⟨rest, hrest⟩, hbetween, hc2, -⟩ := hcut
      have hall : ∀ e ∈ passed ++ between, e ∈ s.timeline.entries ∧ s.droppedFor i e.pi = true := fun e he => by
        obtain he | he := List.mem_append.mp he
        · exact hskips e he
        · exact ⟨hmem between (fun b hb => by rw [hrest]; simp [hb]) e he, hbetween e he⟩
      obtain ⟨hbinds, hpasses, hplays⟩ := hpaced.binds hbind hc2 hall j tag g f.req.length plan _ rfl
      rw [htap] at hplays
      exact ⟨⟨hbinds, hpasses⟩, hplays⟩
    by_cases hcuts : ready ∧ ∃ between c2, shedTo between c2
    · obtain ⟨hready, between, c2, hcut⟩ := hcuts
      obtain ⟨-, hplays⟩ := hsheds hready between c2 hcut
      refine ⟨hplays.state, hplays.underrunRun, hplays.stalled, fun h => absurd h (Nat.ne_of_gt hd), fun h => absurd h (Nat.lt_asymm hd), fun _ => hplays.mode,
        fun h => absurd h (Nat.lt_asymm hd), fun _ hready between c2 hcut => ?_, fun h => ?_⟩
      · obtain ⟨hbinds, hplays⟩ := hsheds hready between c2 hcut
        exact ⟨hbinds, hplays.acc, hplays.since, hplays.shed⟩
      · obtain ⟨h, -⟩ | ⟨-, hnot⟩ := h
        · exact absurd h (Nat.lt_asymm hd)
        · exact absurd ⟨hready, between, c2, hcut⟩ hnot
    · obtain ⟨v, hpaced, hbind⟩ := State.bindPosition_of_unshed hruns' hahead' hpassed hc (by rw [hdelay, hdt]; exact hd)
        (by simp only [hdue, hshed]; exact hcuts)
      obtain ⟨hbinds, hpasses, hplays⟩ := hpaced.binds hbind hc hskips j tag g f.req.length plan _ rfl
      rw [htap] at hplays
      exact ⟨hplays.state, hplays.underrunRun, hplays.stalled, fun h => absurd h (Nat.ne_of_gt hd), fun h => absurd h (Nat.lt_asymm hd), fun _ => hplays.mode,
        fun h => absurd h (Nat.lt_asymm hd), fun _ hready between c2 hcut => absurd ⟨hready, between, c2, hcut⟩ hcuts,
        fun _ => ⟨⟨hbinds, hpasses⟩, hplays.acc, hplays.since, hplays.shed⟩⟩

end Sys2Proof.Machine

/-! SUPPORT. An advance as a whole: position, snapshot, plan and pins (R16, R47, R105, R111, R119 to R123, R160, R172). -/

namespace Sys2Proof.Machine

/-! ### The position -/

/-- Every advance of an active tap binds its new position. -/
theorem State.bindPosition_bound {s : State} {i : Fin 4} (hactive : (s.tap i).active = true) : ∃ passed, Bound i s (s.bindPosition i) passed := by
  obtain ⟨hstate, hd⟩ | hruns := State.priming_or_runs hactive
  · rw [State.bindPosition_of_priming hstate hd]
    exact ⟨[], .of_setTap (.refl i s) ⟨rfl, fun _ h => h⟩ rfl rfl rfl rfl⟩
  obtain hall | ⟨passed, c, after, hahead, hpassed, hc⟩ := s.search_cases i (s.above (s.tap i).bound)
  · obtain ⟨d, w, -, hmoved, hbinding, hplayed⟩ := State.bindPosition_underruns hruns hall
    refine ⟨_, hmoved, ?_, ?_, ?_⟩
    · rw [hbinding, Tap.repeatBinding_op]
    · rw [hbinding, Tap.repeatBinding_outOfStep]
    · rw [hplayed]
      rfl
  · cases State.bindPosition_decides hruns hahead hpassed hc with
    | entry v y adjust skipped mode acc since shed paced above undropped skips bound =>
      obtain ⟨d, w, hv⟩ := paced.tap
      rw [bound]
      exact ⟨skipped, .bindEntry paced.toMoved y adjust _ (by rw [hv]; rfl) (by rw [hv]; rfl)⟩
    | insert v skipped mode acc since shed paced skips bound =>
      have hplays : (v.tap i).Plays { v.tap i with stepErrorOwed := false }.countRepeat :=
        Tap.Plays.trans (y := { v.tap i with stepErrorOwed := false }) ⟨rfl, fun _ h => h⟩ (.countRepeat _)
      rw [bound]
      exact ⟨skipped, .of_setTap paced.toMoved hplays (by rw [Tap.countRepeat_eq]) (Tap.repeatBinding_op ..) (Tap.repeatBinding_outOfStep ..)
        (by rw [Tap.countRepeat_eq])⟩

/-! ### The snapshot -/

theorem weigh_le (b : Bool) (k : Nat) : weigh b k ≤ 2 ^ k := by
  unfold weigh
  split
  · exact Nat.le_refl _
  · exact Nat.zero_le _

theorem ServedFlags.value_lt (f : ServedFlags) : f.value < 256 := by
  have h0 := weigh_le f.masked 0
  have h1 := weigh_le f.checkFail 1
  have h2 := weigh_le f.gap 2
  have h3 := weigh_le f.adjust 3
  have h4 := weigh_le f.splice 4
  have h5 := weigh_le f.rough 5
  have h6 := weigh_le f.underrun 6
  have h7 := weigh_le f.outOfStep 7
  unfold ServedFlags.value
  omega

/-- The fields of a served header. -/
structure HeaderShows (h : List Byte) (b : Binding) (i : Fin 4) (x : Tap) : Prop where
  length : h.length = 64
  mark : h.take 8 = [0x51#8, 0x4F#8, 0x55#8, 0x54#8] ++ toLE 4 b.op.toNat
  seq : field h 8 4 = (b.srcSeq.getD 0#32).toNat
  pi : field h 12 4 = (b.srcPi.getD 0#32).toNat
  check : field h 28 4 = if b.masked = true ∨ b.kind = .fill then 0 else b.check.toNat
  kind : field h 16 1 = b.kind.value
  flags : field h 17 1 = b.flags.value
  tap : field h 19 1 = i.val
  latch : field h 40 4 = x.latch.toNat
  code : field h 56 1 = (shownReport x.report).1
  result : field h 57 1 = (shownReport x.report).2.1
  command : field h 60 4 = (shownReport x.report).2.2
  executed : field h 58 1 = x.executed % 256

theorem shownReport_lt (r : Option RefusalReport) :
    (shownReport r).1 < 256 ∧ (shownReport r).2.1 < 256 ∧ (shownReport r).2.2 < 4294967296 := by
  cases r with
  | none => decide
  | some r =>
    refine ⟨r.code.isLt, ?_, r.seq.isLt⟩
    show r.result.value < 256
    cases r.result <;> decide

theorem State.servedHeader_shows (s : State) (i : Fin 4) (b : Binding) : HeaderShows (s.servedHeader i b) b i (s.tap i) := by
  obtain ⟨hcode, hresult, hcommand⟩ := shownReport_lt (s.tap i).report
  have hcheck : (if b.masked || b.kind == .fill then 0 else b.check.toNat) = if b.masked = true ∨ b.kind = .fill then 0 else b.check.toNat := by
    simp only [Bool.or_eq_true, beq_iff_eq]
  have hchecklt : (if b.masked || b.kind == .fill then 0 else b.check.toNat) < 256 ^ 4 := by
    split
    · decide
    · exact b.check.isLt
  have hkind : b.kind.value < 256 := by cases b.kind <;> decide
  exact
    { length := s.servedHeader_length i b
      mark := by rw [State.servedHeader_eq]; rfl
      seq := s.servedHeader_field i b (k := 2) rfl rfl (b.srcSeq.getD 0#32).isLt
      pi := s.servedHeader_field i b (k := 3) rfl rfl (b.srcPi.getD 0#32).isLt
      check := (s.servedHeader_field i b (k := 10) rfl rfl hchecklt).trans hcheck
      kind := s.servedHeader_field i b (k := 4) rfl rfl hkind
      flags := s.servedHeader_field i b (k := 5) rfl rfl b.flags.value_lt
      tap := s.servedHeader_field i b (k := 7) rfl rfl (Nat.le_trans i.isLt (by decide))
      latch := s.servedHeader_latch i b
      code := s.servedHeader_field i b (k := 21) rfl rfl hcode
      result := s.servedHeader_field i b (k := 22) rfl rfl hresult
      command := s.servedHeader_field i b (k := 25) rfl rfl hcommand
      executed := s.servedHeader_field_mod i b (k := 23) rfl rfl }

/-! ### Plan and pins -/

theorem State.planNames_congr {s t : State} {b b' : Binding} {plan : FillPlan} {o len : Nat} (himage : t.pool.maskImage = s.pool.maskImage)
    (hlmask : t.pool.lmask = s.pool.lmask) (hb : b' = { b with header := b'.header, readback := b'.readback })
    (h : t.planNames b plan o len) : s.planNames b' plan o len := by
  rw [hb]
  unfold State.planNames at *
  rw [himage, hlmask] at h
  exact h

theorem State.seg?_of_core {s t : State} {p : Nat} {q : Segment} {f : Segment → Segment}
    (h : (t.seg? p).map Segment.core = (s.seg? p).map fun g => (f g).core) (hq : s.seg? p = some q) :
    ∃ q', t.seg? p = some q' ∧ q'.core = (f q).core := by
  rw [hq, Option.map_some, Option.map_eq_some_iff] at h
  exact h

/-- The segment records after an advance: the read's outstanding counts and the moved pins. -/
theorem State.seg?_served_of_some {s : State} {i : Fin 4} {passed : List TimelineEntry}
    (h : Moved i (s.stepped i) ((s.stepped i).bindPosition i).1 passed) (sb : SlotBinding) (tag : Fin 64) (g : Geometry) (plan : FillPlan)
    {u : Tap} {b : Binding} (hu : u.repeatSource = (((s.stepped i).bindPosition i).1.tap i).repeatSource)
    (hphys : b.phys = ((s.stepped i).bindPosition i).2.phys) (hkind : b.kind = ((s.stepped i).bindPosition i).2.kind) {p : Nat} {q : Segment}
    (hq : s.seg? p = some q) :
    ∃ q', (s.served i sb tag g plan).seg? p = some q' ∧ q'.outstanding = q.outstanding + plan.readsOn p ∧
      q'.pins = q.pins + u.pinsTaken b p - (s.tap i).pinsDropped b p := by
  have hseg : ((s.stepped i).bindPosition i).1.seg? p = some q := by
    unfold State.seg?
    rw [h.pool]
    exact hq
  have hrepins := (Repins.movePins ((s.stepped i).bindPosition i).1 ((s.stepped i).bindPosition i).2 (s.tap i).previous (s.tap i).repeatSource
    (((s.stepped i).bindPosition i).1.tap i).repeatSource).core p
  obtain ⟨q', hq', hcore⟩ := State.seg?_of_core (((Rehomes.settle (Q := fun _ => True) (s.bound i)).core p).trans hrepins) hseg
  obtain ⟨-, -, -, hpins, hout⟩ := Segment.of_core_eq hcore
  rw [State.seg?_served, hq']
  refine ⟨_, rfl, ?_, ?_⟩
  · show q'.outstanding + _ = _
    rw [hout]
  · show q'.pins = _
    rw [hpins, Tap.pinsTaken_eq, Tap.pinsDropped_eq, hphys, hkind, hu]

/-- Settles O44: the binding of the new position, its snapshot, and the plan handed to the read. -/
theorem advancesMoveTheTapOn : Obligations.AdvancesMoveTheTapOn := by
  intro s tag g f i j hwaits hactive hcurrent hprevious x
  obtain ⟨passed, hbound⟩ := State.bindPosition_bound (s := s.stepped i) (i := i) (by rw [State.tap_stepped]; exact hactive)
  have hexec := exec_tapReadArrival_of_advance hwaits hactive hcurrent hprevious
  have hopened := s.advanced_opened i j tag f.req.length
  have hslot : ((⟨j, s.advanced i⟩ : SlotBinding).readArrives tag 0 f.req.length).slot = j := rfl
  generalize (⟨j, s.advanced i⟩ : SlotBinding).readArrives tag 0 f.req.length = sb at hexec hopened hslot
  obtain ⟨dt, flag, htap⟩ := s.tap_served_self i sb tag g ((s.bound i).settle.bindingPlan (s.advanced i) 0 f.req.length)
  have hrest := hbound.plays.rest
  rw [State.tap_stepped] at hrest
  have hop : sb.binding.op = x.op + 1#32 := by
    rw [hopened]
    exact hbound.op.trans (by rw [State.tap_stepped])
  have hout : sb.binding.flags.outOfStep = x.stepErrorOwed := by
    rw [hopened]
    exact hbound.outOfStep.trans (by rw [State.tap_stepped])
  have hheader : HeaderShows (s.advanced i).header ((s.stepped i).bindPosition i).2 i ((s.bound i).settle.tap i) :=
    State.servedHeader_shows ..
  have hears := (s.bound_settles i).hears i
  have hreport : ((s.bound i).settle.tap i).report = x.report := by
    rw [hears.report, hrest]
  have hexecuted : ((s.bound i).settle.tap i).executed = x.executed := by
    rw [hears.executed, hrest]
  have hinterior := s.bound_interior i
  obtain ⟨-, -, -, hcapture, hguard⟩ := s.served_rest i sb tag g ((s.bound i).settle.bindingPlan (s.advanced i) 0 f.req.length)
  refine ⟨_, sb, hexec, ?_, ?_, hslot, hop, ?_, ?_, ?_, ?_, ?_, hout, ?_, ⟨(s.bound i).settle.bindingPlan (s.advanced i) 0 f.req.length, ?_, ?_, ?_, ?_⟩,
    hcapture.trans hinterior.capture, hguard.trans hinterior.guardStep, fun u hu => ?_⟩
  · rw [htap, hrest]
  · rw [htap]
  · rw [htap, hrest]
  · rw [htap]
  · rw [htap]
  · rw [htap, hrest]
  · rw [htap]
    exact hbound.paid
  · rw [hopened]
    refine ⟨hheader.length, ?_, hheader.seq, hheader.pi, hheader.check, hheader.kind, hheader.flags, hheader.tap, fun n _ hn => ?_, ?_, ?_, ?_, ?_⟩
    · rw [hheader.mark, hbound.op, State.tap_stepped]
    · refine s.advanced_latch i (hbound.plays.latch n ?_)
      rw [State.tap_stepped]
      exact hn
    · rw [hheader.code, hreport]
      cases x.report <;> rfl
    · rw [hheader.result, hreport]
      cases x.report <;> rfl
    · rw [hheader.command, hreport]
      cases x.report <;> rfl
    · rw [hheader.executed, hexecuted]
  · rw [State.bindingPlan_header_of_low _ _ _ (by decide), hopened]
  · refine State.planNames_congr (t := (s.bound i).settle) (b := s.advanced i) ?_ ?_ ?_
      ((s.bound i).settle.planNames_bindingPlan (s.advanced i) 0 f.req.length)
    · rw [hinterior.pool]
    · rw [hinterior.pool]
    · rw [hopened]
      rfl
  · exact State.readPlanned_servePlan (u := (s.bound i).settle.setTap i _) (State.entry_of_arriving hwaits.2.1) hinterior.link g i _
  · intro p q hq
    exact State.seg?_served_of_some hbound.toMoved sb tag g _ (by rw [htap]) (by rw [hopened]) (by rw [hopened]) hq
  · obtain ⟨d, c, l, hother⟩ := State.tap_served_other hbound.toMoved hu sb tag g ((s.bound i).settle.bindingPlan (s.advanced i) 0 f.req.length)
    rw [hother]
    exact ⟨rfl, rfl, rfl, rfl, rfl, rfl, rfl, rfl⟩

end Sys2Proof.Machine

/-! SUPPORT. A new range at the edit list, as the obligations say it: added, merged with one entry, or widened into one (R83 to R85, R98,
R99). -/

namespace Sys2Proof.Machine

/-! ### What is taken into the list -/

theorem Edit.join_eq_merged (a b : Edit) : a.join b = a.merged b := by
  unfold Edit.join Edit.merged joinState Edit.trailingCount
  cases ha : a.state <;> cases hb : b.state <;> simp [Bool.decide_or, Bool.decide_and, Bool.beq_eq_decide_eq]

/-- Nothing more meets the range. -/
theorem absorb_of_apart {n : Nat} {m : Edit} {taken rest : List Edit} (h : ∀ x ∈ rest, ¬ m.touches x) : absorb n m taken rest = (m, taken, rest) := by
  cases n with
  | zero => rfl
  | succ n =>
    have hnone : rest.filter m.mergeable = [] := List.filter_eq_nil_iff.mpr fun x hx => (not_congr (Edit.mergeable_iff m x)).mpr (h x hx)
    unfold absorb
    rw [hnone]
    rfl

/-- One entry meets the range, and none the two together. -/
theorem absorb_of_one {n : Nat} {m w : Edit} {pre post : List Edit} (hw : m.touches w) (h : ∀ x ∈ pre ++ post, ¬ m.touches x ∧ ¬ (m.merged w).touches x) :
    absorb (n + 1) m [] (pre ++ w :: post) = (m.merged w, [w], pre ++ post) := by
  have hmerge (x : Edit) (hx : x ∈ pre ++ post) : m.mergeable x = false := (Edit.mergeable_eq_false_iff m x).mpr (h x hx).1
  have hwm : m.mergeable w = true := (Edit.mergeable_iff m w).mpr hw
  have hhit : (pre ++ w :: post).filter m.mergeable = [w] := by
    rw [List.filter_append, List.filter_cons_of_pos hwm,
      List.filter_eq_nil_iff.mpr fun x hx => Bool.eq_false_iff.mp (hmerge x (List.mem_append_left _ hx)),
      List.filter_eq_nil_iff.mpr fun x hx => Bool.eq_false_iff.mp (hmerge x (List.mem_append_right _ hx))]
    rfl
  have hrest : (pre ++ w :: post).filter (fun e => !m.mergeable e) = pre ++ post := by
    rw [List.filter_append, List.filter_cons_of_neg (by rw [hwm]; decide), List.filter_eq_self.mpr fun x hx => by
      rw [hmerge x (List.mem_append_left _ hx)]; rfl, List.filter_eq_self.mpr fun x hx => by
      rw [hmerge x (List.mem_append_right _ hx)]; rfl]
  unfold absorb
  dsimp only
  rw [hhit, hrest]
  show absorb n (m.join w) [w] (pre ++ post) = _
  rw [Edit.join_eq_merged]
  exact absorb_of_apart fun x hx => (h x hx).2

/-- The lowest free id is the one that the model looks for. -/
theorem lowestFreeId_eq {es : List Edit} {n : Nat} (h : freeIdIs es n) : lowestFreeId es = n := by
  obtain ⟨hlt, hfree, hleast⟩ := h
  have hfind : (List.range Config.editCapacity).find? (fun i => es.all fun e => e.id != i) = some n := by
    rw [List.find?_range_eq_some]
    refine ⟨?_, List.mem_range.mpr hlt, fun j hj => ?_⟩
    · exact List.all_eq_true.mpr fun x hx => bne_iff_ne.mpr (hfree x hx)
    · obtain ⟨x, hx, hid⟩ := hleast j hj
      rw [Bool.not_eq_true', List.all_eq_false]
      exact ⟨x, hx, by simp [hid]⟩
  unfold lowestFreeId
  rw [hfind]
  rfl

theorem nameMerged_none (new merged : Edit) {rest : List Edit} {n : Nat} (h : freeIdIs rest n) :
    nameMerged new merged [] rest = { merged with id := n, origin := new.origin } := by
  unfold nameMerged
  rw [lowestFreeId_eq h]

theorem nameMerged_single (new merged w : Edit) (rest : List Edit) :
    nameMerged new merged [w] rest =
      if serialLe w.start new.start then { merged with id := w.id, origin := w.origin }
      else { merged with id := lowestFreeId rest, origin := new.origin } := rfl

theorem nameMerged_one (new merged w : Edit) {rest : List Edit} {n : Nat}
    (h : if serialLe w.start new.start then n = w.id else freeIdIs rest n) :
    nameMerged new merged [w] rest = { merged with id := n, origin := if serialLe w.start new.start then w.origin else new.origin } := by
  rw [nameMerged_single]
  by_cases hlow : serialLe w.start new.start = true
  · rw [if_pos hlow] at h
    rw [if_pos hlow, if_pos hlow, h]
  · rw [if_neg hlow] at h
    rw [if_neg hlow, if_neg hlow, lowestFreeId_eq h]

theorem mem_insertById (e x : Edit) (es : List Edit) : x ∈ insertById e es ↔ x = e ∨ x ∈ es :=
  (insertById_perm e es).mem_iff.trans List.mem_cons

/-- A range is refused by a list that is full and that it does not meet. -/
theorem offerRange_eq_none_iff (es : List Edit) (new : Edit) : offerRange es new = none ↔ 32 ≤ es.length ∧ ∀ x ∈ es, ¬ new.touches x := by
  obtain ⟨hit, habs⟩ := absorb_absorbed (es.length + 1) new [] es
  have htaken := habs.taken
  rw [List.nil_append] at htaken
  have hnone : (absorb (es.length + 1) new [] es).2.1.isEmpty = true ↔ ∀ x ∈ es, ¬ new.touches x := by
    constructor
    · intro hempty x hx
      have hnil : hit = [] := by rw [← htaken]; exact List.isEmpty_iff.mp hempty
      have hmerged := habs.merged
      have hperm := habs.perm
      rw [hnil] at hmerged hperm
      have hapart := habs.apart (Nat.lt_succ_self _) x (hperm.mem_iff.mpr hx)
      rwa [hmerged] at hapart
    · intro hapart
      rw [absorb_of_apart hapart]
      rfl
  unfold offerRange
  dsimp only
  split
  · next h => exact ⟨fun _ => ⟨h.2, hnone.mp h.1⟩, fun _ => rfl⟩
  · next h => exact ⟨fun hsome => (nomatch hsome), fun hfull => absurd ⟨hnone.mpr hfull.2, hfull.1⟩ h⟩

section
variable {s : State} {new : Edit}

theorem mem_kept (s : State) (es : List Edit) (x : Edit) : x ∈ es.filter (fun e => !s.spent e) ↔ x ∈ es ∧ s.spent x = false := by
  rw [List.mem_filter, Bool.not_eq_true']

/-- The list that takes a range is the one that `takesRange` says. -/
theorem State.takesRange_of_offer {es : List Edit} (h : offerRange s.edits new = some es) :
    s.takesRange new (es.filter fun e => !s.spent e) := by
  refine ⟨fun hapart hroom n hn x => ?_, fun pre w post hedits htouch hapart n hn x => ?_⟩
  · rw [mem_kept]
    refine and_congr_left fun _ => ?_
    unfold offerRange at h
    rw [absorb_of_apart hapart] at h
    dsimp only at h
    rw [if_neg fun hfull => absurd hfull.2 (Nat.not_le.mpr hroom), nameMerged_none new new hn] at h
    rw [← Option.some.inj h, mem_insertById]
  · rw [mem_kept]
    refine and_congr_left fun _ => ?_
    unfold offerRange at h
    rw [hedits, absorb_of_one htouch hapart] at h
    dsimp only at h
    rw [if_neg fun hfull => absurd hfull.1 (by simp), nameMerged_one new _ w hn] at h
    rw [← Option.some.inj h, mem_insertById]

/-- A widening is the one that `widensTo` says. -/
theorem State.widensTo_of_widen (w w' : Edit) :
    s.widensTo new w w' ((widen s.edits w w' new).filter fun e => !s.spent e) := by
  intro pre post hedits hapart n hn x
  rw [mem_kept]
  refine and_congr_left fun _ => ?_
  have hothers : s.edits.filter (fun e => e.id != w.id) = pre ++ post := by
    rw [hedits, List.filter_append, List.filter_cons_of_neg (by simp), List.filter_eq_self.mpr fun x hx => by
      exact bne_iff_ne.mpr (hapart x (List.mem_append_left _ hx)).1, List.filter_eq_self.mpr fun x hx => by
      exact bne_iff_ne.mpr (hapart x (List.mem_append_right _ hx)).1]
  unfold widen
  dsimp only
  rw [hothers, Edit.join_eq_merged, absorb_of_apart fun x hx => (hapart x hx).2]
  dsimp only
  rw [nameMerged_one new _ w' hn, mem_insertById]

theorem widen_length {es : List Edit} {w : Edit} (hw : w ∈ es) (w' new : Edit) : (widen es w w' new).length ≤ es.length := by
  obtain ⟨r, hit, habs, hwiden⟩ := widen_eq es w w' new
  rw [hwiden, (insertById_perm ..).length_eq, List.length_cons]
  exact Nat.le_trans (Nat.succ_le_succ habs.left.length_le) (others_length hw)

end

/-! ### The newest entry (R98) -/

theorem serialLt_irrefl (a : Word) : serialLt a a = false := by
  unfold serialLt serialDiff
  simp

/-- `w` is newer than every other entry of the list. -/
theorem foldl_newer {w : Edit} {l : List Edit} (hl : ∀ x ∈ l, x = w ∨ (serialLt x.start w.start = true ∧ serialLt w.start x.start = false) ∨
      (x.start = w.start ∧ x.id < w.id)) : l.foldl Edit.newer w = w := by
  induction l with
  | nil => rfl
  | cons x l ih =>
    obtain ⟨hx, hl⟩ := List.forall_mem_cons.mp hl
    have hstays : w.newer x = w := by
      unfold Edit.newer
      obtain rfl | ⟨hlt, hnot⟩ | ⟨hstart, hid⟩ := hx
      · exact ite_self _
      · have hne : (w.start == x.start) = false := by
          rw [beq_eq_false_iff_ne]
          intro heq
          rw [heq, serialLt_irrefl] at hlt
          cases hlt
        rw [hnot, hne]
        rfl
      · rw [hstart, serialLt_irrefl, decide_eq_false (Nat.not_lt.mpr (Nat.le_of_lt hid)), Bool.and_false]
        rfl
    rw [List.foldl_cons, hstays]
    exact ih hl

/-- A part that is older gives way to it. -/
theorem newer_of_older {w x : Edit} (h : x = w ∨ (serialLt x.start w.start = true ∧ serialLt w.start x.start = false) ∨
    (x.start = w.start ∧ x.id < w.id)) : x.newer w = w := by
  unfold Edit.newer
  obtain rfl | ⟨hlt, -⟩ | ⟨hstart, hid⟩ := h
  · exact ite_self _
  · rw [hlt]
    rfl
  · rw [hstart, beq_self_eq_true, decide_eq_true hid, Bool.and_self, Bool.or_true]
    rfl

theorem foldl_newer_mem {w : Edit} {l : List Edit} (e : Edit) (hw : w ∈ l)
    (hl : ∀ x ∈ e :: l, x = w ∨ (serialLt x.start w.start = true ∧ serialLt w.start x.start = false) ∨ (x.start = w.start ∧ x.id < w.id)) :
    l.foldl Edit.newer e = w := by
  induction l generalizing e with
  | nil => cases hw
  | cons x l ih =>
    rw [List.foldl_cons]
    obtain ⟨he, hx, hl'⟩ : _ ∧ _ ∧ _ := ⟨hl e List.mem_cons_self, hl x (by simp), fun y (hy : y ∈ l) => hl y (by simp [hy])⟩
    obtain rfl | hw := List.mem_cons.mp hw
    · rw [newer_of_older he]
      exact foldl_newer hl'
    · refine ih _ hw (List.forall_mem_cons.mpr ⟨?_, hl'⟩)
      unfold Edit.newer
      split
      · exact hx
      · exact he

/-- The entry that is newest of its kind is the one that is widened. -/
theorem newestOf_of_newestIs {s : State} {w : Edit} (hmem : w ∈ s.edits) (hnewest : s.newestIs w) : newestOf w.kind s.edits = some w := by
  have hw : w ∈ s.edits.filter fun e => e.kind == w.kind := List.mem_filter.mpr ⟨hmem, beq_self_eq_true _⟩
  have hall : ∀ x ∈ s.edits.filter (fun e => e.kind == w.kind), x = w ∨
      (serialLt x.start w.start = true ∧ serialLt w.start x.start = false) ∨ (x.start = w.start ∧ x.id < w.id) := fun x hx => by
    obtain ⟨hx, hkind⟩ := List.mem_filter.mp hx
    exact hnewest x hx (beq_iff_eq.mp hkind)
  unfold newestOf
  revert hw hall
  cases s.edits.filter fun e => e.kind == w.kind with
  | nil => exact fun hw => absurd hw List.not_mem_nil
  | cons e l =>
    intro hw hall
    refine congrArg some ?_
    obtain rfl | hw := List.mem_cons.mp hw
    · exact foldl_newer fun x hx => hall x (List.mem_cons_of_mem _ hx)
    · exact foldl_newer_mem e hw hall

theorem newestOf_of_other_kind {kind other : EditKind} {es : List Edit} (h : ∀ x ∈ es, x.kind = other) (hne : other ≠ kind) :
    newestOf kind es = none := by
  have hnone : es.filter (fun e => e.kind == kind) = [] :=
    List.filter_eq_nil_iff.mpr fun x hx => by rw [beq_iff_eq, h x hx]; exact hne
  unfold newestOf
  rw [hnone]

/-! ### The taps that a range is late for (R85) -/

theorem State.latched_congr (s : State) {b c : Fin 4 → Word} (h : ∀ i, b i = c i) : s.latched b = s.latched c := by rw [funext h]

theorem State.raiseTap_latched (s : State) (i : Fin 4) (e : Event) :
    s.raiseTap i e = s.latched fun k => if k = i then 1#32 <<< e.bit else 0#32 := by
  have htaps : (s.raiseTap i e).taps = (s.latched fun k => if k = i then 1#32 <<< e.bit else 0#32).taps := PerTap.ext_get fun k => by
    show (s.modifyTap i (·.raise e)).tap k = (s.latched _).tap k
    rw [State.tap_modifyTap, State.tap_latched]
    split
    · next hk =>
      subst hk
      rfl
    · rw [BitVec.or_zero]
  show ({ s with taps := (s.raiseTap i e).taps } : State) = _
  rw [htaps]
  rfl

theorem State.raiseLate_latched (new : Edit) (s : State) (i : Fin 4) :
    State.raiseLate new s i = s.latched fun k => if k = i then s.lateBit new i else 0#32 := by
  have hcond : ((s.tap i).active && new.applies i && serialLe new.start (s.tap i).bound) = true ↔
      (s.tap i).active = true ∧ hasTap new.taps i = true ∧ serialLe new.start (s.tap i).bound = true := by
    rw [Bool.and_eq_true, Bool.and_eq_true, and_assoc]
    rfl
  unfold State.raiseLate State.lateBit
  by_cases hlate : (s.tap i).active = true ∧ hasTap new.taps i = true ∧ serialLe new.start (s.tap i).bound = true
  · rw [if_pos (hcond.mpr hlate), if_pos hlate]
    exact s.raiseTap_latched i .editLate
  · rw [if_neg ((not_congr hcond).mpr hlate), if_neg hlate]
    exact (s.latched_zero.symm).trans (s.latched_congr fun k => (ite_self _).symm)

theorem State.lateBit_latched (s : State) (new : Edit) (b : Fin 4 → Word) (i : Fin 4) : (s.latched b).lateBit new i = s.lateBit new i := by
  unfold State.lateBit
  rw [State.tap_latched]
  rfl

theorem State.foldl_raiseLate (s : State) (new : Edit) : tapIds.foldl (State.raiseLate new) s = s.latched (s.lateBit new) := by
  show State.raiseLate new (State.raiseLate new (State.raiseLate new (State.raiseLate new s 0) 1) 2) 3 = _
  simp only [State.raiseLate_latched, State.lateBit_latched, State.latched_latched]
  refine s.latched_congr fun k => ?_
  match k with
  | 0 => simp
  | 1 => simp
  | 2 => simp
  | 3 => simp

/-- A range that was taken: the spent entries leave, and the taps bound in it latch EDIT_LATE. -/
theorem State.tookRange_eq (s : State) (new : Edit) (es : List Edit) :
    s.tookRange new es = { s with edits := es.filter fun e => !s.spent e, taps := s.latching (s.lateBit new) } := by
  have hlate : State.lateBit { s with edits := es } new = s.lateBit new := rfl
  unfold State.tookRange
  rw [State.foldl_raiseLate, hlate]
  unfold State.pruneSpent
  rw [State.spent_latched, State.spent_withEdits]
  rfl

end Sys2Proof.Machine

/-! SUPPORT. In-band marks and CANCEL EDIT (R63, R94 to R97, R100). -/

namespace Sys2Proof.Machine

/-! ### The mapping of a start SEQ (Table 36) -/

theorem find?_reverse_eq_some_iff {α : Type} {p : α → Bool} {l : List α} {b : α} :
    l.reverse.find? p = some b ↔ p b = true ∧ ∃ pre post, l = pre ++ b :: post ∧ ∀ y ∈ post, p y = false := by
  rw [List.find?_eq_some_iff_append]
  refine and_congr_right fun _ => ?_
  constructor
  · rintro ⟨as, bs, h, has⟩
    refine ⟨bs.reverse, as.reverse, ?_, fun y hy => ?_⟩
    · rw [← List.reverse_reverse l, h]
      simp
    · exact Bool.not_eq_true' _ ▸ has y (List.mem_reverse.mp hy)
  · rintro ⟨pre, post, rfl, hpost⟩
    refine ⟨post.reverse, pre.reverse, by simp, fun y hy => ?_⟩
    rw [hpost y (List.mem_reverse.mp hy)]
    rfl

theorem find?_eq_some_iff_first {α : Type} {p : α → Bool} {l : List α} {b : α} :
    l.find? p = some b ↔ p b = true ∧ ∃ pre post, l = pre ++ b :: post ∧ ∀ y ∈ pre, p y = false := by
  rw [List.find?_eq_some_iff_append]
  simp only [Bool.not_eq_true']

section
variable {s : State} {q : Word}

theorem State.bySeq_eq_some_iff (x : TimelineEntry) :
    s.bySeq q = some x ↔ x.seq = some q ∧ ∃ pre post, s.timeline.entries = pre ++ x :: post ∧ ∀ y ∈ post, y.seq ≠ some q := by
  unfold State.bySeq
  rw [find?_reverse_eq_some_iff]
  simp only [beq_iff_eq, beq_eq_false_iff_ne]

theorem State.bySeq_eq_none_iff : s.bySeq q = none ↔ ∀ y ∈ s.timeline.entries, y.seq ≠ some q := by
  unfold State.bySeq
  rw [List.find?_eq_none]
  simp only [List.mem_reverse, beq_iff_eq]

theorem State.liveSeqEntry_eq_some_iff (x : TimelineEntry) :
    s.liveSeqEntry = some x ↔ x.seq ≠ none ∧ ∃ pre post, s.timeline.entries = pre ++ x :: post ∧ ∀ y ∈ post, y.seq = none := by
  unfold State.liveSeqEntry
  rw [find?_reverse_eq_some_iff, Option.isSome_iff_ne_none]
  simp only [Option.isSome_eq_false_iff, Option.isNone_iff_eq_none]

theorem State.headSeqEntry_eq_some_iff (x : TimelineEntry) :
    s.headSeqEntry = some x ↔ x.seq ≠ none ∧ ∃ pre post, s.timeline.entries = pre ++ x :: post ∧ ∀ y ∈ pre, y.seq = none := by
  unfold State.headSeqEntry
  rw [find?_eq_some_iff_first, Option.isSome_iff_ne_none]
  simp only [Option.isSome_eq_false_iff, Option.isNone_iff_eq_none]

/-- A start SEQ maps as Table 36 says. -/
theorem State.mapMark_eq_some_iff (n : Nat) (p : Word) (m : Nat) (clipped : Bool) : s.mapMark q n = some (p, m, clipped) ↔ s.markMaps q n p m clipped := by
  unfold State.mapMark State.markMaps
  cases hfound : s.bySeq q with
  | some x =>
    obtain ⟨hseq, pre, post, hentries, hpost⟩ := (State.bySeq_eq_some_iff x).mp hfound
    dsimp only
    rw [Option.some.injEq, Prod.mk.injEq, Prod.mk.injEq]
    constructor
    · rintro ⟨rfl, rfl, rfl⟩
      exact .inl ⟨pre, x, post, hentries, hseq, hpost, rfl, rfl, rfl⟩
    · rintro (⟨pre', y, post', hentries', hseq', hpost', rfl, rfl, rfl⟩ | ⟨hnone, -⟩)
      · have hsame := (State.bySeq_eq_some_iff y).mpr ⟨hseq', pre', post', hentries', hpost'⟩
        rw [hfound] at hsame
        cases hsame
        exact ⟨rfl, rfl, rfl⟩
      · exact absurd hseq (hnone x (by rw [hentries]; simp))
  | none =>
    have hnone := State.bySeq_eq_none_iff.mp hfound
    constructor
    · intro h
      dsimp only at h
      split at h
      · next l hd hlive hhead =>
        obtain ⟨hl, pre, post, hentries, hpost⟩ := (State.liveSeqEntry_eq_some_iff l).mp hlive
        obtain ⟨hh, pre', post', hentries', hpre'⟩ := (State.headSeqEntry_eq_some_iff hd).mp hhead
        obtain ⟨lseq, hlseq⟩ := Option.ne_none_iff_exists'.mp hl
        obtain ⟨hseq, hhseq⟩ := Option.ne_none_iff_exists'.mp hh
        rw [hlseq, hhseq] at h
        refine .inr ⟨hnone, pre, l, post, hd, lseq, hseq, pre', post', hentries, hpost, hlseq, hentries', hpre', hhseq, ?_⟩
        split at h
        · next hahead =>
          cases h
          exact .inl ⟨hahead.1, hahead.2, rfl, rfl, rfl⟩
        · next hahead =>
          rw [Option.ite_none_right_eq_some] at h
          obtain ⟨hbehind, h⟩ := h
          cases h
          exact .inr ⟨hahead, hbehind.1, hbehind.2, rfl, rfl, rfl⟩
      · cases h
    · rintro (⟨pre, y, post, hentries, hseq, -⟩ |
        ⟨-, pre, live, post, head, lseq, hseq, pre', post', hentries, hpost, hlive, hentries', hpre', hhead, hmaps⟩)
      · exact absurd hseq (hnone y (by rw [hentries]; simp))
      · have hl := (State.liveSeqEntry_eq_some_iff (s := s) live).mpr ⟨by rw [hlive]; exact nofun, pre, post, hentries, hpost⟩
        have hh := (State.headSeqEntry_eq_some_iff (s := s) head).mpr ⟨by rw [hhead]; exact nofun, pre', post', hentries', hpre'⟩
        dsimp only
        rw [hl, hh]
        dsimp only
        rw [hlive, hhead]
        dsimp only [Option.getD_some]
        obtain ⟨hlow, hhigh, rfl, rfl, rfl⟩ | ⟨hno, hlow, hhigh, rfl, rfl, rfl⟩ := hmaps
        · exact if_pos ⟨hlow, hhigh⟩
        · exact (if_neg hno).trans (if_pos ⟨hlow, hhigh⟩)

end

end Sys2Proof.Machine

/-! SUPPORT. A MARK DROP settled against the entries captured (R90, R96). -/

namespace Sys2Proof.Machine

/-! ### The settling of a TRAILING drop along the timeline -/

/-- A TRAILING drop made of `base`, its reach at `r` after `k` extensions. -/
def Edit.trailingAt (base : Edit) (r : Word) (k : Nat) : Edit :=
  { base with state := .trailing, stop := none, reach := some r, limitBase := none, extension := k }

/-- The PI of a list's last entry, or `r`. -/
def lastPi (r : Word) (l : List TimelineEntry) : Word := (l.getLast?.map (·.pi)).getD r

/-- Each entry of the list lies above the one before it, the first above `r`. -/
def rises : Word → List TimelineEntry → Prop
  | _, [] => True
  | r, e :: l => serialLe e.pi r = false ∧ rises e.pi l

theorem lastPi_cons (r : Word) (e : TimelineEntry) (l : List TimelineEntry) : lastPi r (e :: l) = lastPi e.pi l := by
  unfold lastPi
  rw [List.getLast?_cons]
  cases l.getLast? <;> rfl

/-- What the entries up to a closing one make of a TRAILING drop. -/
def Edit.settledBy (snap : Nat) (d : Edit) (l : List TimelineEntry) : Edit := l.foldl (fun d e => d.settleAt snap e.pi e.cutOk) d

theorem Edit.settledBy_closed {snap : Nat} {d : Edit} (l : List TimelineEntry) (h : d.state ≠ .trailing) : d.settledBy snap l = d := by
  unfold Edit.settledBy
  induction l with
  | nil => rfl
  | cons e l ih => rw [List.foldl_cons, Edit.settleAt_of_ne _ _ _ h, ih]

section
variable {snap : Nat} (hsnap : snap ≤ 255) (base : Edit)
include hsnap

/-- Entries that are no cut points extend the reach, while the count stays short of the snap reach. -/
theorem Edit.settledBy_extends {l rest : List TimelineEntry} {r : Word} {k : Nat} (hl : ∀ y ∈ l, y.cutOk = false) (hrises : rises r (l ++ rest))
    (hk : k + l.length < snap) :
    (base.trailingAt r k).settledBy snap (l ++ rest) = (base.trailingAt (lastPi r l) (k + l.length)).settledBy snap rest ∧
      rises (lastPi r l) rest := by
  induction l generalizing r k with
  | nil => exact ⟨rfl, hrises⟩
  | cons e l ih =>
    obtain ⟨hcut, hl⟩ := List.forall_mem_cons.mp hl
    obtain ⟨hr, hrises⟩ := hrises
    rw [List.length_cons] at hk
    have hstep : (base.trailingAt r k).settleAt snap e.pi e.cutOk = base.trailingAt e.pi (k + 1) := by
      rw [Edit.settleAt_of_trailing (r := r) _ _ _ rfl rfl, if_neg (Bool.eq_false_iff.mp hr), if_neg (Bool.eq_false_iff.mp hcut),
        show min ((base.trailingAt r k).extension + 1) 255 = k + 1 from Nat.min_eq_left (by show k + 1 ≤ 255; omega), if_neg (by omega)]
      rfl
    have hrest := ih hl hrises (k := k + 1) (by omega)
    rw [lastPi_cons, List.length_cons, show k + (l.length + 1) = k + 1 + l.length by omega]
    refine ⟨Eq.trans ?_ hrest.1, hrest.2⟩
    show (List.foldl _ _ _ : Edit) = _
    rw [List.cons_append, List.foldl_cons, hstep]
    rfl

/-- A cut point closes the drop below it. -/
theorem Edit.settledBy_cut {pre post : List TimelineEntry} {x : TimelineEntry} {r : Word} (hpre : ∀ y ∈ pre, y.cutOk = false)
    (hx : x.cutOk = true) (hrises : rises r (pre ++ x :: post)) (hk : pre.length < snap) :
    (base.trailingAt r 0).settledBy snap (pre ++ x :: post) =
      { base with state := .closed, stop := some (x.pi - 1#32), reach := none, limitBase := none, extension := pre.length } := by
  obtain ⟨hpre, hr, -⟩ := Edit.settledBy_extends hsnap base (k := 0) hpre hrises (by omega)
  rw [hpre, Nat.zero_add]
  have hstep : (base.trailingAt (lastPi r pre) pre.length).settleAt snap x.pi x.cutOk = (base.trailingAt (lastPi r pre) pre.length).close (x.pi - 1#32) := by
    rw [Edit.settleAt_of_trailing (r := lastPi r pre) _ _ _ rfl rfl, if_neg (Bool.eq_false_iff.mp hr), if_pos hx]
  unfold Edit.settledBy
  rw [List.foldl_cons, hstep]
  exact Edit.settledBy_closed (snap := snap) post nofun

/-- The snap reach closes the drop ROUGH. -/
theorem Edit.settledBy_rough {pre post : List TimelineEntry} {x : TimelineEntry} {r : Word} (hpre : ∀ y ∈ pre, y.cutOk = false)
    (hx : x.cutOk = false) (hrises : rises r (pre ++ x :: post)) (hk : pre.length + 1 = snap) :
    (base.trailingAt r 0).settledBy snap (pre ++ x :: post) =
      { base with state := .closed, stop := some x.pi, reach := none, limitBase := none, rough := true, extension := snap } := by
  obtain ⟨hpre, hr, -⟩ := Edit.settledBy_extends hsnap base (k := 0) hpre hrises (by omega)
  rw [hpre, Nat.zero_add]
  have hstep : (base.trailingAt (lastPi r pre) pre.length).settleAt snap x.pi x.cutOk =
      { (base.trailingAt (lastPi r pre) pre.length).close x.pi with rough := true, extension := snap } := by
    rw [Edit.settleAt_of_trailing (r := lastPi r pre) _ _ _ rfl rfl, if_neg (Bool.eq_false_iff.mp hr), if_neg (Bool.eq_false_iff.mp hx),
      show min ((base.trailingAt (lastPi r pre) pre.length).extension + 1) 255 = snap from by
        show min (pre.length + 1) 255 = snap
        omega, if_pos (Nat.le_refl _)]
  unfold Edit.settledBy
  rw [List.foldl_cons, hstep]
  exact Edit.settledBy_closed (snap := snap) post nofun

/-- Short of both it is still TRAILING. -/
theorem Edit.settledBy_open {l : List TimelineEntry} {r : Word} (hl : ∀ y ∈ l, y.cutOk = false) (hrises : rises r l) (hk : l.length < snap) :
    (base.trailingAt r 0).settledBy snap l = base.trailingAt (lastPi r l) l.length := by
  have h := (Edit.settledBy_extends hsnap base (k := 0) (rest := []) hl (by rw [List.append_nil]; exact hrises) (by omega)).1
  rw [List.append_nil, Nat.zero_add] at h
  exact h

end

/-! ### The entries above a mark -/

theorem rises_of_pairwise {x z : Word} {l : List TimelineEntry} (hz : stepsBack x z < 2147483648)
    (hnear : ∀ e ∈ l, stepsBack x e.pi < stepsBack x z) (hl : l.Pairwise fun a b => stepsBack x b.pi < stepsBack x a.pi) : rises z l := by
  induction l generalizing z with
  | nil => trivial
  | cons e l ih =>
    obtain ⟨he, -⟩ := List.forall_mem_cons.mp hnear
    obtain ⟨hel, hl⟩ := List.pairwise_cons.mp hl
    have hle := serialLe_iff_stepsBack (a := e.pi) (b := z) (x := x) (by omega) hz
    exact ⟨Bool.eq_false_iff.mpr ((not_congr hle).mpr (by omega)), ih (by omega) hel hl⟩

/-- A PI that is 2048 further from the base lies 2048 further back. -/
theorem stepsBack_add {x a : Word} (h : stepsBack x a < 4096) : stepsBack (x + 2048#32) a = stepsBack x a + 2048 := by
  unfold stepsBack at *
  bv_omega

/-- PROGRAM entries above `z` rise from it, as long as `z` lies near them. -/
theorem State.timelineOrdered.rises {s : State} (h : s.timelineOrdered) {z : Word} (hz : Machine.stepsBack (s.liveEdge + 2048#32) z < 2147483648) :
    Machine.rises z ((s.above z).filter fun e => e.gap.isNone) := by
  have hnear (e : TimelineEntry) (he : e ∈ s.timeline.entries) :
      Machine.stepsBack (s.liveEdge + 2048#32) e.pi = Machine.stepsBack s.liveEdge e.pi + 2048 ∧ Machine.stepsBack s.liveEdge e.pi < 4096 := by
    have hlt := Nat.lt_of_lt_of_le (h.stepsBack_lt he) h.length_le
    exact ⟨stepsBack_add hlt, hlt⟩
  refine rises_of_pairwise hz (fun e he => ?_) ?_
  · obtain ⟨he, habove⟩ := List.mem_filter.mp (List.mem_filter.mp he).1
    exact (serialLt_iff_stepsBack hz (by have := hnear e he; omega)).mp habove
  · refine (h.pairwise.imp_of_mem fun ha hb hab => ?_).filter _ |>.filter _
    rw [(hnear _ ha).1, (hnear _ hb).1]
    omega

theorem toNat_of_serialDiff {a b : Word} (hlow : 1 ≤ serialDiff a b) (hhigh : serialDiff a b ≤ 1024) : 1 ≤ (a - b).toNat ∧ (a - b).toNat ≤ 1024 := by
  unfold serialDiff at *
  rw [BitVec.toInt_eq_toNat_cond] at *
  split at hlow <;> omega

/-- A mark's range begins near the timeline, as far as 1024 above it, and holds at most 1024 positions. -/
theorem State.markMaps_start {s : State} {q p : Word} {n m : Nat} {clipped : Bool} (hmaps : s.markMaps q n p m clipped) :
    m ≤ n ∧ ∃ x ∈ s.timeline.entries, ∃ d : Word, d.toNat ≤ 1024 ∧ p = x.pi + d := by
  obtain ⟨pre, x, post, hentries, -, -, rfl, rfl, -⟩ |
    ⟨-, pre, live, post, head, lseq, hseq, pre', post', hlive, -, -, hhead, -, -,
      ⟨hlow, hhigh, rfl, rfl, -⟩ | ⟨-, -, -, rfl, rfl, -⟩⟩ := hmaps
  · exact ⟨Nat.le_refl _, x, by rw [hentries]; simp, 0#32, by decide, (BitVec.add_zero _).symm⟩
  · exact ⟨Nat.le_refl _, live, by rw [hlive]; simp, q - lseq, (toNat_of_serialDiff hlow hhigh).2, rfl⟩
  · exact ⟨Nat.sub_le .., head, by rw [hhead]; simp, 0#32, by decide, (BitVec.add_zero _).symm⟩

/-- A mark's end lies near the timeline. -/
theorem State.markMaps_near {s : State} (h : s.timelineOrdered) {q p : Word} {n m : Nat} {clipped : Bool} (hn : n ≤ 1024)
    (hmaps : s.markMaps q n p m clipped) : Machine.stepsBack (s.liveEdge + 2048#32) (p + BitVec.ofNat 32 m - 1#32) < 2147483648 := by
  obtain ⟨hm, x, hx, d, hd, rfl⟩ := State.markMaps_start hmaps
  have hlt := Nat.lt_of_lt_of_le (h.stepsBack_lt hx) h.length_le
  have hadd := stepsBack_add hlt
  have hm' : (BitVec.ofNat 32 m).toNat ≤ 1024 := by rw [BitVec.toNat_ofNat]; omega
  generalize BitVec.ofNat 32 m = k at hm' ⊢
  unfold Machine.stepsBack at *
  bv_omega

theorem State.timelineOrdered.entryAt {s : State} (h : s.timelineOrdered) {x : TimelineEntry} (hx : x ∈ s.timeline.entries) :
    s.entryAt x.pi = some x := by
  unfold State.entryAt
  cases hfind : s.timeline.entries.find? fun e => e.pi == x.pi with
  | none => exact absurd (beq_self_eq_true x.pi) (List.find?_eq_none.mp hfind x hx)
  | some y => rw [h.pi_inj (List.mem_of_find?_eq_some hfind) hx (beq_iff_eq.mp (List.find?_some (p := fun e : TimelineEntry => e.pi == x.pi) hfind))]

/-- The settled range of a MARK DROP is the one that the model makes. -/
theorem State.markDropRange_eq {s : State} (hordered : s.timelineOrdered) (hsnap : s.store.config.snapReach ≤ 255) {taps : BitVec 4}
    {p z : Word} {new : Edit} (hrises : rises z ((s.above z).filter fun e => e.gap.isNone)) (h : s.settledDropIs taps p z new) :
    s.markDropRange taps p z = new := by
  have hopen (hne : s.store.config.snapReach ≠ 0) : s.markDropRange taps p z =
      ((markBase .drop taps p z).trailingAt z 0).settledBy s.store.config.snapReach ((s.above z).filter fun e => e.gap.isNone) := if_neg hne
  obtain ⟨hzero, x, hx, hpi, rfl⟩ | ⟨hzero, hnone, rfl⟩ | ⟨pre, x, post, hahead, hpre, hlt, hcut, rfl⟩ |
    ⟨pre, x, post, hahead, hpre, hcut, hlen, rfl⟩ | ⟨hall, hlt, rfl⟩ := h
  · have hentry := hordered.entryAt hx
    rw [hpi] at hentry
    exact (if_pos hzero).trans (by rw [hentry]; rfl)
  · have hentry : s.entryAt (z + 1#32) = none := List.find?_eq_none.mpr fun x hx => by
      rw [beq_iff_eq]
      exact hnone x hx
    exact (if_pos hzero).trans (by rw [hentry]; rfl)
  · rw [hopen (by omega)]
    rw [hahead] at hrises ⊢
    exact Edit.settledBy_cut hsnap _ hpre hcut hrises hlt
  · rw [hopen (by omega)]
    rw [hahead] at hrises ⊢
    exact Edit.settledBy_rough hsnap _ hpre hcut hrises hlen
  · rw [hopen (by omega)]
    exact Edit.settledBy_open hsnap _ hall hrises hlt

end Sys2Proof.Machine

/-! SUPPORT. O56: in-band marks and CANCEL EDIT at the edit list. -/

namespace Sys2Proof.Machine

section
variable {s : State} {taps : BitVec 4} {count : Nat} {q : Word} {kind : EditKind}

/-- A mark without taps, of count 0 or with a start SEQ that does not map has no effect (R94). -/
theorem State.mark_refused (h : taps = 0#4 ∨ count = 0 ∨ s.mapMark q (min count 1024) = none) : s.mark kind taps count q = (s, .refusedRange) := by
  unfold State.mark
  by_cases hempty : taps = 0#4 ∨ count = 0
  · exact if_pos hempty
  · obtain ⟨htaps, hcount⟩ := not_or.mp hempty
    have hnone : s.mapMark q (min count Config.markMax) = none := (h.resolve_left htaps).resolve_left hcount
    rw [if_neg hempty]
    dsimp only
    rw [hnone]

variable {p : Word} {m : Nat} {clipped : Bool}

theorem State.mark_of_maps (htaps : taps ≠ 0#4) (hcount : count ≠ 0) (hmaps : s.mapMark q (min count 1024) = some (p, m, clipped)) {new : Edit}
    (hnew : s.markRange kind taps p (p + BitVec.ofNat 32 m - 1#32) = new) :
    (offerRange s.edits new = none → s.mark kind taps count q = (s, .refusedFull)) ∧
    ∀ es, offerRange s.edits new = some es → s.mark kind taps count q =
      ((s.raiseUnless (!new.rough) .spliceRough).tookRange new es, if clipped = true ∨ min count 1024 < count then .clamped else .accepted) := by
  have hmaps' : s.mapMark q (min count Config.markMax) = some (p, m, clipped) := hmaps
  unfold State.mark
  rw [if_neg (not_or.mpr ⟨htaps, hcount⟩)]
  dsimp only
  rw [hmaps']
  dsimp only
  rw [hnew]
  constructor
  · intro hoffer
    rw [hoffer]
  · intro es hoffer
    rw [hoffer]
    rfl

/-- A mark that is taken: SPLICE_ROUGH for a ROUGH one, EDIT_LATE for the taps bound in it, and the spent entries leave. -/
theorem State.tookRange_mark (s : State) (new : Edit) (es : List Edit) :
    (s.raiseUnless (!new.rough) .spliceRough).tookRange new es =
      { s with
        edits := es.filter fun e => !s.spent e
        taps := s.latching fun i => (if new.rough then 0x20000000#32 else 0#32) ||| s.lateBit new i } := by
  rw [State.raiseUnless_latched, State.tookRange_eq, State.spent_latched]
  show ({ (s.latched _).latched _ with edits := _ } : State) = _
  rw [State.latched_latched]
  have hbits : (fun i => (if (!new.rough) = true then 0#32 else 1#32 <<< Event.spliceRough.bit) |||
      (s.latched fun _ => if (!new.rough) = true then 0#32 else 1#32 <<< Event.spliceRough.bit).lateBit new i) =
      fun i => (if new.rough then 0x20000000#32 else 0#32) ||| s.lateBit new i := funext fun i => by
    rw [State.lateBit_latched]
    cases new.rough <;> rfl
  rw [hbits]
  rfl

/-- The range of a mark is the one that the obligation says. -/
theorem State.markRange_eq {s : State} (hordered : s.timelineOrdered) (hsnap : s.store.config.snapReach ≤ 255) {kind : EditKind} {taps : BitVec 4}
    {q p : Word} {n m : Nat} {clipped : Bool} (hn : n ≤ 1024) (hmaps : s.markMaps q n p m clipped) {new : Edit}
    (hnew : kind = .mask ∧ new = markBase .mask taps p (p + BitVec.ofNat 32 m - 1#32) ∨
      kind = .drop ∧ s.settledDropIs taps p (p + BitVec.ofNat 32 m - 1#32) new) :
    s.markRange kind taps p (p + BitVec.ofNat 32 m - 1#32) = new := by
  obtain ⟨rfl, rfl⟩ | ⟨rfl, hsettled⟩ := hnew
  · rfl
  · exact State.markDropRange_eq hordered hsnap (hordered.rises (State.markMaps_near hordered hn hmaps)) hsettled

end

/-! ### CANCEL EDIT (R100) -/

/-- A tap of its mask has reached the entry. -/
def State.begun (s : State) (x : Edit) : Prop := ∃ i, (s.tap i).active = true ∧ hasTap x.taps i = true ∧ serialLe x.start (s.tap i).bound = true

theorem State.cancelEdit_unknown {s : State} {id : Nat} (h : ∀ x ∈ s.edits, x.id ≠ id) : s.cancelEdit id = (s, .refusedRange) := by
  have hnone : s.edits.find? (fun e => e.id == id) = none := List.find?_eq_none.mpr fun x hx => by
    rw [beq_iff_eq]
    exact h x hx
  unfold State.cancelEdit
  rw [hnone]

theorem State.cancelEdit_known {s : State} {id : Nat} {pre post : List Edit} {x : Edit} (hedits : s.edits = pre ++ x :: post) (hid : x.id = id)
    (hothers : ∀ y ∈ pre ++ post, y.id ≠ id) :
    (s.begun x → s.cancelEdit id = (s, .refusedState)) ∧ (¬ s.begun x → s.cancelEdit id = ({ s with edits := pre ++ post }, .accepted)) := by
  have hfind : s.edits.find? (fun e => e.id == id) = some x := find?_eq_some_iff_first.mpr
    ⟨beq_iff_eq.mpr hid, pre, post, hedits, fun y hy => beq_eq_false_iff_ne.mpr (hothers y (List.mem_append_left _ hy))⟩
  have hkept (l : List Edit) (hl : ∀ y ∈ l, y.id ≠ id) : l.filter (fun e => e.id != id) = l :=
    List.filter_eq_self.mpr fun y hy => bne_iff_ne.mpr (hl y hy)
  have hrest : s.edits.filter (fun e => e.id != id) = pre ++ post := by
    rw [hedits, List.filter_append, List.filter_cons_of_neg (by rw [hid]; simp), hkept pre fun y hy => hothers y (List.mem_append_left _ hy),
      hkept post fun y hy => hothers y (List.mem_append_right _ hy)]
  have hbegun : (s.activeTaps.any fun t => x.applies t && serialLe x.start (s.tap t).bound) = true ↔ s.begun x := by
    rw [List.any_eq_true]
    exact exists_congr fun i => and_congr (State.mem_activeTaps s i) (by rw [Bool.and_eq_true]; rfl)
  unfold State.cancelEdit
  rw [hfind, hrest]
  exact ⟨fun h => if_pos (hbegun.mpr h), fun h => if_neg ((not_congr hbegun).mpr h)⟩

/-! ### The commands -/

theorem runCommand_mark (s : State) {e : ControlEntry} {kind : EditKind} (h : e.code = 0x05#8 ∧ kind = .drop ∨ e.code = 0x06#8 ∧ kind = .mask) :
    runCommand s e = s.mark kind e.taps e.argA.toNat e.argB := by
  obtain ⟨hcode, rfl⟩ | ⟨hcode, rfl⟩ := h <;> simp [runCommand, hcode]

theorem runCommand_cancelEdit (s : State) {e : ControlEntry} (h : e.code = 0x07#8) : runCommand s e = s.cancelEdit e.argA.toNat := by
  simp [runCommand, h]

theorem State.executeEntry_mark {s u : State} {q : Word} {e : ControlEntry} {kind : EditKind} {r : CmdResult}
    (h : e.code = 0x05#8 ∧ kind = .drop ∨ e.code = 0x06#8 ∧ kind = .mask) (hmark : s.mark kind e.taps e.argA.toNat e.argB = (u, r)) :
    State.executeEntry q s e = u.resulted e q r := by
  have hrun := (runCommand_mark s h).trans hmark
  obtain ⟨hcode, -⟩ | ⟨hcode, -⟩ := h
  · exact State.executeEntry_unguarded q hcode (by decide) hrun
  · exact State.executeEntry_unguarded q hcode (by decide) hrun

theorem State.executeEntry_cancelEdit {s u : State} {q : Word} {e : ControlEntry} {r : CmdResult} (h : e.code = 0x07#8)
    (hcancel : s.cancelEdit e.argA.toNat = (u, r)) : State.executeEntry q s e = u.resulted e q r :=
  State.executeEntry_unguarded q h (by decide) ((runCommand_cancelEdit s h).trans hcancel)

/-- Settles O56: the mapping, the settled range and the list's answer are those of `mark`, the last by the rules of `offerRange`. -/
theorem marksAndCancelsActOnTheEditList : Obligations.MarksAndCancelsActOnTheEditList := by
  refine ⟨fun s q e kind hkind hordered hsnap => ?_, fun s q e hcode => ?_⟩
  · dsimp only
    have hcount : e.argA.toNat = 0 ↔ e.argA = 0#16 := by rw [← BitVec.toNat_inj]; rfl
    refine ⟨fun hempty => ?_, fun htaps hargA p m clipped hmaps new hnew => ?_⟩
    · refine State.executeEntry_mark hkind (State.mark_refused (hempty.imp_right (Or.imp hcount.mpr fun hno => ?_)))
      rw [Option.eq_none_iff_forall_ne_some]
      exact fun ⟨p, m, clipped⟩ hmaps => hno p m clipped ((State.mapMark_eq_some_iff ..).mp hmaps)
    · have hrange := State.markRange_eq hordered hsnap (Nat.min_le_right ..) hmaps hnew
      obtain ⟨hfull, htaken⟩ := State.mark_of_maps htaps ((not_congr hcount).mpr hargA) ((State.mapMark_eq_some_iff ..).mpr hmaps) hrange
      refine ⟨fun hlength hapart => ?_, fun hroom => ?_⟩
      · exact State.executeEntry_mark hkind (hfull ((offerRange_eq_none_iff ..).mpr ⟨hlength, hapart⟩))
      · cases hoffer : offerRange s.edits new with
        | none =>
          obtain ⟨hlength, hapart⟩ := (offerRange_eq_none_iff ..).mp hoffer
          obtain hlt | ⟨x, hx, htouch⟩ := hroom
          · exact absurd hlength (Nat.not_le.mpr hlt)
          · exact absurd htouch (hapart x hx)
        | some es =>
          have ht := State.executeEntry_mark (q := q) hkind (htaken es hoffer)
          have hclamp : min e.argA.toNat 1024 < e.argA.toNat ↔ 1024 < e.argA.toNat := by omega
          rw [State.tookRange_mark] at ht
          simp only [hclamp] at ht
          rw [ht]
          exact ⟨rfl, fun x hx => ((mem_kept s es x).mp hx).2, State.takesRange_of_offer hoffer⟩
  · refine ⟨fun hno => State.executeEntry_cancelEdit hcode (State.cancelEdit_unknown hno), fun pre x post hedits hid hothers => ?_⟩
    obtain ⟨hbegun, hunbegun⟩ := State.cancelEdit_known hedits hid hothers
    exact ⟨fun h => State.executeEntry_cancelEdit hcode (hbegun h), fun h => State.executeEntry_cancelEdit hcode (hunbegun h)⟩

end Sys2Proof.Machine

/-! SUPPORT. The panel's ranges: the panel floor, the dump walk, and a range that is taken or widened into an entry (R84, R86, R98, R99). -/

namespace Sys2Proof.Machine

/-! ### The panel floor (R86) -/

/-- The lowest of some bounds is the one that all others lie above. -/
theorem foldl_serialMin_eq {f : Fin 4 → Word} {low : Word} {l : List (Fin 4)} {b : Word}
    (hb : b = low ∨ (serialLt low b = true ∧ serialLt b low = false) ∧ ∃ i ∈ l, f i = low)
    (hl : ∀ i ∈ l, f i = low ∨ (serialLt low (f i) = true ∧ serialLt (f i) low = false)) :
    l.foldl (fun b u => serialMin b (f u)) b = low := by
  induction l generalizing b with
  | nil =>
    obtain rfl | ⟨-, i, hi, -⟩ := hb
    · rfl
    · cases hi
  | cons i l ih =>
    obtain ⟨hi, hl⟩ := List.forall_mem_cons.mp hl
    rw [List.foldl_cons]
    refine ih ?_ hl
    unfold serialMin
    obtain rfl | ⟨⟨hlow, hnot⟩, j, hj, hlowest⟩ := hb
    · obtain heq | ⟨-, hnot⟩ := hi
      · rw [heq, ite_self]
        exact .inl rfl
      · rw [if_neg (Bool.eq_false_iff.mp hnot)]
        exact .inl rfl
    · obtain heq | hi := hi
      · rw [heq, if_pos hlow]
        exact .inl rfl
      · have hlater : ∃ k ∈ l, f k = low := by
          obtain rfl | hj := List.mem_cons.mp hj
          · rw [hlowest, serialLt_irrefl] at hi
            cases hi.1
          · exact ⟨j, hj, hlowest⟩
        split
        · exact .inr ⟨hi, hlater⟩
        · exact .inr ⟨⟨hlow, hnot⟩, hlater⟩

theorem State.lowestBound_eq {s : State} {l : List (Fin 4)} {i : Fin 4} {low other : Word} (hi : i ∈ l) (hlow : low = (s.tap i).bound)
    (hl : ∀ j ∈ l, (s.tap j).bound = low ∨ (serialLt low (s.tap j).bound = true ∧ serialLt (s.tap j).bound low = false)) :
    s.lowestBound l other = low := by
  cases l with
  | nil => cases hi
  | cons t rest =>
    obtain ⟨ht, hrest⟩ := List.forall_mem_cons.mp hl
    refine foldl_serialMin_eq (f := fun u => (s.tap u).bound) ?_ hrest
    obtain rfl | hi := List.mem_cons.mp hi
    · exact .inl hlow.symm
    · exact ht.imp_right fun ht => ⟨ht, i, hi, hlow.symm⟩

theorem State.panelFloor_eq {s : State} {f : Word} (h : s.panelFloorIs f) : s.panelFloor = f := by
  obtain ⟨hempty, hsome⟩ := h
  unfold State.panelFloor State.head?
  cases hentries : s.timeline.entries with
  | nil => exact (hempty hentries).symm
  | cons e rest =>
    obtain ⟨low, hlow, rfl⟩ := hsome e rest hentries
    have hmem (i : Fin 4) : i ∈ s.activeTaps.filter (hasTap s.store.config.panelTaps) ↔
        hasTap s.store.config.panelTaps i = true ∧ (s.tap i).active = true := by
      rw [List.mem_filter, State.mem_activeTaps, and_comm]
    have hbound : s.lowestBound (s.activeTaps.filter (hasTap s.store.config.panelTaps)) s.idleFloor = low := by
      obtain ⟨i, hi, hlow, hothers⟩ | ⟨hnone, rfl⟩ := hlow
      · exact State.lowestBound_eq ((hmem i).mpr hi) hlow fun j hj => hothers j ((hmem j).mp hj)
      · rw [List.eq_nil_iff_forall_not_mem.mpr fun i hi => hnone i ((hmem i).mp hi)]
        rfl
    dsimp only [List.head?_cons, Option.map_some]
    rw [hbound]

/-! ### The dump walk (R86) -/

/-- The walk counts the entries that are not dropped for every panel tap. -/
theorem State.dumpWalk_eq (s : State) (n : Nat) (start : Option Word) (l : List TimelineEntry) :
    s.dumpWalk n start l = ((((l.filter fun e => !s.droppedForPanel e.pi).take n).getLast?).map (·.pi)).or start := by
  induction l generalizing n start with
  | nil => cases n <;> simp [State.dumpWalk]
  | cons e l ih =>
    cases n with
    | zero => simp [State.dumpWalk]
    | succ n =>
      unfold State.dumpWalk
      cases hdropped : s.droppedForPanel e.pi with
      | true =>
        rw [if_pos rfl, ih, List.filter_cons_of_neg (by rw [hdropped]; decide)]
      | false =>
        rw [if_neg Bool.false_ne_true, ih, List.filter_cons_of_pos (by rw [hdropped]; rfl), List.take_succ_cons, List.getLast?_cons]
        cases (List.take n (l.filter fun e => !s.droppedForPanel e.pi)).getLast? <;> rfl

/-- The entries above the panel floor that are not dropped for every panel tap. -/
def State.undropped (s : State) : List TimelineEntry := (s.above s.panelFloor).filter fun e => !s.droppedForPanel e.pi

/-- The walk begins at the dump length's entry from the live edge, or at the lowest one. -/
theorem State.dumpStart_eq {s : State} (h : s.store.config.panelTaps ≠ 0#4) :
    s.dumpStart = s.undropped[s.undropped.length - min s.store.config.dumpLength s.undropped.length]?.map (·.pi) := by
  unfold State.dumpStart
  rw [if_neg h, State.dumpWalk_eq, Option.or_none, List.filter_reverse, List.take_reverse, List.getLast?_reverse, List.head?_drop]
  rw [show s.undropped.length - min s.store.config.dumpLength s.undropped.length = s.undropped.length - s.store.config.dumpLength by omega]
  rfl

/-! ### A range that is taken or widened into an entry (R84, R98, R99) -/

/-- The list takes the range, or, full for it, becomes `widened` with EDIT_WIDENED. -/
def State.takeOrWiden (s : State) (new : Edit) (widened : List Edit) : State :=
  match offerRange s.edits new with
  | some es => s.tookRange new es
  | none => (s.tookRange new widened).raiseAll .editWidened

/-- The list after it. -/
def State.takenOrWidened (s : State) (new : Edit) (widened : List Edit) : List Edit :=
  ((offerRange s.edits new).getD widened).filter fun e => !s.spent e

/-- The list is full for the range. -/
def State.fullFor (s : State) (new : Edit) : Prop := 32 ≤ s.edits.length ∧ ∀ x ∈ s.edits, ¬ new.touches x

section
variable {s : State} {new : Edit} (widened : List Edit)

theorem State.takenOrWidened_spent : ∀ x ∈ s.takenOrWidened new widened, s.spent x = false := fun x hx => ((mem_kept s _ x).mp hx).2

theorem State.offerRange_of_not_fullFor (h : ¬ s.fullFor new) : ∃ es, offerRange s.edits new = some es :=
  Option.ne_none_iff_exists'.mp ((not_congr (offerRange_eq_none_iff ..)).mpr h)

theorem State.takenOrWidened_of_fullFor (h : s.fullFor new) : s.takenOrWidened new widened = widened.filter fun e => !s.spent e := by
  unfold State.takenOrWidened
  rw [(offerRange_eq_none_iff ..).mpr h]
  rfl

theorem State.takeOrWiden_eq {wide : Bool} (h : wide = true ↔ s.fullFor new) :
    s.takeOrWiden new widened =
      { s with
        edits := s.takenOrWidened new widened
        taps := s.latching fun i => s.lateBit new i ||| if wide then 0x200000#32 else 0#32 } := by
  unfold State.takeOrWiden State.takenOrWidened
  cases hoffer : offerRange s.edits new with
  | some es =>
    have hnot : wide = false := Bool.eq_false_iff.mpr ((not_congr h).mpr fun hfull => by rw [(offerRange_eq_none_iff ..).mpr hfull] at hoffer; cases hoffer)
    subst hnot
    have hbits : (fun i => s.lateBit new i ||| if false = true then 0x200000#32 else 0#32) = s.lateBit new :=
      funext fun i => BitVec.or_zero
    rw [hbits]
    exact s.tookRange_eq new es
  | none =>
    have hwide : wide = true := h.mpr ((offerRange_eq_none_iff ..).mp hoffer)
    subst hwide
    dsimp only
    rw [State.tookRange_eq, State.raiseAll_latched]
    show ({ (s.latched (s.lateBit new)).latched (fun _ => 1#32 <<< Event.editWidened.bit) with edits := widened.filter fun e => !s.spent e } : State) = _
    rw [State.latched_latched]
    rfl

/-- Either way the list takes the range as the obligations say: a full list that it does not meet is not asked. -/
theorem State.takenOrWidened_takesRange : s.takesRange new (s.takenOrWidened new widened) := by
  by_cases hfull : s.fullFor new
  · obtain ⟨hlength, hapart⟩ := hfull
    refine ⟨fun _ hroom => absurd hlength (Nat.not_le.mpr hroom), fun pre w post hedits htouch => absurd htouch (hapart w ?_)⟩
    rw [hedits]
    simp
  · obtain ⟨es, hoffer⟩ := State.offerRange_of_not_fullFor hfull
    unfold State.takenOrWidened
    rw [hoffer]
    exact State.takesRange_of_offer hoffer

/-- An empty list then holds the range alone, unless it is CLOSED. -/
theorem State.takenOrWidened_of_empty (hempty : s.edits = []) (hid : new.id = 0) (hstate : new.state ≠ .closed) :
    s.takenOrWidened new widened = [new] := by
  have hfree : freeIdIs [] 0 := ⟨by decide, nofun, nofun⟩
  have hoffer : offerRange [] new = some [new] := by
    unfold offerRange
    rw [absorb_of_apart fun x hx => absurd hx List.not_mem_nil]
    dsimp only
    rw [if_neg fun hfull => absurd hfull.2 (by decide), nameMerged_none new new hfree, ← hid]
    rfl
  have hspent : s.spent new = false := Bool.eq_false_iff.mpr fun h => hstate (State.closed_of_spent h)
  unfold State.takenOrWidened
  rw [hempty, hoffer, Option.getD_some, List.filter_cons_of_pos (by rw [hspent]; rfl)]
  rfl

theorem State.takenOrWidened_length (hfull : s.fullFor new) (h : widened.length ≤ s.edits.length) :
    (s.takenOrWidened new widened).length ≤ s.edits.length := by
  rw [State.takenOrWidened_of_fullFor widened hfull]
  exact Nat.le_trans (List.length_filter_le ..) h

/-- A full list is widened as the obligations say. -/
theorem State.takenOrWidened_widensTo (hfull : s.fullFor new) {w w' range : Edit} (hwidened : w ∈ s.edits → widened = widen s.edits w w' range) :
    s.widensTo range w w' (s.takenOrWidened new widened) := by
  intro pre post hedits
  have hmem : w ∈ s.edits := by rw [hedits]; simp
  rw [State.takenOrWidened_of_fullFor widened hfull, hwidened hmem]
  exact State.widensTo_of_widen w w' pre post hedits

end

/-! ### What a press widens (R98, R99) -/

section
variable {es : List Edit} {s : State} {w : Edit} (l : Word) (new : Edit)

theorem widenForDump_length : (widenForDump l es new).length ≤ es.length := by
  unfold widenForDump
  split
  · next h => exact widen_length (newestOf_mem h).1 ..
  · split
    · next h => exact widen_length (newestOf_mem h).1 ..
    · exact Nat.le_refl _

theorem widenForMask_length : (widenForMask l es new).length ≤ es.length := by
  unfold widenForMask
  split
  · next h => exact widen_length (newestOf_mem h).1 ..
  · split
    · next h => exact widen_length (newestOf_mem h).1 ..
    · exact Nat.le_refl _

theorem widenForDump_drop (hmem : w ∈ s.edits) (hnewest : s.newestIs w) (hkind : w.kind = .drop) :
    widenForDump l s.edits new = widen s.edits w w new := by
  have h := newestOf_of_newestIs hmem hnewest
  rw [hkind] at h
  unfold widenForDump
  rw [h]

theorem widenForDump_mask (hmem : w ∈ s.edits) (hnewest : s.newestIs w) (hall : ∀ x ∈ s.edits, x.kind = .mask) :
    widenForDump l s.edits new = widen s.edits w (w.asDrop l) new := by
  have h := newestOf_of_newestIs hmem hnewest
  rw [hall w hmem] at h
  unfold widenForDump
  rw [newestOf_of_other_kind (kind := .drop) hall (by decide), h]

theorem widenForMask_mask (hmem : w ∈ s.edits) (hnewest : s.newestIs w) (hkind : w.kind = .mask) :
    widenForMask l s.edits new = widen s.edits w { w with limitBase := none } new := by
  have h := newestOf_of_newestIs hmem hnewest
  rw [hkind] at h
  unfold widenForMask
  rw [h]

theorem widenForMask_drop (hmem : w ∈ s.edits) (hnewest : s.newestIs w) (hall : ∀ x ∈ s.edits, x.kind = .drop) :
    widenForMask l s.edits new = widen s.edits w w (new.asTrailingDrop l) := by
  have h := newestOf_of_newestIs hmem hnewest
  rw [hall w hmem] at h
  unfold widenForMask
  rw [newestOf_of_other_kind (kind := .mask) hall (by decide), h]

end

end Sys2Proof.Machine

/-! SUPPORT. O54 and O55: the DUMP and MASK presses and the MASK release at the edit list. -/

namespace Sys2Proof.Machine

/-! ### The presses -/

theorem execDumpPress_eq {s : State} (h : s.canTake .dump true = true) : exec .dumpPress s = .next ((s.takeLine .dump).dump).refreshTally := if_pos h

theorem execMaskPress_eq {s : State} (h : s.canTake .mask true = true) : exec .maskPress s = .next ((s.takeLine .mask).openMask).refreshTally := if_pos h

theorem execMaskRelease_eq {s : State} (h : s.canTake .mask false = true) :
    exec .maskRelease s = .next ((s.takeLine .mask).closeMask).refreshTally := if_pos h

theorem State.dump_of_none {s : State} (h : s.dumpStart = none) : s.dump = s.raiseAll .dumpEmpty := by
  unfold State.dump
  rw [h]

theorem State.dump_of_some {s : State} {start : Word} (h : s.dumpStart = some start) :
    s.dump = s.takeOrWiden (s.dumpRange start) (widenForDump s.liveEdge s.edits (s.dumpRange start)) := by
  unfold State.dump
  rw [h]
  rfl

theorem State.droppedForPanel_iff (s : State) (x : Word) :
    s.droppedForPanel x = true ↔ ∀ i, hasTap s.store.config.panelTaps i = true → s.droppedFor i x = true := by
  unfold State.droppedForPanel
  rw [List.all_eq_true]
  simp only [mem_tapsOf]

/-- Nothing is left to drop. -/
theorem State.dumpStart_eq_none {s : State}
    (h : s.store.config.panelTaps = 0#4 ∨
      ∀ e ∈ s.above s.panelFloor, ∀ i, hasTap s.store.config.panelTaps i = true → s.droppedFor i e.pi = true) : s.dumpStart = none := by
  by_cases hmask : s.store.config.panelTaps = 0#4
  · exact if_pos hmask
  · have hnone : s.undropped = [] := List.filter_eq_nil_iff.mpr fun e he => by
      rw [(s.droppedForPanel_iff e.pi).mpr (h.resolve_left hmask e he)]
      decide
    rw [State.dumpStart_eq hmask, hnone]
    rfl

/-- Settles O54: the walk's start gives the range, which the list takes or is widened with. -/
theorem dumpPressesDropBehindTheLiveEdge : Obligations.DumpPressesDropBehindTheLiveEdge := by
  intro s floor hrunning hline hlength hfloor s1 mask ahead undropped trailing
  have hfloor' : s1.panelFloor = floor := State.panelFloor_eq hfloor
  have htake : s.canTake .dump true = true :=
    (s.canTake_iff .dump true).mpr ⟨hrunning, congrArg (·.interval) hline, congrArg (·.raw) hline, congrArg (·.debounced) hline⟩
  have hs1 : s.takeLine .dump = s1 := by
    show s.setLine .dump { s.panel.dumpLine with debounced := some s.panel.dumpLine.raw, interval := false } = s1
    rw [hline]
    rfl
  have hexec : exec .dumpPress s = .next s1.dump.refreshTally := by rw [execDumpPress_eq htake, hs1]
  have hahead : s1.above s1.panelFloor = ahead := by rw [hfloor']; rfl
  refine ⟨fun hempty => ?_, ?_⟩
  · have hnone : s1.dumpStart = none := State.dumpStart_eq_none (hempty.imp_right fun h => by rw [hahead]; exact h)
    rw [hexec, State.dump_of_none hnone]
    rfl
  · intro hmask first hfirst new full wide hwide
    have hundropped : s1.undropped = undropped := by
      unfold State.undropped
      rw [hahead]
      rfl
    have hstart : s1.dumpStart = some first.pi := by
      rw [State.dumpStart_eq (s := s1) hmask, hundropped, show undropped[undropped.length - min s1.store.config.dumpLength undropped.length]? = some first from hfirst]
      rfl
    have hpress : s1.dump = s1.takeOrWiden new (widenForDump s1.liveEdge s1.edits new) := State.dump_of_some hstart
    refine ⟨_, hexec, ?_, ?_, ?_, fun hnil htrailing => ?_, fun hfull => ⟨?_, fun w hnewest hkind => ?_, fun w hnewest hall => ?_⟩⟩ <;>
      rw [hpress, State.takeOrWiden_eq (s := s1) _ hwide]
    · rfl
    · exact State.takenOrWidened_spent (s := s1) _
    · exact State.takenOrWidened_takesRange (s := s1) _
    · refine State.takenOrWidened_of_empty (s := s1) _ hnil rfl ?_
      show (if trailing = true then EditState.trailing else .closed) ≠ .closed
      rw [if_pos htrailing]
      decide
    · exact State.takenOrWidened_length (s := s1) _ hfull (widenForDump_length ..)
    · exact State.takenOrWidened_widensTo (s := s1) _ hfull fun hmem => widenForDump_drop _ _ hmem hnewest hkind
    · exact State.takenOrWidened_widensTo (s := s1) _ hfull fun hmem => widenForDump_mask _ _ hmem hnewest hall

theorem State.hasOpen_iff_exists (s : State) : s.hasOpen = true ↔ ∃ e ∈ s.edits, e.state = .opened := by
  unfold State.hasOpen
  rw [List.any_eq_true]
  simp only [beq_iff_eq]

theorem State.openMask_of_open {s : State} (h : (∃ e ∈ s.edits, e.state = .opened) ∨ s.store.config.panelTaps = 0#4) : s.openMask = s :=
  if_pos (h.imp_left s.hasOpen_iff_exists.mpr)

theorem State.openMask_eq {s : State} (htaps : s.store.config.panelTaps ≠ 0#4) (hopen : ∀ e ∈ s.edits, e.state ≠ .opened) :
    s.openMask = s.takeOrWiden s.maskRange (widenForMask s.liveEdge s.edits s.maskRange) :=
  if_neg (not_or.mpr ⟨(not_congr s.hasOpen_iff_exists).mpr fun ⟨e, he, h⟩ => hopen e he h, htaps⟩)

/-- In the running phase the MASK line is lit while an entry is OPEN. -/
theorem State.refreshTally_mask {s : State} (h : s.startUp.phase = .running) : s.refreshTally.panel.tallies.mask = s.hasOpen := by
  rw [State.refreshTally_panel]
  unfold State.tallyConditions
  rw [h]

/-! ### The release (R92) -/

theorem Edit.release_of_ne (l : Word) {e : Edit} (h : e.state ≠ .opened) : e.release l = some e := if_neg h

theorem filterMap_release_of_ne (l : Word) {es : List Edit} (h : ∀ e ∈ es, e.state ≠ .opened) : es.filterMap (Edit.release l) = es := by
  rw [filterMap_eq_of_mem fun e he => Edit.release_of_ne l (h e he)]
  exact List.filterMap_some

theorem State.closeMask_edits (s : State) :
    s.closeMask = { s with edits := (s.edits.filterMap (Edit.release s.liveEdge)).filter fun e => !s.spent e } := by
  unfold State.closeMask State.pruneSpent
  rw [State.spent_withEdits]

theorem State.closeMask_of_none {s : State} (h : ∀ e ∈ s.edits, e.state ≠ .opened ∧ s.spent e = false) : s.closeMask = s := by
  rw [State.closeMask_edits, filterMap_release_of_ne _ fun e he => (h e he).1, List.filter_eq_self.mpr fun e he => by rw [(h e he).2]; rfl]

/-- The OPEN entry alone changes. -/
theorem filterMap_release_of_open (l : Word) {pre post : List Edit} {e : Edit} (hothers : ∀ x ∈ pre ++ post, x.state ≠ .opened) :
    (pre ++ e :: post).filterMap (Edit.release l) = pre ++ (e.release l).toList ++ post := by
  rw [List.filterMap_append, List.filterMap_cons, filterMap_release_of_ne l fun x hx => hothers x (List.mem_append_left _ hx),
    filterMap_release_of_ne l fun x hx => hothers x (List.mem_append_right _ hx)]
  cases e.release l <;> simp

theorem Edit.release_of_open (l : Word) {e : Edit} (h : e.state = .opened) :
    e.release l = if serialLt (reachMax l e.reach) e.start then none else some (e.close (reachMax l e.reach)) := if_pos h

theorem Edit.release_closed {l : Word} {e x : Edit} (h : e.state = .opened) (hx : x ∈ (e.release l).toList) : x.state = .closed := by
  rw [Edit.release_of_open l h] at hx
  split at hx
  · cases hx
  · rw [Option.toList_some, List.mem_singleton] at hx
    rw [hx]
    rfl

/-- After the release no entry is OPEN. -/
theorem State.closeMask_not_open {s : State} {pre post : List Edit} {e : Edit} (hedits : s.edits = pre ++ e :: post) (hopen : e.state = .opened)
    (hothers : ∀ x ∈ pre ++ post, x.state ≠ .opened) : s.closeMask.hasOpen = false := by
  rw [State.closeMask_edits, hedits, filterMap_release_of_open _ hothers, Bool.eq_false_iff, Ne, State.hasOpen_iff_exists]
  rintro ⟨x, hx, hstate⟩
  obtain ⟨hx, -⟩ := (mem_kept s _ x).mp hx
  rw [List.append_assoc, List.mem_append, List.mem_append] at hx
  obtain hx | hx | hx := hx
  · exact hothers x (List.mem_append_left _ hx) hstate
  · rw [Edit.release_closed hopen hx] at hstate
    cases hstate
  · exact hothers x (List.mem_append_right _ hx) hstate

/-- Settles O55: a press takes its range as a DUMP press does, and a release changes the OPEN entry alone. -/
theorem maskPressesOpenAndReleasesClose : Obligations.MaskPressesOpenAndReleasesClose := by
  intro s hrunning hinterval taken
  have hline (level : Bool) (hraw : s.panel.maskLine.raw = level) : s.takeLine .mask = taken level := by
    show s.setLine .mask { s.panel.maskLine with debounced := some s.panel.maskLine.raw, interval := false } = taken level
    rw [← hraw]
    rfl
  refine ⟨fun hraw hdebounced => ?_, fun hraw hdebounced => ?_⟩
  · have htake : s.canTake .mask true = true := (s.canTake_iff .mask true).mpr ⟨hrunning, hinterval, hraw, hdebounced⟩
    have hexec : exec .maskPress s = .next (taken true).openMask.refreshTally := by rw [execMaskPress_eq htake, hline true hraw]
    refine ⟨fun hopen => ?_, ?_⟩
    · rw [hexec, State.openMask_of_open (s := taken true) hopen]
    · intro htaps hopen floor hfloor start new full drop wide hwide
      have hfloor' : (taken true).panelFloor = floor := State.panelFloor_eq hfloor
      have hnew : (taken true).maskRange = new := by
        unfold State.maskRange
        rw [hfloor']
        rfl
      have hpress : (taken true).openMask = (taken true).takeOrWiden new (widenForMask s.liveEdge s.edits new) := by
        rw [State.openMask_eq (s := taken true) htaps hopen, hnew]
        rfl
      refine ⟨_, hexec, ?_, ?_, ?_, fun hnil => ?_, fun hfull => ⟨?_, fun w hnewest hkind => ?_, fun w hnewest hall => ?_⟩⟩ <;>
        rw [hpress, State.takeOrWiden_eq (s := taken true) _ hwide]
      · rfl
      · exact State.takenOrWidened_spent (s := taken true) _
      · exact State.takenOrWidened_takesRange (s := taken true) _
      · have hone := State.takenOrWidened_of_empty (s := taken true) (new := new) (widenForMask s.liveEdge s.edits new) hnil rfl nofun
        refine ⟨hone, ?_⟩
        refine (State.refreshTally_mask ?_).trans ?_
        · exact hrunning
        show ((taken true).takenOrWidened new (widenForMask s.liveEdge s.edits new)).any (fun e => e.state == .opened) = true
        rw [hone]
        rfl
      · exact State.takenOrWidened_length (s := taken true) _ hfull (widenForMask_length ..)
      · exact State.takenOrWidened_widensTo (s := taken true) _ hfull fun hmem => widenForMask_mask _ _ hmem hnewest hkind
      · exact State.takenOrWidened_widensTo (s := taken true) _ hfull fun hmem => widenForMask_drop _ _ hmem hnewest hall
  · have htake : s.canTake .mask false = true := (s.canTake_iff .mask false).mpr ⟨hrunning, hinterval, hraw, hdebounced⟩
    have hexec : exec .maskRelease s = .next (taken false).closeMask.refreshTally := by rw [execMaskRelease_eq htake, hline false hraw]
    refine ⟨fun hnone => ?_, fun pre e post hedits hopen hothers => ?_⟩
    · rw [hexec, State.closeMask_of_none (s := taken false) hnone]
    · intro z closed
      have hdark := State.closeMask_not_open (s := taken false) hedits hopen hothers
      have hclose : (taken false).closeMask = { taken false with edits :=
          (pre ++ (if serialLt z e.start then none else some closed).toList ++ post).filter fun x => !s.spent x } := by
        rw [State.closeMask_edits, show (taken false).edits = pre ++ e :: post from hedits, filterMap_release_of_open _ hothers,
          Edit.release_of_open _ hopen]
        rfl
      refine ⟨_, hexec, ?_, ?_, fun hgone => ?_, fun hstays => ?_⟩
      · refine (State.refreshTally_mask ?_).trans hdark
        rw [hclose]
        exact hrunning
      · rw [hclose]
        rfl
      · rw [hclose, if_pos hgone, Option.toList_none, List.append_nil]
        rfl
      · rw [hclose, if_neg (Bool.eq_false_iff.mp hstays), Option.toList_some, List.append_assoc]
        rfl

end Sys2Proof.Machine
